-- ==== Sys2Proof/Word.lean ====
section
/-! DEFINITION. The word types of the part: bytes of frames, part time and capture-counter stamps. -/

namespace Sys2Proof

/-- A byte of a frame, and every count kept modulo 256 (tags, generations, plan instances). -/
abbrev Byte := BitVec 8

/-- Part time in milliseconds (section 2.4) and capture-counter stamps in ticks (R1), both modulo 2^32. -/
abbrev Stamp := BitVec 32

end Sys2Proof
end

