-- ==== Sys2Proof/Config.lean ====
section
/-! DEFINITION. What the part fixes and what the manual leaves free. -/

namespace Sys2Proof.Config

/-- FREE VALUE (DESIGN CHOICE, log 2). Where the manual says that either of two events or blocks may be taken
first, the order is read from this constant, at the number of free orders consulted so far. It has no body:
every claim holds whatever the order is. -/
opaque freeOrder : Nat → Nat

/-- How many notices one event may deliver; the manual gives no bound (log 9). -/
def settleFuel : Nat := 4096

/-- The part code and design revision that IDENTIFY replies (R187). -/
def partCode : Nat := 416

/-- The design revision of the part this manual describes (R187). -/
def designRevision : Nat := 1

/-- Replies waiting behind the one being formed or sent, at most (R180). -/
def replyListMax : Nat := 8

/-- Journal records held at most (R195). -/
def journalMax : Nat := 32

/-- Restore-stack entries held at most (R91). -/
def stackMax : Nat := 8

/-- Ticks of the 10 MHz reference in one millisecond of part time (R1). -/
def ticksPerMs : Nat := 10000

/-- The longest settings load of a power-on reset, in ms (R198). -/
def loadMaxMs : Nat := 50

/-- The longest settings write, in ms (R199). -/
def storeMaxMs : Nat := 300

/-- The longest gap between two bytes of one frame, in ms (R177). -/
def gapMs : Nat := 5

end Sys2Proof.Config
end

