-- ==== Sys2Proof/Syntax.lean ====
section
/-! DEFINITION. The commands the part takes: one constructor for each row of spec/opcode_table.json. -/

namespace Sys2Proof

/-- The two serial links (R176): Link A to the host, Link B to the operator panel. -/
inductive Link where
  | a | b
  deriving DecidableEq, Repr

/-- A well-framed request frame (Table 10-4): the link it arrived on, its tag and its payload bytes. Its kind
is the constructor that carries it. -/
structure Frame where
  link : Link
  tag : Byte
  payload : List Byte
  deriving DecidableEq, Repr

/-- The commands of the part. A timer expiry says that the timer's interval has run out; a request carries
its whole frame, so that the check order of R182 can be applied to it. -/
inductive Instr where
  /-- The supply rises or RESET is held low (R198). -/
  | powerOnReset
  /-- The settings load ends, `image` being what the configuration memory answered (R198). -/
  | settingsLoadEnd (image : List Byte)
  /-- The soft reset is performed (R185). -/
  | softReset
  /-- A rising edge on the zero-crossing input (R1). -/
  | crossing
  | deadBusTimerExpiry
  /-- The raw level `level` of an input has stood for its debounce count (R21). -/
  | debouncedChange (input : Fin 32) (level : Bool)
  | pulseEnd (feeder : Fin 16)
  | operateTimerExpiry (feeder : Fin 16)
  | pointsBecomeStale
  | holdoffTimerExpiry
  | creditItemExpiry (feeder : Fin 16)
  | restoreDelayExpiry
  | intervalTimerExpiry
  | startDelayTimerExpiry
  | crankOnTimeExpiry (set : Fin 4)
  | crankRestExpiry (set : Fin 4)
  | runUpExpiry (set : Fin 4)
  | syncTimeout (set : Fin 4)
  | unloadTimeout (set : Fin 4)
  | cooldownExpiry (set : Fin 4)
  | runtimeTenthHour (set : Fin 4)
  | lowReserveTimerExpiry
  | stopTimerExpiry
  | rampTick
  | pwmPeriodStart (channel : Fin 6)
  | confirmationTimerExpiry
  | stepTimerExpiry
  | waitTimerExpiry
  | lengthError (link : Link)
  | checkError (link : Link)
  | gapError (link : Link)
  /-- A well-framed request whose kind is not one of Table 10-1 (R182). -/
  | unknownKind (kind : Byte) (frame : Frame)
  /-- The last byte of the reply being sent on `link` has left (R179). -/
  | replyTransmitted (link : Link)
  | supervisionTimerExpiry
  /-- The settings write ends, `readBack` being what was read back from the memory (R199). -/
  | storeWriteEnd (readBack : List Byte)
  | identify (frame : Frame)
  | getStatus (frame : Frame)
  | readFrequency (frame : Frame)
  | readFeeders (frame : Frame)
  | readGensets (frame : Frame)
  | readPv (frame : Frame)
  | readStack (frame : Frame)
  | readJournal (frame : Frame)
  | readEvents (frame : Frame)
  | readConfig (frame : Frame)
  | peekInputs (frame : Frame)
  | readInputs (frame : Frame)
  | collectMarks (frame : Frame)
  | measure (frame : Frame)
  | operateFeeder (frame : Frame)
  | shed (frame : Frame)
  | restoreEntry (frame : Frame)
  | holdEntry (frame : Frame)
  | releaseEntry (frame : Frame)
  | discardEntry (frame : Frame)
  | startGenset (frame : Frame)
  | stopGenset (frame : Frame)
  | resetLockout (frame : Frame)
  | setPvCeiling (frame : Frame)
  | setMode (frame : Frame)
  | blackstartBegin (frame : Frame)
  | blackstartHold (frame : Frame)
  | blackstartResume (frame : Frame)
  | blackstartAbort (frame : Frame)
  | blackstartAck (frame : Frame)
  | clearEvents (frame : Frame)
  | setEventMask (frame : Frame)
  | clearLinkErrors (frame : Frame)
  | reset (frame : Frame)
  | configureSystem (frame : Frame)
  | configureStages (frame : Frame)
  | configureFeeder (frame : Frame)
  | configureGenset (frame : Frame)
  | configurePv (frame : Frame)
  | configureInput (frame : Frame)
  | configurePlan (frame : Frame)
  | configureDirectory (frame : Frame)
  | storeSettings (frame : Frame)
  | pwmActiveLevelEnd (channel : Fin 6)
  deriving DecidableEq, Repr

end Sys2Proof
end

