-- ==== Sys2Proof/WellFormed.lean ====
section
/-! DEFINITION. Which commands are well formed. -/

namespace Sys2Proof

/-- A frame's payload fits a frame: at most 248 bytes beside kind and tag (Table 10-4). -/
def Frame.wf (f : Frame) : Bool := decide (f.payload.length ≤ 248)

/-- A kind is one of Table 10-1. -/
def isKind (k : Byte) : Bool :=
  decide (0x01 ≤ k.toNat ∧ k.toNat ≤ 0x0E) || decide (0x20 ≤ k.toNat ∧ k.toNat ≤ 0x2F)
    || decide (0x40 ≤ k.toNat ∧ k.toNat ≤ 0x48)

/-- What the configuration memory can answer: at most 4,096 bytes (R197). -/
def memoryWf (bs : List Byte) : Bool := decide (bs.length ≤ 4096)

/-- The payload of a BLACKSTART row other than BEGIN: its command code (Table 10-5). -/
def blackstartWf (code : Byte) (f : Frame) : Bool := decide (f.payload = [code])

/-- A command is well formed: its frame fits, UNKNOWN_KIND carries a kind outside Table 10-1, a BLACKSTART row
does not carry another row's command code, and a memory image fits the memory. -/
def Instr.wf : Instr → Bool
  | .settingsLoadEnd image => memoryWf image
  | .storeWriteEnd readBack => memoryWf readBack
  | .unknownKind kind f => f.wf && !isKind kind
  | .blackstartBegin f => f.wf && !(blackstartWf 1 f || blackstartWf 2 f || blackstartWf 3 f || blackstartWf 4 f)
  | .blackstartHold f => blackstartWf 1 f
  | .blackstartResume f => blackstartWf 2 f
  | .blackstartAbort f => blackstartWf 3 f
  | .blackstartAck f => blackstartWf 4 f
  | .identify f => f.wf
  | .getStatus f => f.wf
  | .readFrequency f => f.wf
  | .readFeeders f => f.wf
  | .readGensets f => f.wf
  | .readPv f => f.wf
  | .readStack f => f.wf
  | .readJournal f => f.wf
  | .readEvents f => f.wf
  | .readConfig f => f.wf
  | .peekInputs f => f.wf
  | .readInputs f => f.wf
  | .collectMarks f => f.wf
  | .measure f => f.wf
  | .operateFeeder f => f.wf
  | .shed f => f.wf
  | .restoreEntry f => f.wf
  | .holdEntry f => f.wf
  | .releaseEntry f => f.wf
  | .discardEntry f => f.wf
  | .startGenset f => f.wf
  | .stopGenset f => f.wf
  | .resetLockout f => f.wf
  | .setPvCeiling f => f.wf
  | .setMode f => f.wf
  | .clearEvents f => f.wf
  | .setEventMask f => f.wf
  | .clearLinkErrors f => f.wf
  | .reset f => f.wf
  | .configureSystem f => f.wf
  | .configureStages f => f.wf
  | .configureFeeder f => f.wf
  | .configureGenset f => f.wf
  | .configurePv f => f.wf
  | .configureInput f => f.wf
  | .configurePlan f => f.wf
  | .configureDirectory f => f.wf
  | .storeSettings f => f.wf
  | .powerOnReset | .softReset | .crossing | .deadBusTimerExpiry | .debouncedChange _ _ | .pulseEnd _
  | .operateTimerExpiry _ | .pointsBecomeStale | .holdoffTimerExpiry | .creditItemExpiry _
  | .restoreDelayExpiry | .intervalTimerExpiry | .startDelayTimerExpiry | .crankOnTimeExpiry _
  | .crankRestExpiry _ | .runUpExpiry _ | .syncTimeout _ | .unloadTimeout _ | .cooldownExpiry _
  | .runtimeTenthHour _ | .lowReserveTimerExpiry | .stopTimerExpiry | .rampTick | .pwmPeriodStart _
  | .confirmationTimerExpiry | .stepTimerExpiry | .waitTimerExpiry | .lengthError _ | .checkError _
  | .gapError _ | .replyTransmitted _ | .supervisionTimerExpiry | .pwmActiveLevelEnd _ => true

end Sys2Proof
end

