-- ==== Sys2Proof/Decode.lean ====
section
/-! DEFINITION. Commands from table words. -/

namespace Sys2Proof

/-- The command that a word spells by the bits of spec/opcode_table.json. No row of the table gives bits (every
row's list of fields is empty), so no word spells a command. -/
def decodeTableWord (_nbits _w : Nat) : Option Instr := none

end Sys2Proof
end

