-- ==== Sys2Proof/Machine/State.lean ====
section
/-! DEFINITION. The state of the part, block by block (Table 0-1), as plain data, and its value after reset. -/

namespace Sys2Proof.Machine

/-! ### Timers and events -/

/-- A timer of section 2.4: idle, running with the milliseconds left, paused holding them, or standing
expired (only where a rule says that the timer may stand expired). -/
inductive Timer where
  | idle
  | running (left : Nat)
  | paused (left : Nat)
  | expired
  deriving DecidableEq, Repr

/-- Whether the blocks run, or the settings load of a power-on reset is in progress (R198). -/
inductive Phase where
  | loading | running
  deriving DecidableEq, Repr

/-- The operating modes (R184). The codes of SET_MODE are their positions. -/
inductive Mode where
  | monitor | auto
  deriving DecidableEq, Repr

/-! ### Settings (R197) -/

/-- The nominal frequency of the station, 50,000 or 60,000 mHz (R17). -/
inductive NominalFreq where
  | hz50 | hz60
  deriving DecidableEq, Repr

/-- The output style of a feeder group (section 2.8). -/
inductive Style where
  | pulse | maintained
  deriving DecidableEq, Repr

/-- The bit rates of a link (R176), in the order of setting code 0x14. -/
inductive LineRate where
  | r9600 | r19200 | r57600 | r115200
  deriving DecidableEq, Repr

/-- The system settings, in the code order of Table 10-6. -/
structure SystemSettings where
  fNom : NominalFreq := .hz50
  timeTrim : Int := 0
  styleLow : Style := .pulse
  styleHigh : Style := .pulse
  measTimeoutMs : Nat := 2000
  restoreDelayS : Nat := 30
  restoreIntervalMs : Nat := 2000
  restoreBand : Nat := 300
  restoreStartDelayS : Nat := 20
  srMin : Nat := 150
  startDelayS : Nat := 10
  stopMargin : Nat := 100
  stopDelayS : Nat := 300
  droopOffset : Nat := 200
  droopBand : Nat := 2000
  mlMargin : Nat := 50
  deadConfirmMs : Nat := 5000
  maxAttempts : Nat := 2
  autoBlackstart : Bool := false
  rateA : LineRate := .r115200
  rateB : LineRate := .r115200
  linkBEnabled : Bool := true
  linkErrorReport : Bool := false
  supervision : Nat := 30
  alertLines : Nat := 2
  startMode : Mode := .monitor
  deriving DecidableEq, Repr

/-- The shed settings of Table 5-1. -/
structure ShedSettings where
  threshold : Vector Nat 4 := #v[49000, 48700, 48400, 48000]
  q : Vector Nat 4 := #v[10, 8, 6, 4]
  ufRearm : Nat := 300
  rocofTrip : Nat := 1500
  qr : Nat := 2
  holdoffMs : Nat := 500
  deriving DecidableEq, Repr

/-- The feeder settings of Table 4-1. -/
structure FeederSettings where
  inService : Bool := false
  shedRank : Nat := 0
  ufStage : Nat := 0
  blockKw : Nat := 0
  autoInhibit : Bool := false
  styleOverride : Bool := false
  pulseMs : Nat := 200
  operateMs : Nat := 500
  deriving DecidableEq, Repr

/-- The crank_report setting of Table 7-1, in the order of its values. -/
inductive CrankReport where
  | onTime | rest | both
  deriving DecidableEq, Repr

/-- The set settings of Table 7-1. `runtime` is also GEN's runtime counter (R132). -/
structure SetSettings where
  inService : Bool := false
  ratedKw : Nat := 100
  minLoadKw : Nat := 0
  stepKw : Nat := 0
  energyKws : Nat := 0
  crankOnMs : Nat := 5000
  crankRestMs : Nat := 10000
  crankAttempts : Nat := 3
  runupMs : Nat := 10000
  syncTimeoutMs : Nat := 60000
  unloadTimeoutMs : Nat := 60000
  cooldownMs : Nat := 120000
  crankReport : CrankReport := .onTime
  rankOverride : Nat := 0
  runtime : Nat := 0
  deriving DecidableEq, Repr

/-- The channel settings of Table 8-1. -/
structure PvSettings where
  inService : Bool := false
  ratedKw : Nat := 100
  rampUp : Nat := 10
  hostCeiling : Nat := 0
  fallbackCeiling : Nat := 0
  pwmPeriodMs : Nat := 10
  inverted : Bool := false
  deriving DecidableEq, Repr

/-- The event modes of an input (section 2.4 of chapter 2). -/
inductive EventMode where
  | none | level | rising | falling | any
  deriving DecidableEq, Repr

/-- The two event categories (section 11.1). -/
inductive Category where
  | protection | advisory
  deriving DecidableEq, Repr

/-- The input settings of section 2.1 of chapter 2. -/
structure InputSettings where
  debounce : Nat := 10
  latch : Bool := false
  mode : EventMode := .none
  category : Category := .advisory
  deriving DecidableEq, Repr

/-- The seven step kinds of section 9.2, in the order of Table 10-9. -/
inductive StepKind where
  | startLead | closeFeeder | wait | waitStable | startNext | releasePv | stop
  deriving DecidableEq, Repr

/-- One step of a black-start plan (Table 10-9). The step kind END is `StepKind.stop`. -/
structure PlanStep where
  kind : StepKind
  object : Nat
  param : Nat
  timeout : Nat
  skippable : Bool
  deriving DecidableEq, Repr

/-- A black-start plan: 0..12 steps and its instance number (section 9.2). -/
structure Plan where
  steps : List PlanStep := []
  inst : Byte := 0
  deriving DecidableEq, Repr

/-- The working settings (R197). The default values are those of a defaulted load (R198). -/
structure Settings where
  sys : SystemSettings := {}
  stages : ShedSettings := {}
  feeders : Vector FeederSettings 16 := Vector.replicate 16 {}
  sets : Vector SetSettings 4 := Vector.replicate 4 {}
  channels : Vector PvSettings 6 := Vector.replicate 6 {}
  inputs : Vector InputSettings 32 := Vector.replicate 32 {}
  directory : Vector (Option (Fin 4)) 4 := Vector.replicate 4 none
  plans : Vector Plan 4 := Vector.replicate 4 {}
  deriving DecidableEq, Repr

/-! ### Time base -/

/-- The free-running counts of R1 and section 2.4. -/
structure TimeBase where
  /-- The capture counter, in ticks of the 10 MHz reference. -/
  capture : Stamp := 0
  /-- Part time, in milliseconds. -/
  part : Stamp := 0
  /-- Ticks since the last millisecond of part time, 0..9,999. -/
  sub : Nat := 0
  /-- Milliseconds since the last 100 ms tick of part time, 0..99 (R151, log 10). -/
  tenth : Nat := 0
  /-- The time left of the settings load (R198). -/
  load : Timer := .idle
  deriving DecidableEq, Repr

/-! ### FMON -/

/-- The bus states of Table 1-1, in its order. -/
inductive BusState where
  | dead | settling | live
  deriving DecidableEq, Repr

/-- How the present SETTLING episode began (R13). -/
inductive SettlingOrigin where
  | none | atDead | fromBreak
  deriving DecidableEq, Repr

/-- The present-value record (R10). `eOn` is the stored energy used for the imbalance estimate. -/
structure PresentValue where
  f : Nat
  r : Option Int
  dP : Option Int
  s4 : Nat
  eOn : Option Nat
  seq : BitVec 16
  time : Stamp
  deriving DecidableEq, Repr

/-- The state of the bus frequency monitor (Table 1-3). -/
structure FMon where
  reference : Option Stamp := none
  periodRing : List Nat := []
  freqRing : List Nat := []
  present : Option PresentValue := none
  seq : BitVec 16 := 0
  rejected : Nat := 0
  bus : BusState := .dead
  origin : SettlingOrigin := .none
  deriving DecidableEq, Repr

/-! ### INC -/

/-- The state of one discrete input (Table 2-1), with its pin. -/
structure InputCtl where
  /-- The level standing at the pin. The environment drives it. -/
  raw : Bool := false
  prev : Bool := false
  counter : Nat := 0
  debounced : Bool := false
  lastRead : Bool := false
  view : Bool := false
  flag : Bool := false
  /-- MODEL'S OWN: the present sample made a debounced change that has not been taken yet (log 3). -/
  changeDue : Bool := false
  deriving DecidableEq, Repr

/-! ### MTB -/

/-- One measurement point (R40). -/
structure Point where
  value : Int := 0
  age : Nat := 65535
  stale : Bool := true
  deriving DecidableEq, Repr

/-- The measurement table: 26 points (R40). -/
structure MeasTable where
  feeders : Vector Point 16 := Vector.replicate 16 {}
  sets : Vector Point 4 := Vector.replicate 4 {}
  channels : Vector Point 6 := Vector.replicate 6 {}
  deriving DecidableEq, Repr

/-- The points an update notice or a stale notice names (R44, R46). -/
structure PointNames where
  feeders : List (Fin 16) := []
  sets : List (Fin 4) := []
  channels : List (Fin 6) := []
  deriving DecidableEq, Repr

/-! ### FDT and the line drivers -/

/-- The failure direction of a FAILED feeder (Table 4-2). -/
inductive FailDir where
  | trip | close
  deriving DecidableEq, Repr

/-- The feeder states of Table 4-3. -/
inductive FeederState where
  | closed | opened | opening | closing | failed (dir : FailDir) | outOfService
  deriving DecidableEq, Repr

/-- The origins of an operation request (section 4.2). -/
inductive OpOrigin where
  | autoShed | manualShed | restore | blackstart | host
  deriving DecidableEq, Repr

/-- The causes of a feeder notice (R62). -/
inductive FeederCause where
  | taken | acceptedPosition | complete | failed | external | failureEnded | service
  deriving DecidableEq, Repr

/-- The control state of one feeder (Table 4-2) and its line driver (section 2.8). -/
structure FeederCtl where
  state : FeederState := .outOfService
  timer : Timer := .idle
  origin : Option OpOrigin := none
  generation : Byte := 0
  operated : Bool := false
  shed : Bool := false
  /-- The TRIP line (R35). -/
  trip : Bool := false
  /-- The CLOSE line (R35, R36). -/
  close : Bool := false
  /-- The commanded position, `true` for closed (R34). -/
  commanded : Bool := false
  /-- The running pulse of PULSE style (R35). -/
  pulse : Timer := .idle
  deriving DecidableEq, Repr

/-! ### SHD -/

/-- An item of the recent-shed credit list (R83). -/
structure CreditItem where
  feeder : Fin 16
  snapshot : Int
  expiry : Stamp
  deriving DecidableEq, Repr

/-- An item of the target-trip list (R85). -/
structure TargetItem where
  feeder : Fin 16
  snapshot : Int
  deriving DecidableEq, Repr

/-- The state of the shed unit (Table 5-2). -/
structure Shd where
  counts : Vector Nat 4 := Vector.replicate 4 0
  armed : Vector Bool 4 := Vector.replicate 4 true
  qual : Nat := 0
  holdoff : Timer := .idle
  credit : List CreditItem := []
  targets : List TargetItem := []
  deriving DecidableEq, Repr

/-! ### RST -/

/-- The entry kinds (Table 10-8), in its order. -/
inductive EntryKind where
  | ufShed | rocofShed | manualShed | header
  deriving DecidableEq, Repr

/-- One item of an entry's feeder list (R92). -/
structure StackItem where
  feeder : Fin 16
  generation : Byte
  snapshot : Int
  deriving DecidableEq, Repr

/-- What the header holds in place of a feeder list (R93). -/
structure HeaderRun where
  plan : Fin 4
  inst : Byte
  lead : Fin 4
  deriving DecidableEq, Repr

/-- One entry of the restore stack (R92, R93). -/
structure Entry where
  tag : Byte
  kind : EntryKind
  trigger : Int
  freq : Nat
  pushTime : Stamp
  hold : Bool := false
  merged : Bool := false
  /-- The entry's state: RESTORING when set, STACKED otherwise. -/
  restoring : Bool := false
  items : List StackItem := []
  run : Option HeaderRun := none
  /-- The entry is the restorer's requested target (R107). -/
  requested : Bool := false
  /-- The blocked episode stands on this entry (R105). -/
  blocked : Bool := false
  deriving DecidableEq, Repr

/-- The state of the restore stack (Table 6-1). Position 0, the bottom, is the head of `entries`. -/
structure Rst where
  entries : List Entry := []
  nextTag : Byte := 0
  delay : Timer := .idle
  interval : Timer := .idle
  startDelay : Timer := .idle
  deriving DecidableEq, Repr

/-! ### GEN -/

/-- The eleven set states of Table 7-3, in its order. -/
inductive SetState where
  | unavailable | standby | waitCrank | cranking | crankRest | runUp | syncing | online | unloading
  | cooldown | lockedOut
  deriving DecidableEq, Repr

/-- The origins of a set's sequence (Table 7-2). -/
inductive SetOrigin where
  | none | auto | host | blackstart
  deriving DecidableEq, Repr

/-- The control state of one set (Table 7-2) and its five lines (section 2.9). -/
structure SetCtl where
  state : SetState := .unavailable
  origin : SetOrigin := .none
  attempts : Nat := 0
  timer : Timer := .idle
  /-- The lockout cause of R130, 0 for none. -/
  lockout : Nat := 0
  /-- The part-hour count (R132). -/
  partHour : Nat := 0
  crank : Bool := false
  run : Bool := false
  syncPermit : Bool := false
  openReq : Bool := false
  deadClose : Bool := false
  deriving DecidableEq, Repr

/-- The state of the generation dispatcher (R139). -/
structure Gen where
  sets : Vector SetCtl 4 := Vector.replicate 4 {}
  permit : Option (Fin 4) := none
  queue : List (Fin 4) := []
  grant : Option (Fin 4) := none
  lowReserve : Timer := .idle
  stopTimer : Timer := .idle
  deriving DecidableEq, Repr

/-! ### CUR -/

/-- A PWM generator (R154, R155). -/
structure Pwm where
  present : Nat := 0
  pending : Nat := 0
  /-- Ticks since the period start. -/
  pos : Nat := 0
  /-- The period in force, in ms. -/
  periodMs : Nat := 10
  /-- The polarity in force. -/
  inverted : Bool := false
  /-- The line stands at its active level. -/
  active : Bool := false
  deriving DecidableEq, Repr

/-- The control state of one photovoltaic channel (R141). -/
structure ChannelCtl where
  latch : Bool := true
  release : Nat := 0
  reference : Option Int := none
  droopLimit : Option Int := none
  share : Option Int := none
  /-- The output limit O_j. -/
  limit : Int := 0
  remainder : Nat := 0
  pwm : Pwm := {}
  deriving DecidableEq, Repr

/-- The state of the curtailment unit (Table 8-2). -/
structure Cur where
  channels : Vector ChannelCtl 6 := Vector.replicate 6 {}
  droopActive : Bool := false
  freeze : Bool := false
  absorbable : Option Int := none
  zeroHold : Bool := true
  supervised : Bool := true
  seqActive : Bool := false
  /-- MODEL'S OWN: the 100 ms tick of part time that has not been taken yet (R151). -/
  rampDue : Bool := false
  deriving DecidableEq, Repr

/-! ### BLK -/

/-- The six states of R158, in its order. -/
inductive BlkState where
  | idle | confirming | waiting | running | held | failed
  deriving DecidableEq, Repr

/-- How a run was begun (R158). -/
inductive RunStart where
  | begin | timer
  deriving DecidableEq, Repr

/-- The run record of R158. -/
structure RunRecord where
  begunBy : Option RunStart := none
  plan : Option (Fin 4) := none
  inst : Byte := 0
  lead : Option (Fin 4) := none
  attempt : Nat := 0
  tried : List (Fin 4) := []
  /-- The index of the current step, 1..12; 0 for none. -/
  step : Nat := 0
  /-- The kind of the current step, kept in FAILED whatever becomes of the plan. -/
  kind : Option StepKind := none
  /-- The current step has begun (a retry made in HELD has not, R172). -/
  begun : Bool := false
  stepTimer : Timer := .idle
  waitTimer : Timer := .idle
  started : List (Fin 4) := []
  clearing : List (Fin 16) := []
  /-- The set a START_NEXT step chose (R169). -/
  nextSet : Option (Fin 4) := none
  holdStack : Bool := false
  holdManual : Bool := false
  /-- The failure cause of R172, 0 for none. -/
  failure : Nat := 0
  deriving DecidableEq, Repr

/-- The state of the black-start sequencer (R175). -/
structure Blk where
  state : BlkState := .idle
  confirm : Timer := .idle
  run : RunRecord := {}
  deriving DecidableEq, Repr

/-! ### LNK -/

/-- The receiver of a link (R177): hunting, or in a frame with the bytes after the start byte received so
far (the length byte first). -/
inductive Receiver where
  | hunting
  | inFrame (got : List Byte)
  deriving DecidableEq, Repr

/-- The line settings that a CONFIGURE_SYSTEM has changed, each with the value that it wrote. The links take these
values, and no others, when its reply has been sent (R176). -/
structure LineChange where
  rateA : Option LineRate := none
  rateB : Option LineRate := none
  linkB : Option Bool := none
  deriving DecidableEq, Repr

/-- A reply frame (R179): its kind, tag and payload (the status byte first). -/
structure Reply where
  kind : Byte
  tag : Byte
  payload : List Byte
  /-- The line settings that the links take when this reply has been sent (R176). -/
  lines : Option LineChange := none
  /-- This is the reply to RESET (R185). -/
  isReset : Bool := false
  deriving DecidableEq, Repr

/-- What stands first in a link's reply list (R180): nothing, a reply being formed (STORE_SETTINGS, R199),
or a reply being sent. -/
inductive CurrentReply where
  | none
  | forming
  | sending (r : Reply)
  deriving DecidableEq, Repr

/-- The state of one link (Table 10-3). -/
structure LinkCtl where
  receiver : Receiver := .hunting
  gap : Timer := .idle
  /-- Bytes that have arrived on the line and that the receiver has not taken yet. The environment adds to it. -/
  lineIn : List Byte := []
  current : CurrentReply := .none
  waiting : List Reply := []
  errCheck : Bool := false
  errGap : Bool := false
  errLength : Bool := false
  errOverrun : Bool := false
  rate : LineRate := .r115200
  enabled : Bool := true
  deriving DecidableEq, Repr

/-- The soft reset that a RESET request has asked for (R185). -/
inductive ResetPhase where
  | none
  /-- The reply to RESET has not been sent yet. -/
  | answering
  /-- The reply has been sent; the reset waits for the other conditions of R185. -/
  | draining
  deriving DecidableEq, Repr

/-- The state of the link interface (Table 10-3). -/
structure Lnk where
  linkA : LinkCtl := {}
  linkB : LinkCtl := {}
  supervised : Bool := true
  supTimer : Timer := .idle
  /-- The location: `true` for LOCAL (R32). -/
  isLocal : Bool := false
  mode : Mode := .monitor
  reset : ResetPhase := .none
  deriving DecidableEq, Repr

/-! ### EVR -/

/-- One journal record (Table 10-10). -/
structure JournalRecord where
  time : Stamp
  kind : Nat
  object : Nat
  value : Int
  deriving DecidableEq, Repr

/-- The state of the event and journal unit (Table 11-1). The words have the bit order of R189. -/
structure Evr where
  protection : BitVec 16 := 0
  advisory : BitVec 16 := 0
  maskProtection : Bool := true
  maskAdvisory : Bool := true
  alert0 : Bool := false
  alert1 : Bool := false
  journal : List JournalRecord := []
  deriving DecidableEq, Repr

/-! ### STO -/

/-- The state of the stored image (Table 11-1): as loaded, or defaulted with the reason code of R198. -/
inductive ImageState where
  | loaded
  | defaulted (reason : Nat)
  deriving DecidableEq, Repr

/-- A settings write in progress (R199). -/
structure StoreWrite where
  image : List Byte
  link : Link
  tag : Byte
  left : Timer
  deriving DecidableEq, Repr

/-- The state of the settings store beside the working settings. -/
structure Sto where
  image : ImageState := .defaulted 1
  write : Option StoreWrite := none
  deriving DecidableEq, Repr

/-! ### Notices -/

/-- The consumers of notices. -/
inductive Consumer where
  | shd | rst | cur | blk | gen
  deriving DecidableEq, Repr

/-- The bus notice of R11. -/
structure BusNotice where
  bus : BusState
  prev : BusState
  brk : Bool := false
  afterDead : Bool := false
  reset : Bool := false
  value : Option PresentValue := none
  deriving DecidableEq, Repr

/-- The cause of a change of a set's state, as the set notice carries it (R117). The manual lists no causes: these,
named after the events of Table 7-3 and its rules, are the model's (DESIGN CHOICE, log 40), and no consumer reads
them. -/
inductive SetCause where
  | startRequest | stopRequest | permit | ready | running | breaker | expiry | lockoutReset | service
  deriving DecidableEq, Repr

/-- The notices that blocks deliver to one another, each addressed to one consumer. -/
inductive Notice where
  /-- The bus notice (R11). -/
  | bus (dest : Consumer) (n : BusNotice)
  /-- The feeder notice (R62). MODEL'S OWN: `turn` says that the feeder left the stack at the change, as the due
  feeder or as the last of its entry, so that the restorer has its turn at the notice (R102, R106, log 9). -/
  | feeder (dest : Consumer) (f : Fin 16) (before after : FeederState) (cause : FeederCause)
      (origin : Option OpOrigin) (turn : Bool)
  /-- The set notice (R117); GEN itself evaluates its dispatch timers at it (R136). -/
  | set (dest : Consumer) (g : Fin 4) (before after : SetState) (cause : SetCause) (origin : SetOrigin)
  /-- A push, merge or removal of a stack entry (R137, R171). -/
  | stack (dest : Consumer)
  /-- The update notice of the measurement table (R44). -/
  | update (dest : Consumer) (names : PointNames)
  /-- The stale notice (R46). -/
  | stale (dest : Consumer) (names : PointNames)
  /-- The mode notice (R184). -/
  | mode (dest : Consumer) (m : Mode)
  /-- The current step of the black-start run is to begin (R165). -/
  | step
  deriving DecidableEq, Repr

/-! ### The whole part -/

/-- The state of the part. -/
structure State where
  phase : Phase := .running
  time : TimeBase := {}
  settings : Settings := {}
  fmon : FMon := {}
  inputs : Vector InputCtl 32 := Vector.replicate 32 {}
  meas : MeasTable := {}
  feeders : Vector FeederCtl 16 := Vector.replicate 16 {}
  shd : Shd := {}
  rst : Rst := {}
  gen : Gen := {}
  cur : Cur := {}
  blk : Blk := {}
  lnk : Lnk := {}
  evr : Evr := {}
  sto : Sto := {}
  /-- MODEL'S OWN: notices of the present event not delivered yet; empty between events (log 9). -/
  notices : List Notice := []
  /-- MODEL'S OWN: the free orders consulted so far (log 2). -/
  draws : Nat := 0
  /-- MODEL'S OWN: the commands waiting, first in, first out. -/
  pending : List Instr := []
  deriving DecidableEq, Repr

/-- Why the part could stop. The manual gives no behaviour that stops it, so the one reason below is raised
by no command. -/
inductive Fault where
  /-- Raised by nothing: the part has no fault (safe, since no claim can rest on it). -/
  | none
  deriving DecidableEq, Repr

/-- Why a command has no meaning. -/
inductive Refusal where
  /-- Raised by `exec` for a command whose meaning is not written yet (safe: nothing is claimed of it). -/
  | notModelled (mnemonic : String)
  deriving DecidableEq, Repr

/-- The part right after a power-on reset whose settings load was defaulted because the configuration
memory did not answer (R198, reason 1), at part time 0 with every pin low: every block at the value of its
reset table (R19, R33, R51, R67, R90, R114, R139, R157, R175, R186, R200). BLK has taken the reset notice and
confirms a dead bus (R175); supervision of Link A runs with its default length (R183). -/
def State.reset : State :=
  { blk := { state := .confirming, confirm := .running 5000 }
    lnk := { supTimer := .running 3000 }
    evr :=
      { advisory := 0x0400
        journal := [{ time := 0, kind := 51, object := 0, value := 1 }] } }

end Sys2Proof.Machine
end

