-- ==== Sys2Proof/Machine/Arith.lean ====
section
/-! DEFINITION. Rounding and clamping (section 2.3), little-endian fields (R188), the two CRCs (R177, R197),
timers (section 2.4) and free orders. -/

namespace Sys2Proof.Machine

/-! ### Rounding and clamping -/

/-- Rounded to nearest, ties away from zero (section 2.3). -/
def roundAway (num : Int) (den : Nat) : Int :=
  num.sign * (((2 * num.natAbs + den) / (2 * den) : Nat) : Int)

/-- Rounded to nearest, halves up, of a quotient that is not negative (section 2.3). -/
def roundHalfUp (num den : Nat) : Nat := (2 * num + den) / (2 * den)

/-- A value clamped to the range `lo..hi` (section 2.3). -/
def clampInt (lo hi x : Int) : Int := max lo (min hi x)

/-- A value that is not negative, clamped to the range `lo..hi` (section 2.3). -/
def clampNat (lo hi x : Nat) : Nat := max lo (min hi x)

/-- An integer clamped to a range of numbers that are not negative. -/
def clampToNat (lo hi : Nat) (x : Int) : Nat := (clampInt lo hi x).toNat

/-! ### Fields of frames and records -/

/-- The `width` low bytes of a number, low byte first (R188). -/
def leBytes : Nat → Nat → List Byte
  | 0, _ => []
  | w + 1, n => BitVec.ofNat 8 n :: leBytes w (n / 256)

/-- A signed number in two's complement in `width` bytes, low byte first (R188). -/
def leBytesInt (width : Nat) (v : Int) : List Byte :=
  leBytes width (BitVec.ofInt (8 * width) v).toNat

/-- The number that bytes spell, low byte first (R188). -/
def ofLe : List Byte → Nat
  | [] => 0
  | b :: bs => b.toNat + 256 * ofLe bs

/-- The signed number that bytes spell in two's complement, low byte first (R188). -/
def ofLeInt (bs : List Byte) : Int := (BitVec.ofNat (8 * bs.length) (ofLe bs)).toInt

/-- One bit as a number. -/
def bit (b : Bool) : Nat := if b then 1 else 0

/-- Yes/no items packed into one number, the first in bit 0 (R188). -/
def packFlags : List Bool → Nat
  | [] => 0
  | b :: bs => bit b + 2 * packFlags bs

/-! ### Cyclic redundancy checks -/

/-- One bit of the CRC-16 with the polynomial 0x1021 (R177). -/
def crc16Bit (c : BitVec 16) : BitVec 16 :=
  if c.msb then (c <<< 1) ^^^ 0x1021 else c <<< 1

/-- One byte of the CRC-16, most significant bit first (R177). -/
def crc16Byte (c : BitVec 16) (b : Byte) : BitVec 16 :=
  Nat.repeat crc16Bit 8 (c ^^^ (b.zeroExtend 16 <<< 8))

/-- The CRC-16 of R177: initial value 0xFFFF, no inversion of the result. -/
def crc16 (bs : List Byte) : BitVec 16 := bs.foldl crc16Byte 0xFFFF

/-- One bit of the CRC-32 of R197, least significant bit first (0xEDB88320 is 0x04C11DB7 mirrored). -/
def crc32Bit (c : BitVec 32) : BitVec 32 :=
  if c.getLsbD 0 then (c >>> 1) ^^^ 0xEDB88320 else c >>> 1

/-- One byte of the CRC-32, least significant bit first (R197). -/
def crc32Byte (c : BitVec 32) (b : Byte) : BitVec 32 :=
  Nat.repeat crc32Bit 8 (c ^^^ b.zeroExtend 32)

/-- The CRC-32 of R197: initial value 0xFFFFFFFF, result inverted. -/
def crc32 (bs : List Byte) : BitVec 32 := ~~~ (bs.foldl crc32Byte 0xFFFFFFFF)

/-! ### Timers -/

/-- A timer started with `n` milliseconds. -/
def Timer.start (n : Nat) : Timer := .running n

/-- The time left, 0 when the timer neither runs nor is paused. -/
def Timer.left : Timer → Nat
  | .running n => n
  | .paused n => n
  | _ => 0

/-- The timer runs. -/
def Timer.isRunning : Timer → Bool
  | .running _ => true
  | _ => false

/-- The timer has run out its interval, and its expiry is the next event. -/
def Timer.isDue : Timer → Bool
  | .running 0 => true
  | _ => false

/-- The timer after one millisecond of part time. -/
def Timer.tick : Timer → Timer
  | .running n => .running (n - 1)
  | t => t

/-- A running timer pauses, holding its remaining time. -/
def Timer.pause : Timer → Timer
  | .running n => .paused n
  | t => t

/-- A paused timer runs on from the time it held. -/
def Timer.resume : Timer → Timer
  | .paused n => .running n
  | t => t

/-! ### Free orders -/

/-- `x` placed at position `i` of a list (at its end when the list is shorter). -/
def insertAt {α : Type} : Nat → α → List α → List α
  | 0, x, l => x :: l
  | _ + 1, x, [] => [x]
  | i + 1, x, y :: l => y :: insertAt i x l

/-- The rearrangement of a list that the number `k` picks: every rearrangement is picked by some `k`. -/
def permute {α : Type} : Nat → List α → List α
  | _, [] => []
  | k, x :: l => insertAt (k % (l.length + 1)) x (permute (k / (l.length + 1)) l)

end Sys2Proof.Machine
end

