-- ==== Sys2Proof/Machine/Flags.lean ====
section
/-! DEFINITION. The event and journal unit: event flags, pending states, alert lines and the journal
(chapter 11). -/

namespace Sys2Proof.Machine

/-- The named PROTECTION flags, in the bit order of R189. -/
inductive ProtFlag where
  | busDead | busLive | ufStage1 | ufStage2 | ufStage3 | ufStage4 | rocofShed | rocofCovered | shedShort
  | stackMerged | tripFail | closeFail | genTrip | startFail | bsState
  deriving DecidableEq, Repr

/-- The named ADVISORY flags, in the bit order of R189. -/
inductive AdvFlag where
  | measStale | supervision | location | restoreBlocked | entryRestored | genState | droop | journalHalf
  | journalOverrun | linkError | settingsDefaulted
  deriving DecidableEq, Repr

/-- The bit of a PROTECTION flag in the protection word (R189). -/
def ProtFlag.bit : ProtFlag → Nat
  | .busDead => 0 | .busLive => 1 | .ufStage1 => 2 | .ufStage2 => 3 | .ufStage3 => 4 | .ufStage4 => 5
  | .rocofShed => 6 | .rocofCovered => 7 | .shedShort => 8 | .stackMerged => 9 | .tripFail => 10
  | .closeFail => 11 | .genTrip => 12 | .startFail => 13 | .bsState => 14

/-- The bit of an ADVISORY flag in the advisory word (R189). -/
def AdvFlag.bit : AdvFlag → Nat
  | .measStale => 0 | .supervision => 1 | .location => 2 | .restoreBlocked => 3 | .entryRestored => 4
  | .genState => 5 | .droop => 6 | .journalHalf => 7 | .journalOverrun => 8 | .linkError => 9
  | .settingsDefaulted => 10

/-- The bits of the protection word that name a flag (R189). -/
def protectionMask : BitVec 16 := 0x7FFF

/-- The bits of the advisory word that name a flag (R189). -/
def advisoryMask : BitVec 16 := 0x07FF

/-- The journal kinds of R194. -/
inductive JournalKind where
  | busState | locationChanged | feederFailed | feederExternal | failureEnded | ufStageFired | rocofShed
  | rocofShedMonitor | rocofCovered | shedSupplement | manualShed | stackMerged | entryRemoved
  | stackDiscarded | feederRestored | feederSkipped | restoreBlocked | restoreStartDemand
  | restoreRequested | entryHeld | entryReleased | setAvailability | setStart | crankEnded
  | crankRestEnded | startAborted | setClosedExternally | setOnline | setStop | setStopped | setLockedOut
  | lockoutReset | noSetToStart | droopBegins | droopEnds | blkConfirming | blkWaiting | blkBegun
  | stepDone | stepSkipped | blkHeld | blkResumed | attemptFailed | blkRetry | blkFailed | blkEnded
  | blkAcknowledged | supervisionLost | supervisionRestored | modeChanged | settingsDefaulted
  | settingsStored
  deriving DecidableEq, Repr

/-- The kind codes of R194. -/
def JournalKind.code : JournalKind → Nat
  | .busState => 1 | .locationChanged => 2 | .feederFailed => 3 | .feederExternal => 4
  | .failureEnded => 5 | .ufStageFired => 6 | .rocofShed => 7 | .rocofShedMonitor => 8
  | .rocofCovered => 9 | .shedSupplement => 10 | .manualShed => 11 | .stackMerged => 12
  | .entryRemoved => 13 | .stackDiscarded => 14 | .feederRestored => 15 | .feederSkipped => 16
  | .restoreBlocked => 17 | .restoreStartDemand => 18 | .restoreRequested => 19 | .entryHeld => 20
  | .entryReleased => 21 | .setAvailability => 22 | .setStart => 23 | .crankEnded => 24
  | .crankRestEnded => 25 | .startAborted => 26 | .setClosedExternally => 27 | .setOnline => 28
  | .setStop => 29 | .setStopped => 30 | .setLockedOut => 31 | .lockoutReset => 32
  | .noSetToStart => 33 | .droopBegins => 34 | .droopEnds => 35 | .blkConfirming => 36
  | .blkWaiting => 37 | .blkBegun => 38 | .stepDone => 39 | .stepSkipped => 40 | .blkHeld => 41
  | .blkResumed => 42 | .attemptFailed => 43 | .blkRetry => 44 | .blkFailed => 45 | .blkEnded => 46
  | .blkAcknowledged => 47 | .supervisionLost => 48 | .supervisionRestored => 49 | .modeChanged => 50
  | .settingsDefaulted => 51 | .settingsStored => 52

/-- An update of EVR's state. -/
def State.withEvr (s : State) (h : Evr → Evr) : State := { s with evr := h s.evr }

/-- A PROTECTION flag is set; a flag already set stays set (R190). -/
def setProt (k : ProtFlag) (s : State) : State :=
  s.withEvr fun e => { e with protection := e.protection ||| (1#16 <<< k.bit) }

/-- An ADVISORY flag is set; a flag already set stays set (R190). -/
def setAdv (k : AdvFlag) (s : State) : State :=
  s.withEvr fun e => { e with advisory := e.advisory ||| (1#16 <<< k.bit) }

/-- The journal after a record has been added: at 32 records the oldest leaves to make room (R195). -/
def journalPush (j : List JournalRecord) (r : JournalRecord) : List JournalRecord :=
  (if j.length < Config.journalMax then j else j.drop (j.length + 1 - Config.journalMax)) ++ [r]

/-- A record is added to the journal at the present part time (R195). JOURNAL_OVERRUN is set when a record
was lost, and JOURNAL_HALF when the addition leaves exactly 16. -/
def journal (k : JournalKind) (object : Nat) (value : Int) (s : State) : State :=
  let lost := Config.journalMax ≤ s.evr.journal.length
  let half := s.evr.journal.length + 1 = 16
  let s := s.withEvr fun e =>
    { e with journal := journalPush e.journal ⟨s.time.part, k.code, object, value⟩ }
  if lost then setAdv .journalOverrun s else if half then setAdv .journalHalf s else s

/-- The set input flags that count in a category (R192). -/
def inputPending (s : State) (c : Category) : Bool :=
  (List.finRange 32).any fun i => s.inputs[i].flag && decide (s.settings.inputs[i].category = c)

/-- PROTECTION is pending: at least one of its flags is set (R192). -/
def protectionPending (s : State) : Bool :=
  decide (s.evr.protection ≠ 0) || inputPending s .protection

/-- ADVISORY is pending (R192). -/
def advisoryPending (s : State) : Bool :=
  decide (s.evr.advisory ≠ 0) || inputPending s .advisory

/-- PROTECTION calls for its alert line: pending and unmasked (R193). -/
def protectionCalls (s : State) : Bool := protectionPending s && !s.evr.maskProtection

/-- ADVISORY calls for its alert line: pending and unmasked (R193). -/
def advisoryCalls (s : State) : Bool := advisoryPending s && !s.evr.maskAdvisory

/-- The alert lines take the levels of R193. -/
def driveAlerts (s : State) : State :=
  let p := protectionCalls s
  let a := advisoryCalls s
  s.withEvr fun e =>
    if s.settings.sys.alertLines ≤ 1 then { e with alert0 := p || a, alert1 := false }
    else { e with alert0 := p, alert1 := a }

/-- The input word of R189: bit n is the flag of INn. -/
def inputWord (s : State) : Nat :=
  packFlags ((List.finRange 32).map fun i => s.inputs[i].flag)

end Sys2Proof.Machine
end

