-- ==== Sys2Proof/Machine/Ops.lean ====
section
/-! DEFINITION. The named operations over the blocks' records, and the figures that blocks read from one
another. -/

namespace Sys2Proof.Machine

/-! ### Records -/

/-- An update of one feeder's control state. -/
def modFeeder (f : Fin 16) (h : FeederCtl → FeederCtl) (s : State) : State :=
  { s with feeders := s.feeders.set f (h s.feeders[f]) }

/-- An update of one set's control state. -/
def modSet (g : Fin 4) (h : SetCtl → SetCtl) (s : State) : State :=
  { s with gen := { s.gen with sets := s.gen.sets.set g (h s.gen.sets[g]) } }

/-- An update of one channel's control state. -/
def modChannel (j : Fin 6) (h : ChannelCtl → ChannelCtl) (s : State) : State :=
  { s with cur := { s.cur with channels := s.cur.channels.set j (h s.cur.channels[j]) } }

/-- An update of one input's state. -/
def modInput (i : Fin 32) (h : InputCtl → InputCtl) (s : State) : State :=
  { s with inputs := s.inputs.set i (h s.inputs[i]) }

/-- The state of one link. -/
def State.link (s : State) : Link → LinkCtl
  | .a => s.lnk.linkA
  | .b => s.lnk.linkB

/-- An update of one link's state. -/
def modLink (l : Link) (h : LinkCtl → LinkCtl) (s : State) : State :=
  match l with
  | .a => { s with lnk := { s.lnk with linkA := h s.lnk.linkA } }
  | .b => { s with lnk := { s.lnk with linkB := h s.lnk.linkB } }

/-- An update of the shed unit's state. -/
def modShd (h : Shd → Shd) (s : State) : State := { s with shd := h s.shd }

/-- An update of the restore stack's state. -/
def modRst (h : Rst → Rst) (s : State) : State := { s with rst := h s.rst }

/-- An update of the generation dispatcher's state. -/
def modGen (h : Gen → Gen) (s : State) : State := { s with gen := h s.gen }

/-- An update of the curtailment unit's state. -/
def modCur (h : Cur → Cur) (s : State) : State := { s with cur := h s.cur }

/-- An update of the black-start run record. -/
def modRun (h : RunRecord → RunRecord) (s : State) : State :=
  { s with blk := { s.blk with run := h s.blk.run } }

/-- An update of the bus frequency monitor's state. -/
def modFmon (h : FMon → FMon) (s : State) : State := { s with fmon := h s.fmon }

/-- An update of the link interface's state. -/
def modLnk (h : Lnk → Lnk) (s : State) : State := { s with lnk := h s.lnk }

/-! ### Free orders and notices -/

/-- The next free order (DESIGN CHOICE, log 2). -/
def nextOrder (s : State) : Nat := Config.freeOrder s.draws

/-- The next free order has been consulted. -/
def drawn (s : State) : State := { s with draws := s.draws + 1 }

/-- A notice is delivered to its consumers in a free order, after the notices produced before it. -/
def emit (dests : List Consumer) (mk : Consumer → Notice) (s : State) : State :=
  drawn { s with notices := s.notices ++ (permute (nextOrder s) dests).map mk }

/-- A notice is the next to be delivered. -/
def emitFirst (n : Notice) (s : State) : State := { s with notices := n :: s.notices }

/-- A notice takes any place among the waiting ones, in a free order (log 2). -/
def emitAmong (n : Notice) (s : State) : State :=
  drawn { s with notices := insertAt (nextOrder s % (s.notices.length + 1)) n s.notices }

/-! ### Frequency window and band -/

/-- The nominal frequency in mHz. -/
def NominalFreq.mHz : NominalFreq → Nat
  | .hz50 => 50000
  | .hz60 => 60000

/-- The shortest valid period, in ticks (R3). -/
def NominalFreq.pMin : NominalFreq → Nat
  | .hz50 => 166667
  | .hz60 => 138889

/-- The longest valid period, in ticks (R3). -/
def NominalFreq.pMax : NominalFreq → Nat
  | .hz50 => 250000
  | .hz60 => 208333

/-- The length of the dead-bus timer, in uncorrected ticks (R15). -/
def deadBusTicks (n : NominalFreq) : Nat := 3 * n.pMax

/-- The nominal frequency in force, in mHz. -/
def fNom (s : State) : Nat := s.settings.sys.fNom.mHz

/-- A frequency lies within f_nom ± restore_band, both ends included (R100). -/
def inBand (s : State) (f : Nat) : Bool :=
  decide (fNom s ≤ f + s.settings.sys.restoreBand) && decide (f ≤ fNom s + s.settings.sys.restoreBand)

/-- The present frequency, absent when the present-value record is invalid (R10). -/
def presentFreq (s : State) : Option Nat := s.fmon.present.map (·.f)

/-- The present frequency stands and lies within the restore band. -/
def presentInBand (s : State) : Bool :=
  match presentFreq s with
  | some f => inBand s f
  | none => false

/-- An under-frequency stage count stands above 0 (R101). -/
def stageCountStands (s : State) : Bool := s.shd.counts.toList.any (0 < ·)

/-- The part time in milliseconds, wrapped, after a number of milliseconds. -/
def partTimeAfter (s : State) (ms : Nat) : Stamp := s.time.part + BitVec.ofNat 32 ms

/-! ### Debounced inputs (section 2.1 of chapter 2) -/

/-- The debounced breaker status of a feeder: `true` for closed. -/
def feederStatus (s : State) (f : Fin 16) : Bool := (s.inputs[f.val]'(by omega)).debounced

/-- READY of a set. -/
def setReady (s : State) (g : Fin 4) : Bool := (s.inputs[16 + g.val]'(by omega)).debounced

/-- RUNNING of a set. -/
def setRunning (s : State) (g : Fin 4) : Bool := (s.inputs[20 + g.val]'(by omega)).debounced

/-- The breaker input of a set: `true` for closed. -/
def setBreaker (s : State) (g : Fin 4) : Bool := (s.inputs[24 + g.val]'(by omega)).debounced

/-! ### Substitutes and sums (R49, R134) -/

/-- The effective load of a feeder: its point, or its block load when the point is stale (R49, R75). -/
def effectiveLoad (s : State) (f : Fin 16) : Int :=
  if s.meas.feeders[f].stale then s.settings.feeders[f].blockKw else s.meas.feeders[f].value

/-- The output of a set as the reserves count it: its rating when the point is stale (R49). -/
def setOutput (s : State) (g : Fin 4) : Int :=
  if s.meas.sets[g].stale then s.settings.sets[g].ratedKw else s.meas.sets[g].value

/-- The output of a channel: its present limit when the point is stale (R49). -/
def channelOutput (s : State) (j : Fin 6) : Int :=
  if s.meas.channels[j].stale then s.cur.channels[j].limit else s.meas.channels[j].value

/-- The state of a set. -/
def setState (s : State) (g : Fin 4) : SetState := s.gen.sets[g].state

/-- The sets in state ONLINE. -/
def onlineSets (s : State) : List (Fin 4) := (List.finRange 4).filter fun g => setState s g = .online

/-- No set is in state ONLINE. -/
def noneOnline (s : State) : Bool := (onlineSets s).isEmpty

/-- The combined stored energy E_on of the sets in state ONLINE (R126, R134). -/
def storedEnergy (s : State) : Nat := ((onlineSets s).map fun g => s.settings.sets[g].energyKws).sum

/-- The fast reserve R (R78, R134). -/
def fastReserve (s : State) : Int :=
  ((onlineSets s).map fun g =>
    max 0 (min ((s.settings.sets[g].ratedKw : Int) - setOutput s g) s.settings.sets[g].stepKw)).sum

/-- The spinning reserve SR (R134). -/
def spinningReserve (s : State) : Int :=
  ((onlineSets s).map fun g => max 0 ((s.settings.sets[g].ratedKw : Int) - setOutput s g)).sum

/-- The black-start sequencer is RUNNING or HELD. -/
def blkActive (s : State) : Bool :=
  match s.blk.state with
  | .running => true
  | .held => true
  | _ => false

/-- The number of stale points, 0..26 (R50). -/
def staleCount (s : State) : Nat :=
  s.meas.feeders.toList.countP (·.stale) + s.meas.sets.toList.countP (·.stale)
    + s.meas.channels.toList.countP (·.stale)

/-! ### Lead order (R133) -/

/-- The sort key of R133: fixed places first, then by runtime; the set number breaks ties. -/
def leadKey (s : State) (g : Fin 4) : Nat × Nat :=
  if s.settings.sets[g].rankOverride = 0 then (1, s.settings.sets[g].runtime)
  else (0, s.settings.sets[g].rankOverride)

/-- Set `a` comes before set `b` in lead order (R133). -/
def leadBefore (s : State) (a b : Fin 4) : Bool :=
  let ka := leadKey s a
  let kb := leadKey s b
  decide (ka.1 < kb.1) || (decide (ka.1 = kb.1) &&
    (decide (ka.2 < kb.2) || (decide (ka.2 = kb.2) && decide (a < b))))

/-- `g` placed in an ordered list of sets. -/
def leadInsert (s : State) (g : Fin 4) : List (Fin 4) → List (Fin 4)
  | [] => [g]
  | h :: l => if leadBefore s g h then g :: h :: l else h :: leadInsert s g l

/-- The four sets in lead order (R133). -/
def leadOrder (s : State) : List (Fin 4) := (List.finRange 4).foldr (leadInsert s) []

/-- The dispatch lead: the first set in lead order among the sets in STANDBY (R133). -/
def dispatchLead (s : State) : Option (Fin 4) :=
  ((leadOrder s).filter fun g => setState s g = .standby).head?

/-- The lag set: the last set in lead order among the in-service ONLINE sets (R133). -/
def lagSet (s : State) : Option (Fin 4) :=
  ((leadOrder s).filter fun g => s.settings.sets[g].inService && decide (setState s g = .online)).getLast?

end Sys2Proof.Machine
end

