-- ==== Sys2Proof/Machine/Curtail.lean ====
section
/-! DEFINITION. The curtailment unit: ceilings, droop, minimum-load share, output limits, PWM (chapter 8). -/

namespace Sys2Proof.Machine

/-! ### Constraints -/

/-- The in-service channels. -/
def pvInService (s : State) : List (Fin 6) := (List.finRange 6).filter fun j => s.settings.channels[j].inService

/-- The base ceiling of a channel (R142). -/
def baseCeiling (s : State) (j : Fin 6) : Int :=
  if s.cur.channels[j].latch then s.settings.channels[j].fallbackCeiling else s.settings.channels[j].hostCeiling

/-- The release limit of a channel (R144). -/
def releaseLimit (s : State) (j : Fin 6) : Int :=
  (s.settings.channels[j].ratedKw * s.cur.channels[j].release / 100 : Nat)

/-- The effective ceiling E_j (R142). -/
def effectiveCeiling (s : State) (j : Fin 6) : Int :=
  if s.settings.channels[j].inService then
    if s.cur.seqActive then min (baseCeiling s j) (releaseLimit s j) else baseCeiling s j
  else 0

/-- The effective ceilings of all channels. -/
def effectiveCeilings (s : State) : List Int := (List.finRange 6).map (effectiveCeiling s)

/-- A constraint taken into a minimum when it is present. -/
def minPresent (a : Int) : Option Int → Int
  | some b => min a b
  | none => a

/-- The target of a channel (R150); droop limit and minimum-load share are applied in AUTO only (R153). -/
def pvTarget (s : State) (j : Fin 6) : Int :=
  if s.settings.channels[j].inService then
    match s.lnk.mode with
    | .monitor => effectiveCeiling s j
    | .auto =>
      if s.cur.zeroHold then 0
      else
        minPresent (minPresent (effectiveCeiling s j) s.cur.channels[j].droopLimit) s.cur.channels[j].share
  else 0

/-- The duty of a limit, in per mille of the rating (R154). -/
def dutyOf (limit : Int) (rated : Nat) : Nat := clampToNat 0 1000 (limit * 1000 / rated)

/-- A channel takes an output limit and a ramp remainder; the pending duty follows (R154). -/
def setLimit (j : Fin 6) (limit : Int) (rem : Nat) (s : State) : State :=
  modChannel j (fun c =>
    { c with
      limit := limit, remainder := rem
      pwm := { c.pwm with pending := dutyOf limit s.settings.channels[j].ratedKw } }) s

/-- The output limit and the ramp remainder of one channel after its target has been recomputed: in AUTO a target at
or below O_j applies at once (R150); in MONITOR O_j is E_j, or 0 while the bus is DEAD (R153). -/
def limitAtTarget (s : State) (j : Fin 6) : Int × Nat :=
  let c := s.cur.channels[j]
  match s.lnk.mode with
  | .monitor => (if s.fmon.bus = .dead then 0 else effectiveCeiling s j, 0)
  | .auto => if pvTarget s j ≤ c.limit then (pvTarget s j, 0) else (c.limit, c.remainder)

/-- One channel takes the limit that its recomputed target gives it (R150, R153). -/
def applyTarget (j : Fin 6) (s : State) : State := setLimit j (limitAtTarget s j).1 (limitAtTarget s j).2 s

/-- The targets of all channels are recomputed: at a change of mode, at a bus notice that changes a droop limit or the
zero hold, at a CONFIGURE_PV that changes in_service, rated_kw or a ceiling, and in MONITOR at a change of the bus state
(R140, R146, R147, R150, R152, R153). -/
def applyTargets (s : State) : State := (List.finRange 6).foldl (fun s j => applyTarget j s) s

/-- What bears on one channel's target alone: the inputs of the table of R142, and the minimum-load share. -/
structure Constraints where
  inService : Bool
  base : Int
  /-- The release limit, present while the sequencer is active. -/
  release : Option Int
  share : Option Int
  deriving DecidableEq, Repr

/-- The inputs of a channel's ceiling and its share as they stand. -/
def constraintsOf (s : State) (j : Fin 6) : Constraints :=
  { inService := s.settings.channels[j].inService, base := baseCeiling s j
    release := if s.cur.seqActive then some (releaseLimit s j) else none, share := s.cur.channels[j].share }

/-- After an event that has led from `old` to `s`, CUR recomputes the target of each channel of which an input of the
effective ceiling, or the share, has changed; R142 and R149 speak of "the channel's target", and a channel with the
inputs and the share it had keeps limit and remainder (R142 to R144, R149; that a value written again is no change is
DEDUCED, log 41). -/
def retarget (old s : State) : State :=
  (List.finRange 6).foldl
    (fun t j => if constraintsOf s j = constraintsOf old j then t else applyTarget j t) s

/-! ### Minimum-load share -/

/-- The absorbable amount A (R148). -/
def absorbableAmount (s : State) : Int :=
  ((pvInService s).map (channelOutput s)).sum
    + ((onlineSets s).map fun g => s.meas.sets[g].value - (s.settings.sets[g].minLoadKw : Int)).sum
    - (s.settings.sys.mlMargin : Int)

/-- The output point of some set in state ONLINE is stale (R149). -/
def onlineStale (s : State) : Bool := (onlineSets s).any fun g => s.meas.sets[g].stale

/-- The share of a channel for an absorbable amount (R148). -/
def shareFor (s : State) (a : Int) (j : Fin 6) : Option Int :=
  if !s.settings.channels[j].inService || noneOnline s
      || decide (((pvInService s).map (effectiveCeiling s)).sum ≤ a) then none
  else
    some ((max 0 a * s.settings.channels[j].ratedKw).tdiv
      ((pvInService s).map fun i => s.settings.channels[i].ratedKw).sum)

/-- CUR computes the minimum-load shares afresh, or keeps them frozen (R148, R149). -/
def newShares (s : State) : State :=
  if onlineStale s then modCur (fun c => { c with freeze := true }) s
  else
    let a := absorbableAmount s
    let t := modCur (fun c => { c with freeze := false, absorbable := some a }) s
    (List.finRange 6).foldl (fun t j => modChannel j (fun c => { c with share := shareFor s a j }) t) t

/-- CUR recomputes the minimum-load shares, and the targets of the channels whose share changes (R149). -/
def recomputeShares (s : State) : State := retarget s (newShares s)

/-- After an event that has led from `old` to `s` and may have changed an effective ceiling: a change recomputes the
shares, and the target of each channel follows its inputs and share (R142, R149, R150). The shares come first: a stale
channel counts with the output limit that stood before the lowered target is applied (DESIGN CHOICE, log 47). -/
def ceilingsChanged (old s : State) : State :=
  retarget old (if effectiveCeilings s = effectiveCeilings old then s else newShares s)

/-! ### Droop -/

/-- The droop limit of a reference at a frequency (R146). -/
def droopLimitAt (s : State) (f : Nat) (reference : Int) : Int :=
  let x : Int := f - fNom s - s.settings.sys.droopOffset
  let removed := clampInt 0 1000 ((x * 1000).tdiv s.settings.sys.droopBand)
  (reference * (1000 - removed)).tdiv 1000

/-- The droop limits are recomputed at a frequency value (R146). -/
def recomputeDroop (f : Nat) (s : State) : State :=
  (List.finRange 6).foldl (fun s j =>
    modChannel j (fun c => { c with droopLimit := c.reference.map (droopLimitAt s f) }) s) s

/-- The onset freezes the references of the in-service channels (R145). -/
def droopOnset (f : Nat) (s : State) : State :=
  let s := modCur (fun c => { c with droopActive := true }) s
  let s := (List.finRange 6).foldl (fun s j =>
    modChannel j (fun c =>
      { c with reference := if s.settings.channels[j].inService then some (channelOutput s j) else none }) s) s
  recomputeDroop f (journal .droopBegins 0 f (setAdv .droop s))

/-- The end of a droop episode, with the value of its record (R147). -/
def droopEnd (v : Int) (s : State) : State :=
  let s := modCur (fun c => { c with droopActive := false }) s
  let s := (List.finRange 6).foldl (fun s j =>
    modChannel j (fun c => { c with reference := none, droopLimit := none }) s) s
  journal .droopEnds 0 v (setAdv .droop s)

/-- The droop at a frequency value: onset, end, or new limits (R145 to R147). -/
def droopAtValue (f : Nat) (s : State) : State :=
  let onset := fNom s + s.settings.sys.droopOffset
  if s.cur.droopActive then
    if f + 50 ≤ onset then droopEnd f s else recomputeDroop f s
  else if onset < f then droopOnset f s
  else s

/-! ### Notices to CUR -/

/-- The zero hold and the droop at the notices that enter DEAD and LIVE (R147, R152). -/
def curBusChange (n : BusNotice) (s : State) : State :=
  if n.bus = n.prev then s
  else
    match n.bus with
    | .dead =>
      let s := modCur (fun c => { c with zeroHold := true }) s
      if s.cur.droopActive then droopEnd 0 s else s
    | .live => modCur (fun c => { c with zeroHold := false }) s
    | .settling => s

/-- A notice that has led from `old` to `s` has begun or ended a droop episode, changed a droop limit, or set or
cleared the zero hold (R146, R147, R152). -/
def holdOrDroopMoved (old s : State) : Bool :=
  decide (s.cur.zeroHold ≠ old.cur.zeroHold) || decide (s.cur.droopActive ≠ old.cur.droopActive)
    || (List.finRange 6).any fun j => decide (s.cur.channels[j].droopLimit ≠ old.cur.channels[j].droopLimit)

/-- CUR takes a bus notice: one that changes a droop limit or the zero hold recomputes the target of every channel, and
in MONITOR a change of the bus state sets every limit (R145 to R147, R150, R152, R153). -/
def curOnBus (n : BusNotice) (s : State) : State :=
  let t := curBusChange n s
  let t :=
    match n.value with
    | some v => droopAtValue v.f t
    | none => t
  if holdOrDroopMoved s t ∨ (n.bus ≠ n.prev ∧ s.lnk.mode = .monitor) then applyTargets t else t

/-- CUR takes a set notice: a change into or out of ONLINE recomputes the shares (R149). -/
def curOnSet (before after : SetState) (s : State) : State :=
  if (before = .online) ≠ (after = .online) then recomputeShares s else s

/-- CUR takes an update notice that names a set or channel point (R149). -/
def curOnUpdate (n : PointNames) (s : State) : State :=
  if n.sets.isEmpty && n.channels.isEmpty then s else recomputeShares s

/-- CUR takes a stale notice: one that names the point of an ONLINE set sets the freeze (R149). -/
def curOnStale (n : PointNames) (s : State) : State :=
  if n.sets.any fun g => setState s g = .online then modCur (fun c => { c with freeze := true }) s else s

/-- CUR takes a supervision notice: a loss sets every fallback latch, a restoration leaves them (R143). -/
def curOnSupervision (present : Bool) (s : State) : State :=
  let t := modCur (fun c => { c with supervised := present }) s
  if present then t
  else
    ceilingsChanged s ((List.finRange 6).foldl
      (fun t j => modChannel j (fun c => { c with latch := true }) t) t)

/-- The release of every channel is set to 0 (R144, R172). -/
def clearReleases (s : State) : State :=
  ceilingsChanged s ((List.finRange 6).foldl (fun t j => modChannel j (fun c => { c with release := 0 }) t) s)

/-- A RELEASE_PV step sets the release of one channel, whose ceiling and target CUR recomputes in any case (R144,
R169). -/
def setRelease (j : Fin 6) (percent : Nat) (s : State) : State :=
  applyTarget j (ceilingsChanged s (modChannel j (fun c => { c with release := percent }) s))

/-- CUR takes the sequencer state notice (R144). -/
def curOnSequencer (before after : BlkState) (s : State) : State :=
  match after with
  | .running =>
    if before = .held then s
    else
      let t := (List.finRange 6).foldl (fun t j => modChannel j (fun c => { c with release := 0 }) t) s
      ceilingsChanged s (modCur (fun c => { c with seqActive := true }) t)
  | .held => s
  | _ => ceilingsChanged s (modCur (fun c => { c with seqActive := false }) s)

/-! ### Ramp and PWM -/

/-- One ramp step of a channel (R151). -/
def rampChannel (j : Fin 6) (s : State) : State :=
  let c := s.cur.channels[j]
  let t := pvTarget s j
  if s.settings.channels[j].inService && decide (c.limit < t) then
    let sum := c.remainder + s.settings.channels[j].rampUp
    let risen := c.limit + (sum / 10 : Nat)
    if t < risen then setLimit j t 0 s else setLimit j risen (sum % 10) s
  else s

/-- The ramp tick (R151); in MONITOR it does nothing (R153). -/
def rampTickStep (s : State) : State :=
  let s := modCur (fun c => { c with rampDue := false }) s
  match s.lnk.mode with
  | .monitor => s
  | .auto => (List.finRange 6).foldl (fun s j => rampChannel j s) s

/-- Ticks of the active level in a period (R154). -/
def Pwm.activeTicks (p : Pwm) : Nat := p.present * p.periodMs * 10

/-- Ticks of a period (R154). -/
def Pwm.periodTicks (p : Pwm) : Nat := p.periodMs * Config.ticksPerMs

/-- The level of the setpoint line, `true` for high (R155). -/
def Pwm.level (p : Pwm) : Bool := p.active != p.inverted

/-- The setpoint output of a channel: the level that its generator drives, `true` for high; none while the settings
load of a power-on reset runs, when the output is not driven (R155). -/
def setpointOutput (s : State) (j : Fin 6) : Option Bool :=
  match s.phase with
  | .loading => none
  | .running => some s.cur.channels[j].pwm.level

/-- A PWM period starts: the pending duty becomes the present duty, and period length and polarity are taken
from the settings (R154, R155). -/
def pwmStart (j : Fin 6) (s : State) : State :=
  let t := s.settings.channels[j]
  modChannel j (fun c =>
    { c with
      pwm :=
        { c.pwm with
          present := c.pwm.pending, pos := 0, periodMs := t.pwmPeriodMs, inverted := t.inverted
          active := decide (0 < c.pwm.pending) } }) s

/-- The active part of a period ends (R154); at a duty of 1,000 it does not end within the period. -/
def pwmActiveEnds (j : Fin 6) (s : State) : State :=
  if s.cur.channels[j].pwm.present < 1000 then
    modChannel j (fun c => { c with pwm := { c.pwm with active := false } }) s
  else s

/-- A write of a channel's settings changes in_service, rated_kw or a ceiling (R140). -/
def ceilingSettingsMoved (old new : PvSettings) : Bool :=
  decide (new.inService ≠ old.inService) || decide (new.ratedKw ≠ old.ratedKw)
    || decide (new.hostCeiling ≠ old.hostCeiling) || decide (new.fallbackCeiling ≠ old.fallbackCeiling)

/-- A CONFIGURE_PV has written a channel's settings, the state before it being `before`: the shares are recomputed
(R149), and the target of every channel when the write has changed in_service, rated_kw or a ceiling (R140, R155). The
shares count the outputs that stood before the targets are applied (log 47). A channel that leaves service loses its
droop limit at once, with the reference that R155 drops (DESIGN CHOICE, log 46). One that returns during a droop with a
stale point takes as its reference the output limit that stood before its target is applied (R145; DESIGN CHOICE, log
51). -/
def pvConfigured (j : Fin 6) (before s : State) : State :=
  let old := before.settings.channels[j]
  let t := s.settings.channels[j]
  let s := modChannel j (fun c =>
    { c with
      reference := c.reference.map (fun r => min r (t.ratedKw : Int))
      pwm := { c.pwm with pending := dutyOf c.limit t.ratedKw } }) s
  let s :=
    if old.inService && !t.inService then
      setLimit j 0 0 (modChannel j (fun c => { c with reference := none, droopLimit := none, share := none }) s)
    else if !old.inService && t.inService && s.cur.droopActive then
      modChannel j (fun c => { c with reference := some (channelOutput s j) }) s
    else s
  if ceilingSettingsMoved old t then applyTargets (newShares s) else retarget before (newShares s)

end Sys2Proof.Machine
end

