-- ==== Sys2Proof/Machine/Stack.lean ====
section
/-! DEFINITION. The restore stack: its entries, its listed feeders and the restorer's target (sections 6.1 and 6.2,
R102). -/

namespace Sys2Proof.Machine

/-! ### The stack -/

/-- An entry lists a feeder. -/
def Entry.lists (e : Entry) (f : Fin 16) : Bool := e.items.any fun i => i.feeder = f

/-- A feeder is listed in the stack. -/
def listed (s : State) (f : Fin 16) : Bool := s.rst.entries.any fun e => e.lists f

/-- The entry is the black-start header. -/
def Entry.isHeader (e : Entry) : Bool := decide (e.kind = .header)

/-- The header stands in the stack. -/
def headerStands (s : State) : Bool := s.rst.entries.any Entry.isHeader

/-- The number of entries other than the header. -/
def entriesAboveHeader (s : State) : Nat := s.rst.entries.countP fun e => !e.isHeader

/-- The top entry. -/
def topEntry (s : State) : Option Entry := s.rst.entries.getLast?

/-- An update of the entry at a position. -/
def modEntry (i : Nat) (h : Entry → Entry) (s : State) : State :=
  modRst (fun r => { r with entries := r.entries.modify i h }) s

/-- BLK and GEN learn of a push, merge or removal of an entry. It reaches BLK before any other notice, so that an entry
above the header holds the run before BLK acts on a notice that is still waiting (R170, R171); GEN takes it in a free
order with the others (R137). -/
def emitStack (s : State) : State := emitFirst (.stack .blk) (emitAmong (.stack .gen) s)

/-- BLK and GEN learn of the discard at the entry into DEAD, each in a free order with the notices that are still
waiting: the discard may reach BLK before or after the dead bus (R171). -/
def emitDiscard (s : State) : State := emitAmong (.stack .gen) (emitAmong (.stack .blk) s)

/-- The entry at a position leaves the stack, and the entries above it move down (R91). -/
def removeEntry (i : Nat) (s : State) : State :=
  emitStack (modRst (fun r => { r with entries := r.entries.eraseIdx i }) s)

/-- A feeder leaves the entry that lists it; an entry whose list becomes empty is removed with
ENTRY_RESTORED and its record (R97, R98). -/
def unlist (f : Fin 16) (s : State) : State :=
  match s.rst.entries.findIdx? fun e => e.lists f with
  | none => s
  | some i =>
    match s.rst.entries[i]? with
    | none => s
    | some e =>
      let items := e.items.filter fun x => x.feeder ≠ f
      if items.isEmpty then
        removeEntry i (journal .entryRemoved e.tag.toNat 0 (setAdv .entryRestored s))
      else modEntry i (fun e => { e with items := items }) s

/-! ### The restorer's target (R102) -/

/-- The restorer's target, with the position of its entry (R102). -/
inductive RestTarget where
  | none
  | automatic (pos : Nat)
  | requested (pos : Nat)
  deriving DecidableEq, Repr

/-- The phases of R102. -/
inductive RestPhase where
  | idle | due | interval
  deriving DecidableEq, Repr

/-- The restorer's target: the requested one while it stands, else the top entry under the conditions of
R102. -/
def restTarget (s : State) : RestTarget :=
  match s.rst.entries.findIdx? (·.requested) with
  | some i => .requested i
  | none =>
    match topEntry s with
    | none => .none
    | some e =>
      if s.lnk.mode = .auto ∧ s.rst.delay = .expired ∧ ¬ e.isHeader ∧ ¬ e.hold then
        .automatic (s.rst.entries.length - 1)
      else .none

/-- The restorer's phase (R102). -/
def restPhase (s : State) : RestPhase :=
  if s.rst.interval.isRunning then .interval
  else
    match restTarget s with
    | .none => .idle
    | _ => .due

/-- The position of the target's entry. -/
def RestTarget.pos : RestTarget → Option Nat
  | .none => Option.none
  | .automatic i => some i
  | .requested i => some i

/-- The due item: the last item of the target's list (R103). -/
def dueItem (s : State) : Option StackItem :=
  match (restTarget s).pos with
  | some i => (s.rst.entries[i]?).bind fun e => e.items.getLast?
  | none => none

/-! ### Listed feeders that leave (R97) -/

/-- The states of a feeder that take it out of the stack (R97). -/
def FeederState.unlists : FeederState → Bool
  | .closing => true
  | .closed => true
  | .outOfService => true
  | _ => false

/-- A listed feeder leaves the stack as it enters a state of R97, one that goes OUT_OF_SERVICE with the record of its
skip (R104). RST does this at the change itself, and the answer says whether the restorer then has its turn at the
feeder notice: the feeder was the due feeder, or its entry has ended (R102, R106, log 9). -/
def leaveStack (f : Fin 16) (new : FeederState) (s : State) : State × Bool :=
  if new.unlists && listed s f then
    let t := unlist f (if new = .outOfService then journal .feederSkipped f 4 s else s)
    (t, (dueItem s).any (fun x => x.feeder = f) || decide (t.rst.entries.length < s.rst.entries.length))
  else (s, false)

end Sys2Proof.Machine
end

