-- ==== Sys2Proof/Machine/FeederTable.lean ====
section
/-! DEFINITION. The feeder table and the feeder line drivers (section 2.8, chapter 4). -/

namespace Sys2Proof.Machine

/-! ### Line driver -/

/-- The other style. -/
def Style.other : Style → Style
  | .pulse => .maintained
  | .maintained => .pulse

/-- The effective style of a feeder under given settings: its group's style, or the other one when its
style_override is set (R34). -/
def effectiveStyle (t : Settings) (f : Fin 16) : Style :=
  let base := if f.val < 8 then t.sys.styleLow else t.sys.styleHigh
  if t.feeders[f].styleOverride then base.other else base

/-- The line command `closed` (close when `true`, open when `false`) in the feeder's effective style
(R35, R36). -/
def lineCommand (f : Fin 16) (closed : Bool) (s : State) : State :=
  match effectiveStyle s.settings f with
  | .pulse =>
    modFeeder f (fun c =>
      { c with
        trip := !closed, close := closed, commanded := closed
        pulse := .running s.settings.feeders[f].pulseMs }) s
  | .maintained =>
    modFeeder f (fun c => { c with trip := false, close := closed, commanded := closed }) s

/-- The line command that FDT gives only in MAINTAINED style (R54, R58, R59, R60). -/
def lineAlign (f : Fin 16) (closed : Bool) (s : State) : State :=
  match effectiveStyle s.settings f with
  | .pulse => s
  | .maintained => lineCommand f closed s

/-- The lines after the effective style has changed to the one now in force (R37). -/
def lineRestyle (f : Fin 16) (s : State) : State :=
  match effectiveStyle s.settings f with
  | .maintained =>
    let closed := feederStatus s f
    modFeeder f (fun c =>
      { c with trip := false, close := closed, commanded := closed, pulse := .idle }) s
  | .pulse => modFeeder f (fun c => { c with trip := false, close := false, pulse := .idle }) s

/-- The lines of every feeder whose effective style was another one under the settings `old` (R37). -/
def linesRestyled (old : Settings) (s : State) : State :=
  (List.finRange 16).foldl
    (fun s f => if effectiveStyle old f = effectiveStyle s.settings f then s else lineRestyle f s) s

/-- The end of a pulse de-asserts its line (R35). -/
def pulseEnds (f : Fin 16) (s : State) : State :=
  if s.feeders[f].pulse.isRunning then
    modFeeder f (fun c => { c with trip := false, close := false, pulse := .idle }) s
  else s

/-! ### Feeder states -/

/-- The answers of FDT to an operation request (section 4.2). -/
inductive OpOutcome where
  | taken | already | refused
  deriving DecidableEq, Repr

/-- The state that follows a breaker status. -/
def stateOfStatus (closed : Bool) : FeederState := if closed then .closed else .opened

/-- A change of a feeder's state, with its feeder notice to SHD, RST and BLK (R62). A listed feeder leaves the stack
at the change (R97). -/
def changeFeeder (f : Fin 16) (new : FeederState) (cause : FeederCause) (s : State) : State :=
  let before := s.feeders[f].state
  let s := modFeeder f (fun c => { c with state := new }) s
  if before = new then s
  else
    let r := leaveStack f new s
    emit [.shd, .rst, .blk] (fun c => .feeder c f before new cause r.1.feeders[f].origin r.2) r.1

/-- The origins whose trips set the SHED mark (R65). -/
def OpOrigin.sheds : OpOrigin → Bool
  | .autoShed => true
  | .manualShed => true
  | _ => false

/-- An operation begins (R55). -/
def beginOperation (f : Fin 16) (closing : Bool) (origin : OpOrigin) (s : State) : State :=
  let s := modFeeder f (fun c =>
    { c with
      timer := .running s.settings.feeders[f].operateMs
      origin := some origin
      shed := c.shed || (!closing && origin.sheds) }) s
  let s := lineCommand f closing s
  changeFeeder f (if closing then .closing else .opening) .taken s

/-- A FAILED feeder's position is accepted by a request for it (R54). -/
def acceptPosition (f : Fin 16) (closed : Bool) (s : State) : State :=
  changeFeeder f (stateOfStatus closed) .acceptedPosition (lineAlign f closed s)

/-- FDT's answer to an operation request, `closing` for a close (R54, R55). -/
def operate (f : Fin 16) (closing : Bool) (origin : OpOrigin) (s : State) : State × OpOutcome :=
  match s.feeders[f].state with
  | .closed => if closing then (s, .already) else (beginOperation f false origin s, .taken)
  | .opened => if closing then (beginOperation f true origin s, .taken) else (s, .already)
  | .failed .trip =>
    if closing then (acceptPosition f true s, .already) else (beginOperation f false origin s, .taken)
  | .failed .close =>
    if closing then (beginOperation f true origin s, .taken) else (acceptPosition f false s, .already)
  | .opening => (s, .refused)
  | .closing => (s, .refused)
  | .outOfService => (s, .refused)

/-- A debounced change of a feeder's status input to `level` (R56, R58, R59, R60). -/
def feederStatusChange (f : Fin 16) (level : Bool) (s : State) : State :=
  let s := modFeeder f (fun c => { c with operated := true }) s
  match s.feeders[f].state with
  | .opening =>
    changeFeeder f .opened .complete (modFeeder f (fun c => { c with timer := .idle }) s)
  | .closing =>
    changeFeeder f .closed .complete (modFeeder f (fun c => { c with timer := .idle }) s)
  | .closed | .opened =>
    if s.feeders[f].state = stateOfStatus level then s
    else
      changeFeeder f (stateOfStatus level) .external
        (lineAlign f level (journal .feederExternal f (bit level) s))
  | .failed _ =>
    changeFeeder f (stateOfStatus level) .failureEnded
      (lineAlign f level (journal .failureEnded f (bit level) s))
  | .outOfService => s

/-- The operate timer of an OPENING or CLOSING feeder expires: the operation has failed (R57). -/
def operateTimerExpires (f : Fin 16) (s : State) : State :=
  let fail (dir : FailDir) (flag : ProtFlag) (v : Int) : State :=
    let s := modFeeder f (fun c => { c with timer := .idle }) s
    changeFeeder f (.failed dir) .failed (journal .feederFailed f v (setProt flag s))
  match s.feeders[f].state with
  | .opening => fail .trip .tripFail 0
  | .closing => fail .close .closeFail 1
  | _ => s

/-- A CONFIGURE_FEEDER has changed in_service to the value now in force (R60). -/
def feederServiceChange (f : Fin 16) (s : State) : State :=
  if s.settings.feeders[f].inService then
    let closed := feederStatus s f
    changeFeeder f (stateOfStatus closed) .service (lineAlign f closed s)
  else
    changeFeeder f .outOfService .service (modFeeder f (fun c => { c with timer := .idle }) s)

end Sys2Proof.Machine
end

