-- ==== Sys2Proof/Machine/Genset.lean ====
section
/-! DEFINITION. The generation dispatcher: set state machines, crank permit, dispatch (chapter 7). -/

namespace Sys2Proof.Machine

/-! ### Lines (Table 7-4, R117, R125, R129) -/

/-- A set is driven when the mode is AUTO or its origin is HOST or BLACKSTART (R129). -/
def driven (s : State) (g : Fin 4) : Bool :=
  match s.lnk.mode, s.gen.sets[g].origin with
  | .auto, _ => true
  | .monitor, .host => true
  | .monitor, .blackstart => true
  | .monitor, _ => false

/-- RUN stands asserted in a state (Table 7-4). -/
def SetState.runs : SetState → Bool
  | .unavailable => false
  | .standby => false
  | .lockedOut => false
  | _ => true

/-- The levels of CRANK, RUN, SYNC_PERMIT and OPEN_REQ by state (Table 7-4). -/
def setLevels (bus : BusState) (c : SetCtl) : SetCtl :=
  { c with
    crank := decide (c.state = .cranking)
    run := c.state.runs
    syncPermit := decide (c.state = .syncing) && decide (bus = .live)
    openReq := decide (c.state = .unloading) }

/-- The lines of a set take the levels of its state when it is driven, or when `force` says that the event
drives it (R117, R129). -/
def driveSet (force : Bool) (g : Fin 4) (s : State) : State :=
  if force || driven s g then modSet g (setLevels s.fmon.bus) s else s

/-- The four conditions of DEAD_CLOSE (R125). -/
def deadCloseStands (s : State) (g : Fin 4) : Bool :=
  decide (s.gen.grant = some g) && decide (setState s g = .syncing) && decide (s.fmon.bus = .dead)
    && decide (s.blk.state = .running)

/-- The lines of every set at the end of an event: driven sets follow Table 7-4, and DEAD_CLOSE follows its
four conditions (R39, R117, R125, R129). -/
def driveSets (s : State) : State :=
  (List.finRange 4).foldl
    (fun s g => modSet g (fun c => { c with deadClose := deadCloseStands s g }) (driveSet false g s)) s

/-! ### Changes of state -/

/-- GEN_STATE is set and a journal record with the set as object is added. -/
def genRecord (k : JournalKind) (g : Fin 4) (v : Int) (s : State) : State :=
  journal k g v (setAdv .genState s)

/-- A set enters a state, with its state timer: its lines follow, the origin returns to NONE on entering
STANDBY or UNAVAILABLE (R116), a grant naming it is dropped when it leaves SYNCING (R125), and the set notice
is delivered with the cause of the change (R117). On entry into STANDBY or UNAVAILABLE the notice carries the origin
that stood before it returned to NONE: the manual does not say which (DESIGN CHOICE, log 40). -/
def enterSet (force : Bool) (cause : SetCause) (g : Fin 4) (new : SetState) (t : Timer) (s : State) : State :=
  let before := setState s g
  let origin := s.gen.sets[g].origin
  let s := modSet g (fun c => { c with state := new, timer := t }) s
  let s := driveSet force g s
  let s := if new = .standby ∨ new = .unavailable then modSet g (fun c => { c with origin := .none }) s else s
  let s :=
    if before = .syncing ∧ new ≠ .syncing ∧ s.gen.grant = some g then modGen (fun n => { n with grant := none }) s
    else s
  if before = new then s else emit [.blk, .cur, .gen] (fun c => .set c g before new cause origin) s

/-- The set leaves the crank queue and releases the permit if it holds either (R120). -/
def leaveCrank (g : Fin 4) (s : State) : State :=
  modGen (fun n =>
    { n with
      queue := n.queue.filter (· ≠ g)
      permit := if n.permit = some g then none else n.permit }) s

/-- The head of the queue takes the free permit and enters CRANKING (R120). -/
def servePermit (s : State) : State :=
  match s.gen.permit, s.gen.queue with
  | none, g :: q =>
    let s := modGen (fun n => { n with permit := some g, queue := q }) s
    let s := modSet g (fun c => { c with attempts := c.attempts + 1 }) s
    enterSet false .permit g .cranking (.running s.settings.sets[g].crankOnMs) s
  | _, _ => s

/-- The state a stopped set rests in: STANDBY when it is in service and READY, UNAVAILABLE otherwise (R118). -/
def restState (s : State) (g : Fin 4) : SetState :=
  if setReady s g && s.settings.sets[g].inService then .standby else .unavailable

/-- The set enters SYNCING with the sync timer started (R124). -/
def enterSyncing (cause : SetCause) (g : Fin 4) (s : State) : State :=
  enterSet false cause g .syncing (.running s.settings.sets[g].syncTimeoutMs) s

/-- The set begins its run-up; a runup_ms of 0 takes it into SYNCING at the same event (R121, R124). -/
def enterRunUp (cause : SetCause) (g : Fin 4) (s : State) : State :=
  let ms := s.settings.sets[g].runupMs
  let s := enterSet false cause g .runUp (.running ms) s
  if ms = 0 then enterSyncing cause g s else s

/-- The set enters ONLINE (R126). -/
def enterOnline (cause : SetCause) (g : Fin 4) (s : State) : State :=
  let s := enterSet false cause g .online .idle s
  genRecord .setOnline g (storedEnergy s) s

/-- The event behind a lockout cause (R130). -/
def lockoutEvent : Nat → SetCause
  | 2 => .running
  | 4 => .breaker
  | 5 => .running
  | _ => .expiry

/-- The set locks out with a cause 1..6 (R130). -/
def lockOut (g : Fin 4) (cause : Nat) (s : State) : State :=
  let s := leaveCrank g s
  let s := modSet g (fun c => { c with lockout := cause }) s
  let s := modGen (fun n => { n with grant := if n.grant = some g then none else n.grant }) s
  let s := enterSet false (lockoutEvent cause) g .lockedOut .idle s
  let s := setProt (if cause ≤ 3 then .startFail else .genTrip) s
  servePermit (journal .setLockedOut g cause s)

/-- A start is aborted into the state `rest` (R123); `v` is 0 for a stop request and 1 for READY. -/
def abortStart (force : Bool) (cause : SetCause) (g : Fin 4) (rest : SetState) (v : Int) (s : State) : State :=
  let s := leaveCrank g s
  let s := enterSet force cause g rest .idle s
  servePermit (genRecord .startAborted g v s)

/-- The cooldown ends (R128); `v` is 0 at its expiry and 1 at a fall of RUNNING. -/
def endCooldown (cause : SetCause) (g : Fin 4) (v : Int) (s : State) : State :=
  genRecord .setStopped g v (enterSet false cause g (restState s g) .idle s)

/-- The breaker has opened in UNLOADING: COOLDOWN, which a cooldown_ms of 0 ends at that event (R128). -/
def enterCooldown (g : Fin 4) (s : State) : State :=
  let ms := s.settings.sets[g].cooldownMs
  let s := enterSet false .breaker g .cooldown (.running ms) s
  if ms = 0 then endCooldown .breaker g 0 s else s

/-- The codes of the origins in journal records (R119, R127) and in READ_GENSETS (R138). The manual gives NONE no code,
and its place in Table 7-2 is taken by another origin's; it is 0 here (DESIGN CHOICE, log 39). -/
def SetOrigin.code : SetOrigin → Nat
  | .none => 0
  | .auto => 1
  | .host => 2
  | .blackstart => 3

/-- A start request (R119). The answer says whether it was taken. -/
def startSet (g : Fin 4) (origin : SetOrigin) (s : State) : State × Bool :=
  if setState s g = .standby then
    let s := modSet g (fun c => { c with attempts := 0, origin := origin, lockout := 0 }) s
    let s := genRecord .setStart g origin.code s
    if setRunning s g then (enterRunUp .startRequest g s, true)
    else
      let s := enterSet false .startRequest g .waitCrank .idle s
      (servePermit (modGen (fun n => { n with queue := n.queue ++ [g] }) s), true)
  else (s, false)

/-- The states in which a set may be stopped (R127). -/
def SetState.stoppable : SetState → Bool
  | .standby => false
  | .unavailable => false
  | .lockedOut => false
  | _ => true

/-- The states of a start in progress (R136). -/
def SetState.starting : SetState → Bool
  | .waitCrank => true
  | .cranking => true
  | .crankRest => true
  | .runUp => true
  | .syncing => true
  | _ => false

/-- A stop request (R127). `force` drives the lines whatever the mode (R129, change to MONITOR). -/
def stopSet (force : Bool) (g : Fin 4) (origin : SetOrigin) (s : State) : State :=
  let st := setState s g
  if st.stoppable then
    let s := modSet g (fun c => { c with origin := origin }) s
    if st = .online then
      let s := enterSet force .stopRequest g .unloading (.running s.settings.sets[g].unloadTimeoutMs) s
      genRecord .setStop g origin.code s
    else if st.starting then abortStart force .stopRequest g (restState s g) 0 s
    else s
  else s

/-- RESET_LOCKOUT on a set in LOCKED_OUT (R130). With the breaker closed the record "set online" (R126) stands before
the record "lockout reset": the manual gives the two no order (DEDUCED, log 11). -/
def resetLockout (g : Fin 4) (s : State) : State :=
  let s := modSet g (fun c => { c with lockout := 0 }) s
  let s :=
    if setBreaker s g then enterOnline .lockoutReset g (modSet g (fun c => { c with origin := .host }) s)
    else enterSet true .lockoutReset g (restState s g) .idle s
  let code : Int :=
    match setState s g with
    | .online => 7
    | .standby => 1
    | _ => 0
  genRecord .lockoutReset g code s

/-! ### Inputs of a set -/

/-- A debounced change of READY (R118, R123). -/
def readyChange (g : Fin 4) (level : Bool) (s : State) : State :=
  match setState s g with
  | .unavailable =>
    if level && s.settings.sets[g].inService then
      genRecord .setAvailability g 1 (enterSet false .ready g .standby .idle s)
    else s
  | .standby =>
    if level then s else genRecord .setAvailability g 0 (enterSet false .ready g .unavailable .idle s)
  | .waitCrank | .cranking | .crankRest =>
    if level then s else abortStart false .ready g .unavailable 1 s
  | _ => s

/-- A debounced change of RUNNING (R121, R122, R124, R128). -/
def runningChange (g : Fin 4) (level : Bool) (s : State) : State :=
  match setState s g with
  | .waitCrank | .cranking | .crankRest =>
    if level then servePermit (enterRunUp .running g (leaveCrank g s)) else s
  | .runUp | .syncing => if level then s else lockOut g 2 s
  | .online | .unloading => if level then s else lockOut g 5 s
  | .cooldown => if level then s else endCooldown .running g 1 s
  | _ => s

/-- A set has been closed onto the bus by its controller or by hand (R128). -/
def closedExternally (g : Fin 4) (s : State) : State :=
  let s := genRecord .setClosedExternally g 0 s
  let s := leaveCrank g s
  let s := modSet g (fun c => { c with lockout := 0 }) s
  servePermit (enterOnline .breaker g s)

/-- A debounced change of the breaker input (R124, R126, R128, R130). -/
def breakerChange (g : Fin 4) (level : Bool) (s : State) : State :=
  match setState s g with
  | .runUp | .syncing => if level then enterOnline .breaker g s else s
  | .online => if level then s else lockOut g 4 s
  | .unloading => if level then s else enterCooldown g s
  | _ => if level then closedExternally g s else s

/-! ### State timer expiries -/

/-- The failed pulse is reported at the end of the on-time (R121). -/
def CrankReport.atOnTime : CrankReport → Bool
  | .rest => false
  | _ => true

/-- The end of the rest is reported (R122). -/
def CrankReport.atRest : CrankReport → Bool
  | .onTime => false
  | _ => true

/-- The crank on-time expires without RUNNING (R121). Where both are due, the record "crank ended" stands before "set
locked out": the manual gives them no order (DESIGN CHOICE, log 38). -/
def crankOnTimeExpires (g : Fin 4) (s : State) : State :=
  if setState s g = .cranking then
    let s := leaveCrank g s
    let n := s.gen.sets[g].attempts
    let s := if s.settings.sets[g].crankReport.atOnTime then genRecord .crankEnded g n s else s
    if s.settings.sets[g].crankAttempts ≤ n then lockOut g 1 s
    else servePermit (enterSet false .expiry g .crankRest (.running s.settings.sets[g].crankRestMs) s)
  else s

/-- The crank rest expires, and the set rejoins the queue (R122). -/
def crankRestExpires (g : Fin 4) (s : State) : State :=
  if setState s g = .crankRest then
    let s := enterSet false .expiry g .waitCrank .idle s
    let s := modGen (fun n => { n with queue := n.queue ++ [g] }) s
    let s :=
      if s.settings.sets[g].crankReport.atRest then genRecord .crankRestEnded g s.gen.sets[g].attempts s else s
    servePermit s
  else s

/-- The run-up ends (R124). -/
def runUpExpires (g : Fin 4) (s : State) : State :=
  if setState s g = .runUp then enterSyncing .expiry g s else s

/-- The sync timer expires with the breaker open (R124). -/
def syncTimesOut (g : Fin 4) (s : State) : State :=
  if setState s g = .syncing then lockOut g 3 s else s

/-- The unload timer expires with the breaker closed (R128). -/
def unloadTimesOut (g : Fin 4) (s : State) : State :=
  if setState s g = .unloading then lockOut g 6 s else s

/-- The cooldown ends (R128). -/
def cooldownExpires (g : Fin 4) (s : State) : State :=
  if setState s g = .cooldown then endCooldown .expiry g 0 s else s

/-- The part-hour count has reached 360,000 ms: a tenth of an hour is added to the runtime (R132). -/
def tenthHour (g : Fin 4) (s : State) : State :=
  let t := s.settings.sets[g]
  let s := modSet g (fun c => { c with partHour := 0 }) s
  { s with settings :=
      { s.settings with sets := s.settings.sets.set g { t with runtime := min 999999 (t.runtime + 1) } } }

/-! ### Automatic dispatch -/

/-- Dispatch is active (R135). -/
def dispatchActive (s : State) : Bool := decide (s.lnk.mode = .auto) && !blkActive s

/-- An automatic start is in progress for a set (R136). -/
def autoStarting (s : State) (g : Fin 4) : Bool :=
  decide (s.gen.sets[g].origin = .auto) && (setState s g).starting

/-- The set of the automatic start in progress, if any (R136). -/
def autoStart (s : State) : Option (Fin 4) := (List.finRange 4).find? (autoStarting s)

/-- A start demand of source 1 (low reserve), 2 (shed) or 3 (restore) (R136). -/
def serveDemand (source : Nat) (s : State) : State :=
  if dispatchActive s then
    match autoStart s with
    | some _ => s
    | none =>
      match dispatchLead s with
      | some g => (startSet g .auto s).1
      | none => journal .noSetToStart 0 source s
  else s

/-- The condition of the low-reserve timer (R136). -/
def lowReserveCondition (s : State) : Bool :=
  decide (s.fmon.bus = .live) && dispatchActive s && decide (spinningReserve s < s.settings.sys.srMin)

/-- The in-service sets in state ONLINE. -/
def inServiceOnline (s : State) : List (Fin 4) := (onlineSets s).filter fun g => s.settings.sets[g].inService

/-- The condition of the stop timer (R137). -/
def stopCondition (s : State) : Bool :=
  dispatchActive s && decide (s.fmon.bus = .live) && decide (2 ≤ (inServiceOnline s).length)
    && s.rst.entries.isEmpty
    && ((List.finRange 4).all fun g => !(setState s g).starting && decide (setState s g ≠ .unloading))
    && (match lagSet s with
        | some g => decide ((s.settings.sys.srMin + s.settings.sys.stopMargin : Int)
            ≤ spinningReserve s - s.settings.sets[g].ratedKw)
        | none => false)

/-- A condition timer: an idle one that finds its condition true starts, a running one that finds it false
goes idle (R136, R137). -/
def conditionTimer (cond : Bool) (ms : Nat) (t : Timer) : Timer :=
  match cond, t.isRunning with
  | true, true => t
  | true, false => .running ms
  | false, _ => .idle

/-- GEN tests the conditions of the low-reserve and stop timers (R136, R137). -/
def evalDispatch (s : State) : State :=
  modGen (fun n =>
    { n with
      lowReserve := conditionTimer (lowReserveCondition s) (1000 * s.settings.sys.startDelayS) n.lowReserve
      stopTimer := conditionTimer (stopCondition s) (1000 * s.settings.sys.stopDelayS) n.stopTimer }) s

/-- The low-reserve timer expires: a demand of source 1 is served and the timer restarts (R136). -/
def lowReserveExpires (s : State) : State :=
  if s.gen.lowReserve.isRunning then
    modGen (fun n => { n with lowReserve := .running (1000 * s.settings.sys.startDelayS) }) (serveDemand 1 s)
  else s

/-- The stop timer expires: the lag set is stopped (R137). -/
def stopTimerExpires (s : State) : State :=
  if s.gen.stopTimer.isRunning then
    let s := modGen (fun n => { n with stopTimer := .idle }) s
    match lagSet s with
    | some g => stopSet false g .auto s
    | none => s
  else s

/-! ### Notices to GEN -/

/-- GEN takes a bus notice: one with a change of bus state makes it test its timers (R117, R136). -/
def genOnBus (n : BusNotice) (s : State) : State := if n.bus = n.prev then s else evalDispatch s

/-- GEN takes the sequencer state notice, the sequencer already standing in its new state: it drops the grant
when the sequencer has left RUNNING (R125) and tests its timers (R135). -/
def genOnSequencer (s : State) : State :=
  let s := if s.blk.state = .running then s else modGen (fun n => { n with grant := none }) s
  evalDispatch s

/-- GEN takes a mode notice: a change to MONITOR first aborts every automatic start, driving its lines
(R129); both changes make it test its timers. -/
def genOnMode (m : Mode) (s : State) : State :=
  let s :=
    match m with
    | .auto => s
    | .monitor =>
      (List.finRange 4).foldl (fun s g => if autoStarting s g then stopSet true g .auto s else s) s
  evalDispatch s

/-- A CONFIGURE_GENSET has changed in_service to the value now in force (R118). -/
def setServiceChange (g : Fin 4) (s : State) : State :=
  match setState s g with
  | .standby =>
    if s.settings.sets[g].inService then s
    else genRecord .setAvailability g 0 (enterSet false .service g .unavailable .idle s)
  | .unavailable =>
    if s.settings.sets[g].inService && setReady s g then
      genRecord .setAvailability g 1 (enterSet false .service g .standby .idle s)
    else s
  | _ => s

end Sys2Proof.Machine
end

