-- ==== Sys2Proof/Machine/Restore.lean ====
section
/-! DEFINITION. The restorer, pushes and the restore stack's responses (chapter 6). -/

namespace Sys2Proof.Machine

/-! ### The restore delay timer (R101) -/

/-- The delay conditions of R101. -/
def delayConditions (s : State) : Bool :=
  decide (s.lnk.mode = .auto) && decide (s.fmon.bus = .live) && presentInBand s && !stageCountStands s

/-- The delay timer restarts with restore_delay, running or paused by the delay conditions (R101). -/
def restartDelay (s : State) : State :=
  let ms := 1000 * s.settings.sys.restoreDelayS
  modRst (fun r => { r with delay := if delayConditions s then .running ms else .paused ms }) s

/-- The delay conditions are tested: a running timer pauses, a paused one runs on (R101). -/
def testDelay (s : State) : State :=
  modRst (fun r => { r with delay := if delayConditions s then r.delay.resume else r.delay.pause }) s

/-! ### The restorer -/

/-- The blocked episode stands (R105). -/
def episodeStands (s : State) : Bool := s.rst.entries.any (·.blocked)

/-- The blocked episode ends, and its start-delay timer goes idle (R105). -/
def endEpisode (s : State) : State :=
  modRst (fun r =>
    { r with startDelay := .idle, entries := r.entries.map fun e => { e with blocked := false } }) s

/-- The blocked episode ends when the restorer has lost its automatic target or turned to another entry
(R105). -/
def keepEpisode (s : State) : State :=
  match restTarget s with
  | .automatic i =>
    match s.rst.entries[i]? with
    | some e => if e.blocked then s else endEpisode s
    | none => endEpisode s
  | _ => endEpisode s

/-- A blocked episode begins, when none stands (R105). -/
def beginEpisode (i : Nat) (f : Fin 16) (s : State) : State :=
  if episodeStands s then s
  else
    let s := journal .restoreBlocked f (spinningReserve s) (setAdv .restoreBlocked s)
    let s := modEntry i (fun e => { e with blocked := true }) s
    modRst (fun r => { r with startDelay := .running (1000 * s.settings.sys.restoreStartDelayS) }) s

/-- What an examination of the due item finds (R103, R104, R108). -/
inductive Verdict where
  | wait
  | blocked
  | skip (code : Nat)
  | close
  deriving DecidableEq, Repr

/-- A feeder is FAILED. -/
def isFailed (s : State) (f : Fin 16) : Bool :=
  match s.feeders[f].state with
  | .failed _ => true
  | _ => false

/-- The steps of R103 for an automatic target, with the skips of R104. When more than one cause of a skip stands, the
skip carries the first of R104's table: the manual gives them no precedence (DESIGN CHOICE, log 13). -/
def verdictAuto (s : State) (x : StackItem) : Verdict :=
  if s.feeders[x.feeder].generation ≠ x.generation then .skip 1
  else if s.settings.feeders[x.feeder].autoInhibit then .skip 2
  else if isFailed s x.feeder then .skip 3
  else if s.feeders[x.feeder].state = .opening then .wait
  else if s.fmon.bus ≠ .live ∨ ¬ presentInBand s ∨ stageCountStands s then .wait
  else if spinningReserve s < x.snapshot + s.settings.sys.srMin then .blocked
  else .close

/-- The steps of R103 for a requested target, with the differences of R108; of two causes of a skip the first of
R104's table (DESIGN CHOICE, log 13). -/
def verdictRequested (s : State) (x : StackItem) : Verdict :=
  if s.feeders[x.feeder].generation ≠ x.generation then .skip 1
  else if isFailed s x.feeder then .skip 3
  else if s.feeders[x.feeder].state = .opening then .wait
  else if s.fmon.bus ≠ .live then .wait
  else .close

/-- The restorer closes the due feeder (R103): the entry's state becomes RESTORING, the record is added, the interval
timer starts and a blocked episode ends. The record stands before the one of an entry that ends with this feeder
(DEDUCED, log 11). -/
def restoreClose (i : Nat) (x : StackItem) (s : State) : State :=
  match operate x.feeder true .restore
      (journal .feederRestored x.feeder x.snapshot (modEntry i (fun e => { e with restoring := true }) s)) with
  | (t, .taken) =>
    endEpisode (modRst (fun r => { r with interval := .running t.settings.sys.restoreIntervalMs }) t)
  | _ => s

/-- A skip takes the item out of its entry (R104). -/
def skipItem (x : StackItem) (code : Nat) (s : State) : State :=
  unlist x.feeder (journal .feederSkipped x.feeder code s)

/-- The restorer re-establishes its target and, in phase DUE, examines it; after a skip it examines again at
once (R102 to R104). `n` bounds the skips. -/
def examine : Nat → State → State
  | 0, s => keepEpisode s
  | n + 1, s =>
    let s := keepEpisode s
    if s.rst.interval.isRunning then s
    else
      match (restTarget s).pos, dueItem s with
      | some i, some x =>
        let v :=
          match restTarget s with
          | .requested _ => verdictRequested s x
          | _ => verdictAuto s x
        match v with
        | .wait => s
        | .blocked => beginEpisode i x.feeder s
        | .skip code => examine n (skipItem x code s)
        | .close => restoreClose i x s
      | _, _ => s

/-- The items listed in all entries together. -/
def itemCount (s : State) : Nat := (s.rst.entries.map fun e => e.items.length).sum

/-- The restorer re-establishes its target and examines it when it is due (R102, R106). A standing target whose close
waits in DUE is so examined again at every event of R102, also at one that leaves it the target: R106 names only the
start of a target there (DESIGN CHOICE, log 45). -/
def restorerTurn (s : State) : State := examine (itemCount s + 1) s

/-! ### Pushes -/

/-- The next tag has been given (R94). -/
def tagGiven (s : State) : State := modRst (fun r => { r with nextTag := r.nextTag + 1 }) s

/-- A push onto a stack of fewer than 8 entries (R94). -/
def pushEntry (kind : EntryKind) (trigger : Int) (freq : Nat) (items : List StackItem) (s : State) : State :=
  let e : Entry :=
    { tag := s.rst.nextTag, kind := kind, trigger := trigger, freq := freq, pushTime := s.time.part, items := items }
  tagGiven (modRst (fun r => { r with entries := r.entries ++ [e] }) s)

/-- A push onto a full stack is a merge into the top entry (R95). -/
def mergeTop (kind : EntryKind) (trigger : Int) (freq : Nat) (items : List StackItem) (s : State) : State :=
  let tag := s.rst.nextTag
  let s := modEntry (s.rst.entries.length - 1) (fun e =>
    { e with
      tag := tag, kind := kind, trigger := trigger, freq := freq, pushTime := s.time.part
      items := e.items ++ items, merged := true, requested := false }) s
  journal .stackMerged tag.toNat items.length (setProt .stackMerged (tagGiven s))

/-- A push or, on a full stack, a merge: the restore delay restarts and the restorer re-establishes its
target (R94, R95, R102). The top entry then holds the feeders. -/
def push (kind : EntryKind) (trigger : Int) (freq : Nat) (items : List StackItem) (s : State) : State :=
  let s :=
    if s.rst.entries.length < Config.stackMax then pushEntry kind trigger freq items s
    else mergeTop kind trigger freq items s
  restorerTurn (emitStack (restartDelay s))

/-- An append of supplement items to the entry that lists the failed feeder (R96). -/
def appendItems (failed : Fin 16) (items : List StackItem) (s : State) : State :=
  match s.rst.entries.findIdx? fun e => e.lists failed with
  | some i => modEntry i (fun e => { e with items := e.items ++ items }) s
  | none => s

/-- The black-start header is pushed: every standing entry is removed first (R99). -/
def pushHeader (s : State) : State :=
  let n := s.rst.entries.length
  let s := if n = 0 then s else journal .stackDiscarded 1 n s
  let e : Entry := { tag := s.rst.nextTag, kind := .header, trigger := 0, freq := 0, pushTime := s.time.part }
  restorerTurn (emitStack (restartDelay (tagGiven (modRst (fun r => { r with entries := [e] }) s))))

/-- The black-start sequencer writes the header's fields (R93). -/
def writeHeader (h : HeaderRun) (s : State) : State :=
  modRst (fun r =>
    { r with entries := r.entries.map fun e => if e.isHeader then { e with run := some h } else e }) s

/-- The black-start sequencer removes the header (R99). -/
def removeHeader (s : State) : State :=
  if headerStands s then
    restorerTurn (emitStack (modRst (fun r => { r with entries := r.entries.filter fun e => !e.isHeader }) s))
  else s

/-! ### Timer expiries -/

/-- The restore delay timer expires (R101, R102). -/
def restoreDelayExpires (s : State) : State :=
  if s.rst.delay.isRunning then restorerTurn (modRst (fun r => { r with delay := .expired }) s) else s

/-- The interval timer expires (R103). -/
def intervalExpires (s : State) : State :=
  if s.rst.interval.isRunning then restorerTurn (modRst (fun r => { r with interval := .idle }) s) else s

/-- The start-delay timer expires while a blocked episode stands (R105). -/
def startDelayExpires (s : State) : State :=
  if s.rst.startDelay.isRunning && episodeStands s then
    match dueItem s with
    | some x =>
      let s := journal .restoreStartDemand x.feeder (spinningReserve s) (serveDemand 3 s)
      modRst (fun r => { r with startDelay := .running (1000 * s.settings.sys.restoreStartDelayS) }) s
    | none => s
  else s

/-! ### Notices to RST -/

/-- At the entry into DEAD every entry except the header is removed and the timers go idle (R111). -/
def discardAtDead (s : State) : State :=
  let n := entriesAboveHeader s
  let s :=
    if n = 0 then s
    else
      emitDiscard (modRst (fun r => { r with entries := r.entries.filter Entry.isHeader })
        (journal .stackDiscarded 0 n s))
  modRst (fun r => { r with delay := .idle, interval := .idle, startDelay := .idle }) s

/-- RST takes a bus notice (R101, R106, R111). -/
def rstOnBus (n : BusNotice) (s : State) : State :=
  if n.reset then s
  else if n.bus = .dead ∧ n.prev ≠ .dead then discardAtDead s
  else
    let s := testDelay s
    if n.value.isSome ∨ n.bus ≠ n.prev then restorerTurn s else s

/-- RST takes a feeder notice: the restorer has its turn when the feeder left the stack as the due feeder or ended its
entry, or is the due feeder now (R102, R106). -/
def rstOnFeeder (f : Fin 16) (turn : Bool) (s : State) : State :=
  if turn || (dueItem s).any (fun x => x.feeder = f) then restorerTurn s else s

/-- RST takes a mode notice (R101, R112). -/
def rstOnMode (s : State) : State := restorerTurn (testDelay s)

end Sys2Proof.Machine
end

