-- ==== Sys2Proof/Machine/Shed.lean ====
section
/-! DEFINITION. The shed unit: under-frequency stages, RoCoF shedding, credit, supplement, manual shed
(chapter 5). -/

namespace Sys2Proof.Machine

/-! ### Trips -/

/-- The given feeders are asked to open, in their order; a request that is not answered taken leaves its
feeder out. The items record feeder, generation and snapshot load at the trip (R73, R75, R80). -/
def tripFeeders (origin : OpOrigin) : List (Fin 16) → State → State × List StackItem
  | [], s => (s, [])
  | f :: fs, s =>
    let item : StackItem := ⟨f, s.feeders[f].generation, effectiveLoad s f⟩
    match operate f false origin s with
    | (s', .taken) =>
      let r := tripFeeders origin fs s'
      (r.1, item :: r.2)
    | (s', _) => tripFeeders origin fs s'

/-- Tripped feeders join the recent-shed credit list, each replacing an item it already has (R83). -/
def joinCredit (items : List StackItem) (s : State) : State :=
  let new := items.map fun x => (⟨x.feeder, x.snapshot, partTimeAfter s s.settings.stages.holdoffMs⟩ : CreditItem)
  modShd (fun h =>
    { h with credit := h.credit.filter (fun c => !items.any fun x => x.feeder = c.feeder) ++ new }) s

/-- Tripped feeders join the target-trip list (R85). -/
def joinTargets (items : List StackItem) (s : State) : State :=
  let new := items.map fun x => (⟨x.feeder, x.snapshot⟩ : TargetItem)
  modShd (fun h =>
    { h with targets := h.targets.filter (fun c => !items.any fun x => x.feeder = c.feeder) ++ new }) s

/-- The recent-shed credit C (R83). -/
def creditSum (s : State) : Int := (s.shd.credit.map fun c => max 0 c.snapshot).sum

/-! ### Under-frequency stages -/

/-- The event flag of a stage (R73). -/
def stageFlag (i : Fin 4) : ProtFlag :=
  match i with
  | 0 => .ufStage1
  | 1 => .ufStage2
  | 2 => .ufStage3
  | 3 => .ufStage4

/-- The eligible feeders of a stage, in ascending number (R73). -/
def stageEligible (s : State) (i : Fin 4) : List (Fin 16) :=
  (List.finRange 16).filter fun f =>
    decide (s.feeders[f].state = .closed) && decide (s.settings.feeders[f].shedRank ≠ 0)
      && !s.settings.feeders[f].autoInhibit && decide (s.settings.feeders[f].ufStage = i.val + 1)

/-- The stage counts after a frequency value (R71). -/
def stageCountsAfter (s : State) (f : Nat) : Vector Nat 4 :=
  Vector.ofFn fun i => if f ≤ s.settings.stages.threshold[i] then min 255 (s.shd.counts[i] + 1) else 0

/-- A stage fires: it is disarmed, sheds its feeders in AUTO, and reports (R72, R73, R88). -/
def fireStage (f : Nat) (i : Fin 4) (s : State) : State :=
  let s := modShd (fun h => { h with armed := h.armed.set i false }) s
  match s.lnk.mode with
  | .monitor => journal .ufStageFired (i.val + 1) 0 (setProt (stageFlag i) s)
  | .auto =>
    let r := tripFeeders .autoShed (stageEligible s i) s
    let s := if r.2.isEmpty then r.1 else joinCredit r.2 (push .ufShed (i.val + 1 : Nat) f r.2 r.1)
    serveDemand 2 (journal .ufStageFired (i.val + 1) r.2.length (setProt (stageFlag i) s))

/-- The stages that fire on the counts as they stand (R72). -/
def firingStages (s : State) : List (Fin 4) :=
  (List.finRange 4).filter fun i => s.shd.armed[i] && decide (s.settings.stages.q[i] ≤ s.shd.counts[i])

/-- The disarmed stages that did not fire at this value re-arm at their margin (R74). -/
def rearmStages (f : Nat) (fired : List (Fin 4)) (s : State) : State :=
  modShd (fun h =>
    { h with armed := Vector.ofFn fun i =>
        h.armed[i] || (!fired.contains i && decide (s.settings.stages.threshold[i] + s.settings.stages.ufRearm ≤ f)) }) s

/-- The stage function at a frequency value (R71 to R74). -/
def stageFunction (f : Nat) (s : State) : State :=
  let s := modShd (fun h => { h with counts := stageCountsAfter s f }) s
  let fired := firingStages s
  rearmStages f fired (fired.foldl (fun s i => fireStage f i s) s)

/-! ### RoCoF shedding -/

/-- The RoCoF candidates in order of shed rank and feeder number (R79). -/
def rocofCandidates (s : State) : List (Fin 16) :=
  (List.range 15).flatMap fun k => (List.finRange 16).filter fun f =>
    decide (s.settings.feeders[f].shedRank = k + 1) && decide (s.feeders[f].state = .closed)
      && !s.settings.feeders[f].autoInhibit && decide (0 < effectiveLoad s f)

/-- The candidates taken until their loads reach the amount sought (R79). -/
def takeUntil (s : State) : Int → List (Fin 16) → List (Fin 16)
  | _, [] => []
  | amount, f :: fs => if amount ≤ 0 then [] else f :: takeUntil s (amount - effectiveLoad s f) fs

/-- The selection for an amount (R79). -/
def selection (s : State) (amount : Int) : List (Fin 16) := takeUntil s amount (rocofCandidates s)

/-- The selection for an amount is short: all candidates together stay below it (R79). -/
def selectionShort (s : State) (amount : Int) : Bool :=
  decide (((rocofCandidates s).map (effectiveLoad s)).sum < amount)

/-- The qualification count after a RoCoF value (R76). -/
def qualAfter (s : State) (r : Int) : Nat :=
  if r ≤ -(s.settings.stages.rocofTrip : Int) then min s.settings.stages.qr (s.shd.qual + 1) else 0

/-- The shed target T of an imbalance estimate (R78). -/
def shedTarget (s : State) (dP : Int) : Int := -dP - fastReserve s - creditSum s

/-- The RoCoF function has acted: its count is 0 and the hold-off timer starts (R80, R81). -/
def holdoffStarts (s : State) : State :=
  modShd (fun h => { h with qual := 0, holdoff := .running s.settings.stages.holdoffMs }) s

/-- SHED_SHORT is set when a selection was short (R80, R86, R88). -/
def flagShort (short : Bool) (s : State) : State := if short then setProt .shedShort s else s

/-- A RoCoF shed for the amount T in AUTO (R80). -/
def rocofShed (v : PresentValue) (r t : Int) (s : State) : State :=
  let short := selectionShort s t
  let p := tripFeeders .autoShed (selection s t) s
  let s :=
    if p.2.isEmpty then flagShort true p.1
    else
      flagShort short
        (setProt .rocofShed (joinTargets p.2 (joinCredit p.2 (push .rocofShed r v.f p.2 p.1))))
  serveDemand 2 (journal .rocofShed p.2.length t s)

/-- The RoCoF function acts on a value with an imbalance estimate (R77 to R81, R88). -/
def rocofAct (v : PresentValue) (r dP : Int) (s : State) : State :=
  let t := shedTarget s dP
  let s :=
    if t ≤ 0 then journal .rocofCovered 0 t (setProt .rocofCovered s)
    else
      match s.lnk.mode with
      | .auto => rocofShed v r t s
      | .monitor =>
        journal .rocofShedMonitor (selection s t).length t
          (flagShort (selectionShort s t) (setProt .rocofShed s))
  holdoffStarts s

/-- The RoCoF function at a frequency value (R76, R77). -/
def rocofFunction (v : PresentValue) (s : State) : State :=
  match v.r with
  | none => s
  | some r =>
    let s := modShd (fun h => { h with qual := qualAfter s r }) s
    match v.dP with
    | none => s
    | some dP =>
      if s.shd.qual = s.settings.stages.qr ∧ ¬ s.shd.holdoff.isRunning then rocofAct v r dP s else s

/-! ### Notices to SHD -/

/-- A break zeroes every count (R70). -/
def shdBreak (s : State) : State :=
  modShd (fun h => { h with counts := Vector.replicate 4 0, qual := 0 }) s

/-- The entry into DEAD (R70). -/
def shdDead (s : State) : State := modShd (fun h => { h with holdoff := .idle, credit := [], targets := [] }) s

/-- The two functions take a value, in either order (R84; free order, log 2). -/
def shdValue (v : PresentValue) (s : State) : State :=
  let k := nextOrder s
  let s := drawn s
  if k % 2 = 0 then rocofFunction v (stageFunction v.f s) else stageFunction v.f (rocofFunction v s)

/-- SHD takes a bus notice (R70). -/
def shdOnBus (n : BusNotice) (s : State) : State :=
  let s := if n.brk then shdBreak s else s
  let s := if n.bus = .dead ∧ n.prev ≠ .dead then shdDead s else s
  let s :=
    match n.value with
    | some v => shdValue v s
    | none => s
  if n.bus = .live ∧ n.prev ≠ .live ∧ n.afterDead then
    modShd (fun h => { h with armed := Vector.replicate 4 true }) s
  else s

/-- The trip-failure supplement of a feeder with its snapshot load (R86). ROCOF_SHED is set whatever the number tripped;
SHED_SHORT is set when the selection is short or there is no candidate. -/
def supplement (f : Fin 16) (amount : Int) (s : State) : State :=
  if s.lnk.mode = .auto ∧ s.fmon.bus = .live ∧ listed s f then
    let short := selectionShort s amount || (rocofCandidates s).isEmpty
    let p := tripFeeders .autoShed (selection s amount) s
    journal .shedSupplement f p.2.length
      (flagShort short (setProt .rocofShed (joinTargets p.2 (joinCredit p.2 (appendItems f p.2 p.1)))))
  else journal .shedSupplement f (-1) s

/-- The states of a feeder whose credit item leaves (R83). -/
def FeederState.endsCredit : FeederState → Bool
  | .closing => true
  | .closed => true
  | .failed _ => true
  | _ => false

/-- SHD takes a feeder notice (R83, R85, R86). -/
def shdOnFeeder (f : Fin 16) (after : FeederState) (cause : FeederCause) (s : State) : State :=
  let s :=
    if after.endsCredit then modShd (fun h => { h with credit := h.credit.filter fun c => c.feeder ≠ f }) s else s
  match s.shd.targets.find? fun t => t.feeder = f with
  | none => s
  | some t =>
    let leave := modShd (fun h => { h with targets := h.targets.filter fun t => t.feeder ≠ f }) s
    match cause with
    | .complete => leave
    | .service => leave
    | .failed => if after = .failed .trip then supplement f t.snapshot leave else leave
    | _ => s

/-! ### Timer expiries -/

/-- The hold-off timer expires and goes idle (R82). -/
def holdoffExpires (s : State) : State :=
  if s.shd.holdoff.isRunning then modShd (fun h => { h with holdoff := .idle }) s else s

/-- The credit item of a feeder reaches its expiry time (R83). -/
def creditExpires (f : Fin 16) (s : State) : State :=
  modShd (fun h => { h with credit := h.credit.filter fun c => c.feeder ≠ f }) s

end Sys2Proof.Machine
end

