-- ==== Sys2Proof/Machine/BlackStart.lean ====
section
/-! DEFINITION. The black-start sequencer (chapter 9). -/

namespace Sys2Proof.Machine

/-! ### States and steps -/

/-- BLK changes its state: BS_STATE is set and the sequencer state notice reaches GEN and CUR (R158). -/
def blkEnter (new : BlkState) (s : State) : State :=
  let before := s.blk.state
  if before = new then s
  else
    let s := setProt .bsState { s with blk := { s.blk with state := new } }
    curOnSequencer before new (genOnSequencer s)

/-- BLK returns to IDLE with its run record cleared and its confirmation timer idle (R158, R161, R162). -/
def blkToIdle (s : State) : State :=
  blkEnter .idle { s with blk := { s.blk with confirm := .idle, run := {} } }

/-- The steps of the latched plan. -/
def planSteps (s : State) : List PlanStep :=
  match s.blk.run.plan with
  | some p => s.settings.plans[p].steps
  | none => []

/-- The current step of the run (R165). -/
def currentStep (s : State) : Option PlanStep :=
  if s.blk.run.step = 0 then none else (planSteps s)[s.blk.run.step - 1]?

/-- The kinds that use the step timer (section 9.2). -/
def StepKind.usesTimeout : StepKind → Bool
  | .startLead => true
  | .closeFeeder => true
  | .waitStable => true
  | .startNext => true
  | _ => false

/-- The kind codes of Table 10-9. -/
def StepKind.code : StepKind → Nat
  | .startLead => 0
  | .closeFeeder => 1
  | .wait => 2
  | .waitStable => 3
  | .startNext => 4
  | .releasePv => 5
  | .stop => 6

/-- The lead set as a journal object; all ones when no lead was chosen (R188, log 16). -/
def leadObject (s : State) : Nat :=
  match s.blk.run.lead with
  | some g => g
  | none => 255

/-- BLK withdraws any DEAD_CLOSE grant (R125). -/
def withdrawGrant (s : State) : State := modGen (fun n => { n with grant := none }) s

/-- BLK grants DEAD_CLOSE to a set; a new grant replaces the one held (R125, R166). -/
def giveGrant (g : Fin 4) (s : State) : State := modGen (fun n => { n with grant := some g }) s

/-- The next step begins at the same event, after the notices produced so far (R165). -/
def queueStep (s : State) : State := { s with notices := s.notices ++ [.step] }

/-! ### Clearing and lead choice (R163) -/

/-- Stage 1 of a run's beginning: every feeder whose breaker reads closed and can be operated is opened, and
the feeders in flight go on the clearing list (R163, R164). -/
def clearBus (s : State) : State :=
  let inFlight := (List.finRange 16).filter fun f =>
    decide (s.feeders[f].state = .opening) || decide (s.feeders[f].state = .closing)
  let toOpen := (List.finRange 16).filter fun f =>
    decide (s.feeders[f].state = .closed) || decide (s.feeders[f].state = .failed .trip)
  modRun (fun r => { r with clearing := inFlight })
    (toOpen.foldl (fun s f => (operate f false .blackstart s).1) s)

/-- The plan that the directory names for a set, when it is not empty. -/
def leadPlan (s : State) (g : Fin 4) : Option (Fin 4) :=
  match s.settings.directory[g] with
  | some p => if s.settings.plans[p].steps.isEmpty then none else some p
  | none => none

/-- Stage 2: the lead set, excluding the sets already tried (R163). -/
def chooseLead (s : State) : Option (Fin 4) :=
  ((leadOrder s).filter fun g =>
    decide (setState s g = .standby) && (leadPlan s g).isSome && !s.blk.run.tried.contains g).head?

/-- Stage 4: the lead, its plan and the plan's present instance are latched and written into the header
(R163, R172). The current step becomes step 1, not yet begun. -/
def latchLead (g p : Fin 4) (s : State) : State :=
  let inst := s.settings.plans[p].inst
  let s := modRun (fun r =>
    { r with
      plan := some p, inst := inst, lead := some g, attempt := r.attempt + 1, tried := r.tried ++ [g]
      started := [], step := 1, kind := s.settings.plans[p].steps.head?.map (·.kind), begun := false
      nextSet := none }) s
  writeHeader ⟨p, inst, g⟩ s

/-! ### Failure and retry (R172) -/

/-- The run fails: the header is removed and BLK enters FAILED, keeping the record (R172). -/
def failRun (code : Nat) (s : State) : State :=
  let s := removeHeader s
  let s := modRun (fun r =>
    { r with
      failure := code, clearing := [], begun := false, holdStack := false, holdManual := false
      stepTimer := .idle, waitTimer := .idle }) s
  blkEnter .failed (journal .blkFailed (leadObject s) code s)

/-- The retry of a run with the next lead (R172). A retry that takes BLK from HELD to RUNNING, after the stack cause
alone, adds the record "black start retry" and no "black start resumed": R172 names only the first, and R171 ties the
other to the clearing of the last hold cause (DESIGN CHOICE, log 43). -/
def retryRun (s : State) : State :=
  let s := clearReleases (clearBus s)
  match chooseLead s with
  | none => failRun 1 s
  | some g =>
    match leadPlan s g with
    | none => failRun 1 s
    | some p =>
      let s := journal .blkRetry g p.val (latchLead g p s)
      let s := modRun (fun r => { r with holdStack := false }) s
      if s.blk.run.holdManual then
        if s.blk.state = .held then s else journal .blkHeld 0 2 (blkEnter .held s)
      else queueStep (blkEnter .running s)

/-- An attempt fails with a code of R172; code 5 never retries (R173). -/
def attemptFail (code : Nat) (s : State) : State :=
  let s := withdrawGrant s
  let s := modRun (fun r => { r with begun := false, stepTimer := .idle, waitTimer := .idle }) s
  let s := journal .attemptFailed s.blk.run.attempt code s
  let s :=
    if s.fmon.bus = .dead then s.blk.run.started.foldl (fun s g => stopSet false g .blackstart s) s else s
  if code ≠ 5 ∧ s.fmon.bus = .dead ∧ s.blk.run.attempt < s.settings.sys.maxAttempts then retryRun s
  else failRun code s

/-! ### Steps (R165 to R170) -/

/-- The run turns to the next step (R165). -/
def nextStep (s : State) : State :=
  queueStep (modRun (fun r =>
    { r with
      step := r.step + 1, kind := (planSteps s)[r.step]?.map (·.kind), begun := false
      stepTimer := .idle, waitTimer := .idle, nextSet := none }) s)

/-- The current step completes (R165); a START_LEAD step withdraws its grant (R166). -/
def stepDone (st : PlanStep) (s : State) : State :=
  let s := if st.kind = .startLead then withdrawGrant s else s
  nextStep (journal .stepDone s.blk.run.step st.kind.code s)

/-- The current step ends without completion, by expiry (`expired`) or by a failure at once (R165). -/
def stepFails (st : PlanStep) (expired : Bool) (s : State) : State :=
  if st.skippable then nextStep (journal .stepSkipped s.blk.run.step (if expired then 0 else 1) s)
  else attemptFail (if expired then 2 else 3) s

/-- The run ends: the grant is withdrawn, the header removed, and BLK enters IDLE (R170). -/
def endRun (s : State) : State :=
  let lead := leadObject s
  let attempt := s.blk.run.attempt
  blkToIdle (journal .blkEnded lead attempt (removeHeader (withdrawGrant s)))

/-- A set is started by a plan step, joining the list of started sets (R166, R169). -/
def startByPlan (g : Fin 4) (s : State) : State × Bool :=
  let r := startSet g .blackstart s
  if r.2 then
    (modRun (fun x => { x with started := if x.started.contains g then x.started else x.started ++ [g] }) r.1, true)
  else r

/-- The action of a step at its beginning (R166 to R170). -/
def stepAction (st : PlanStep) (s : State) : State :=
  match st.kind with
  | .startLead =>
    match s.blk.run.lead with
    | none => stepFails st false s
    | some g =>
      if setState s g = .online ∧ s.fmon.bus = .live then stepDone st s
      else
        match startByPlan g s with
        | (s, true) => s
        | (s, false) => stepFails st false s
  | .closeFeeder =>
    if h : st.object < 16 then
      match operate ⟨st.object, h⟩ true .blackstart s with
      | (s, .taken) => s
      | (s, .already) => stepDone st s
      | (s, .refused) => stepFails st false s
    else stepFails st false s
  | .wait =>
    if st.param = 0 then stepDone st s else modRun (fun r => { r with waitTimer := .running st.param }) s
  | .waitStable => s
  | .startNext =>
    match dispatchLead s with
    | none => stepFails st false s
    | some g =>
      match startByPlan g s with
      | (s, true) => modRun (fun r => { r with nextSet := some g }) s
      | (s, false) => stepFails st false s
  | .releasePv =>
    if h : st.object < 6 then
      if s.settings.channels[st.object].inService then stepDone st (setRelease ⟨st.object, h⟩ st.param s)
      else stepFails st false s
    else stepFails st false s
  | .stop => endRun (journal .stepDone s.blk.run.step st.kind.code s)

/-- The current step begins (R165). When no step is left, BLK acts as at END. -/
def beginStep (s : State) : State :=
  if s.blk.state = .running ∧ ¬ s.blk.run.begun then
    match currentStep s with
    | none => endRun s
    | some st =>
      stepAction st (modRun (fun r =>
        { r with
          begun := true, waitTimer := .idle
          stepTimer := if st.kind.usesTimeout then .running st.timeout else .idle }) s)
  else s

/-- The states of a set that fail the step waiting for it (R166, R169). -/
def SetState.failsStep : SetState → Bool
  | .lockedOut => true
  | .standby => true
  | .unavailable => true
  | _ => false

/-- What an examination of a step that has begun finds (the table of R171). -/
inductive StepFinding where
  | waits
  | done
  | granted (g : Fin 4)
  | lost
  deriving DecidableEq, Repr

/-- The finding on the current step, already begun, by the state standing (R166, R167, R169, R171). -/
def stepFinding (st : PlanStep) (s : State) : StepFinding :=
  match st.kind with
  | .startLead =>
    match s.blk.run.lead with
    | none => .waits
    | some g =>
      if setState s g = .online ∧ s.fmon.bus = .live then .done
      else if setState s g = .syncing then .granted g
      else if (setState s g).failsStep then .lost
      else .waits
  | .closeFeeder =>
    if h : st.object < 16 then
      match s.feeders[st.object].state with
      | .closed => .done
      | .closing => .waits
      | _ => .lost
    else .waits
  | .startNext =>
    match s.blk.run.nextSet with
    | none => .waits
    | some g =>
      if setState s g = .online then .done
      else if (setState s g).failsStep then .lost
      else .waits
  | _ => .waits

/-- The current step, already begun, is examined: it completes, its lead is granted DEAD_CLOSE, it fails at once, or it
waits (R166, R167, R169, R171). -/
def examineStep (st : PlanStep) (s : State) : State :=
  match stepFinding st s with
  | .waits => s
  | .done => stepDone st s
  | .granted g => giveGrant g s
  | .lost => stepFails st false s

/-- The current step of a RUNNING run that has begun. -/
def runningStep (s : State) : Option PlanStep :=
  if s.blk.state = .running ∧ s.blk.run.begun then currentStep s else none

/-! ### Holding (R171) -/

/-- BLK enters HELD, with 1 for the stack cause or 2 for the manual cause (R171). -/
def enterHeld (cause : Nat) (s : State) : State :=
  let stable := (currentStep s).any fun st => st.kind = .waitStable
  let s := modRun (fun r =>
    { r with
      stepTimer := r.stepTimer.pause
      waitTimer := if stable then .idle else r.waitTimer.pause }) s
  journal .blkHeld 0 cause (blkEnter .held s)

/-- An entry into DEAD waits to be taken by BLK: the discard at that entry has reached BLK before it (R171, log 2). -/
def deadBusAwaited (s : State) : Bool :=
  s.notices.any fun n =>
    match n with
    | .bus .blk b => !b.reset && decide (b.bus = .dead) && decide (b.prev ≠ .dead)
    | _ => false

/-- The examination at a return to RUNNING. While an entry into DEAD waits to be taken by BLK, an examination that would
fail the attempt leaves that to the dead bus, so that the attempt fails once, with code 4 (R171; DEDUCED, log 49). -/
def examineAfresh (st : PlanStep) (s : State) : State :=
  if deadBusAwaited s && !st.skippable && decide (stepFinding st s = .lost) then s else examineStep st s

/-- The last hold cause has been cleared: BLK returns to RUNNING and examines its step afresh (R171). -/
def resumeRun (s : State) : State :=
  let s := journal .blkResumed 0 0 (blkEnter .running s)
  if s.blk.run.begun then
    let s := modRun (fun r => { r with stepTimer := r.stepTimer.resume, waitTimer := r.waitTimer.resume }) s
    match currentStep s with
    | some st => examineAfresh st s
    | none => s
  else queueStep s

/-- BLK learns of a change of the stack (R171). -/
def blkOnStack (s : State) : State :=
  if blkActive s then
    if 0 < entriesAboveHeader s then
      let s := modRun (fun r => { r with holdStack := true }) s
      if s.blk.state = .running then enterHeld 1 s else s
    else
      let s := modRun (fun r => { r with holdStack := false }) s
      if s.blk.state = .held ∧ ¬ s.blk.run.holdManual then resumeRun s else s
  else s

/-! ### Confirming and beginning (R161 to R163) -/

/-- BLK enters CONFIRMING with its timer started (R161). -/
def enterConfirming (s : State) : State :=
  journal .blkConfirming 0 0 (blkEnter .confirming
    { s with blk := { s.blk with confirm := .running s.settings.sys.deadConfirmMs, run := {} } })

/-- A run begins (R163). -/
def beginRun (how : RunStart) (s : State) : State :=
  let s := { s with blk := { s.blk with confirm := .idle, run := { begunBy := some how } } }
  let s := clearBus s
  match chooseLead s with
  | none => failRun 1 s
  | some g =>
    match leadPlan s g with
    | none => failRun 1 s
    | some p =>
      let s := latchLead g p (pushHeader s)
      queueStep (journal .blkBegun g p.val (blkEnter .running s))

/-- The confirmation has run out on a dead bus: a run begins, or BLK enters WAITING (R161). -/
def confirmed (s : State) : State :=
  if s.lnk.mode = .auto ∧ s.settings.sys.autoBlackstart then beginRun .timer s
  else
    journal .blkWaiting 0 0 (blkEnter .waiting { s with blk := { s.blk with confirm := .idle } })

/-- The confirmation timer expires (R161). -/
def confirmExpires (s : State) : State :=
  if s.blk.state = .confirming ∧ s.blk.confirm.isRunning then
    if s.fmon.bus = .dead then confirmed s else { s with blk := { s.blk with confirm := .expired } }
  else s

/-! ### Timer expiries of a run -/

/-- The step timer expires before completion (R165). -/
def stepTimerExpires (s : State) : State :=
  match runningStep s with
  | some st => if s.blk.run.stepTimer.isRunning then stepFails st true s else s
  | none => s

/-- The wait timer expires, and the step completes (R168). -/
def waitTimerExpires (s : State) : State :=
  match runningStep s with
  | some st => if s.blk.run.waitTimer.isRunning then stepDone st s else s
  | none => s

/-! ### Notices to BLK -/

/-- A WAIT_STABLE step takes a bus notice (R168). -/
def stableOnBus (st : PlanStep) (n : BusNotice) (s : State) : State :=
  match n.value with
  | some v =>
    if inBand s v.f then
      if s.blk.run.waitTimer.isRunning then s
      else if st.param = 0 then stepDone st s
      else modRun (fun r => { r with waitTimer := .running st.param }) s
    else modRun (fun r => { r with waitTimer := .idle }) s
  | none => if n.bus = .live then s else modRun (fun r => { r with waitTimer := .idle }) s

/-- The step that the current bus notice has led to takes the notice too: it begins at the same event, and a
WAIT_STABLE step counts the value that the notice carries (R165, R168; the worked sequence of section 9.10 starts
the wait timer at the notice that completes START_LEAD). `k` bounds the steps. -/
def followOn : Nat → BusNotice → State → State
  | 0, _, s => s
  | k + 1, n, s =>
    if s.blk.state = .running ∧ ¬ s.blk.run.begun then
      let s := beginStep s
      match runningStep s with
      | some st => if st.kind = .waitStable then followOn k n (stableOnBus st n s) else s
      | none => followOn k n s
    else s

/-- A RUNNING run takes a bus notice other than an entry into DEAD (R166, R168). -/
def runOnBus (n : BusNotice) (s : State) : State :=
  match runningStep s with
  | some st =>
    match st.kind with
    | .startLead => if n.value.isSome then followOn 13 n (examineStep st s) else examineStep st s
    | .waitStable => if n.value.isSome then followOn 13 n (stableOnBus st n s) else stableOnBus st n s
    | _ => s
  | none => s

/-- BLK takes the reset notice as an entry into DEAD, without BS_STATE and without a record (R175). -/
def blkOnReset (s : State) : State :=
  if noneOnline s then
    curOnSequencer .idle .confirming (genOnSequencer
      { s with blk := { s.blk with state := .confirming, confirm := .running s.settings.sys.deadConfirmMs } })
  else s

/-- BLK takes a bus notice other than the reset notice (R161, R162, R164, R166, R168, R172). -/
def blkOnBusEvent (n : BusNotice) (s : State) : State :=
  let intoLive := n.bus = .live ∧ n.prev ≠ .live
  let intoDead := n.bus = .dead ∧ n.prev ≠ .dead
  let s := if intoLive then modRun (fun r => { r with clearing := [] }) s else s
  match s.blk.state with
  | .idle => if intoDead ∧ noneOnline s then enterConfirming s else s
  | .confirming =>
    if intoLive then blkToIdle s
    else if intoDead ∧ s.blk.confirm = .expired then confirmed s
    else s
  | .waiting => if intoLive then blkToIdle s else s
  | .running => if intoDead then attemptFail 4 s else runOnBus n s
  | .held => if intoDead then attemptFail 4 s else s
  | .failed => s

/-- BLK takes a bus notice (R158, R175). -/
def blkOnBus (n : BusNotice) (s : State) : State := if n.reset then blkOnReset s else blkOnBusEvent n s

/-- BLK takes a set notice (R161, R162, R166, R169). -/
def blkOnSet (g : Fin 4) (before after : SetState) (s : State) : State :=
  match s.blk.state with
  | .idle =>
    if before = .online ∧ after ≠ .online ∧ s.fmon.bus = .dead ∧ noneOnline s then enterConfirming s else s
  | .confirming => if after = .online then blkToIdle s else s
  | .waiting => if after = .online then blkToIdle s else s
  | .running =>
    match runningStep s with
    | some st =>
      if (st.kind = .startLead ∧ s.blk.run.lead = some g)
          ∨ (st.kind = .startNext ∧ s.blk.run.nextSet = some g) then examineStep st s
      else s
    | none => s
  | _ => s

/-- A feeder on the clearing list has ended its operation: it leaves the list, and is opened when it ended
CLOSED (R164). -/
def clearingOnFeeder (f : Fin 16) (s : State) : State :=
  if blkActive s ∧ s.blk.run.clearing.contains f ∧ s.feeders[f].state ≠ .opening
      ∧ s.feeders[f].state ≠ .closing then
    let s := modRun (fun r => { r with clearing := r.clearing.filter (· ≠ f) }) s
    if s.feeders[f].state = .closed then (operate f false .blackstart s).1 else s
  else s

/-- BLK takes a feeder notice (R164, R167). -/
def blkOnFeeder (f : Fin 16) (s : State) : State :=
  let s := clearingOnFeeder f s
  match runningStep s with
  | some st => if st.kind = .closeFeeder ∧ st.object = f.val then examineStep st s else s
  | none => s

/-- BLK takes a mode notice: a change to MONITOR ends a run begun by the confirmation timer (R174). -/
def blkOnMode (m : Mode) (s : State) : State :=
  if m = .monitor ∧ blkActive s ∧ s.blk.run.begunBy = some .timer then attemptFail 5 s else s

end Sys2Proof.Machine
end

