-- ==== Sys2Proof/Machine/Inputs.lean ====
section
/-! DEFINITION. The input conditioner (chapter 2). -/

namespace Sys2Proof.Machine

/-! ### Sampling (R21) -/

/-- One sample of an input: previous sample and counter are updated, and a debounced change that the sample
makes stands as due (R21, R23). -/
def sampleInput (t : InputSettings) (c : InputCtl) : InputCtl :=
  let counter := if c.raw = c.prev then min 255 (c.counter + 1) else 0
  { c with
    prev := c.raw, counter := counter
    changeDue := c.raw != c.debounced && decide (t.debounce ≤ counter) }

/-- The sample of all inputs at a 1 ms tick (R21). -/
def sampleInputs (s : State) : State :=
  { s with inputs := Vector.ofFn fun i => sampleInput s.settings.inputs[i] s.inputs[i] }

/-- What one sample at reset makes of an input (R33). -/
def resetInput (c : InputCtl) : InputCtl :=
  { raw := c.raw, prev := c.raw, debounced := c.raw, lastRead := c.raw, view := c.raw }

/-! ### Views and flags (R24, R26, R27) -/

/-- The read view after a debounced change to `level` (R24). -/
def viewAfter (t : InputSettings) (c : InputCtl) (level : Bool) : Bool :=
  if t.latch && c.view != c.lastRead then c.view else level

/-- The event flag after a debounced change to `level` that has left the view at `view` (R26, R27). -/
def flagAfter (t : InputSettings) (c : InputCtl) (level view : Bool) : Bool :=
  match t.mode with
  | .none => c.flag
  | .level =>
    if view != c.lastRead then c.flag || c.view = c.lastRead
    else if t.latch then c.flag
    else false
  | .rising => c.flag || level
  | .falling => c.flag || !level
  | .any => true

/-- An input after a debounced change to `level` (R22, R24, R26, R27). A change that no sample of the model
announced tells the level standing at the pin (log 6). -/
def changedInput (t : InputSettings) (c : InputCtl) (level : Bool) : InputCtl :=
  let view := viewAfter t c level
  { c with
    raw := if c.changeDue then c.raw else level
    prev := level, debounced := level, view := view, flag := flagAfter t c level view
    changeDue := false }

/-- An input after READ_INPUTS has returned its view (R24, R26, R29). -/
def readInput (t : InputSettings) (c : InputCtl) : InputCtl :=
  let view := if t.latch then c.debounced else c.view
  { c with lastRead := c.view, view := view, flag := decide (t.mode = .level) && view != c.view }

/-- An input after CONFIGURE_INPUT has replaced its settings `old` by `new` (R23, R25, R28). -/
def configuredInput (old new : InputSettings) (c : InputCtl) : InputCtl :=
  let unlatched := old.latch && !new.latch
  let view := if unlatched then c.debounced else c.view
  let flag :=
    if old.mode ≠ new.mode then false
    else if unlatched && decide (new.mode = .level) then view != c.lastRead
    else c.flag
  { c with view := view, flag := flag }

/-! ### Delivery -/

/-- LNK takes a new location (R32). -/
def locationChange (level : Bool) (s : State) : State :=
  journal .locationChanged 0 (bit level) (setAdv .location (modLnk (fun l => { l with isLocal := level }) s))

/-- The new debounced value is delivered to the block that the input is assigned to (section 2.1, R22). -/
def deliverInput (i : Fin 32) (level : Bool) (s : State) : State :=
  let n := i.val
  if h : n < 16 then feederStatusChange ⟨n, h⟩ level s
  else if n < 20 then readyChange ⟨(n - 16) % 4, by omega⟩ level s
  else if n < 24 then runningChange ⟨(n - 20) % 4, by omega⟩ level s
  else if n < 28 then breakerChange ⟨(n - 24) % 4, by omega⟩ level s
  else if n = 28 then locationChange level s
  else s

/-- A debounced change of an input to `level` (R21, R22). An input that already stands at the level has no
change. -/
def debouncedTo (i : Fin 32) (level : Bool) (s : State) : State :=
  if s.inputs[i].debounced = level then s
  else deliverInput i level (modInput i (fun c => changedInput s.settings.inputs[i] c level) s)

end Sys2Proof.Machine
end

