-- ==== Sys2Proof/Machine/Measure.lean ====
section
/-! DEFINITION. The measurement table (chapter 3). -/

namespace Sys2Proof.Machine

/-- The 26 measurement points (R40). -/
inductive PointRef where
  | feeder (f : Fin 16)
  | set (g : Fin 4)
  | channel (j : Fin 6)
  deriving DecidableEq, Repr

/-- The point that a code names (R40). -/
def PointRef.ofCode (c : Nat) : Option PointRef :=
  if h : c < 0x10 then some (.feeder ⟨c, h⟩)
  else if h : 0x20 ≤ c ∧ c < 0x24 then some (.set ⟨c - 0x20, by omega⟩)
  else if h : 0x30 ≤ c ∧ c < 0x36 then some (.channel ⟨c - 0x30, by omega⟩)
  else none

/-- The value written for a measured value (R42). -/
def pointValue (s : State) (p : PointRef) (v : Int) : Int :=
  match p with
  | .feeder _ => v
  | .set g => clampInt 0 s.settings.sets[g].ratedKw v
  | .channel j => clampInt 0 s.settings.channels[j].ratedKw v

/-- A point is written: its age restarts and its stale flag is cleared (R42). -/
def writePoint (p : PointRef) (v : Int) (s : State) : State :=
  let pt : Point := { value := pointValue s p v, age := 0, stale := false }
  match p with
  | .feeder f => { s with meas := { s.meas with feeders := s.meas.feeders.set f pt } }
  | .set g => { s with meas := { s.meas with sets := s.meas.sets.set g pt } }
  | .channel j => { s with meas := { s.meas with channels := s.meas.channels.set j pt } }

/-- The points named by a list (R44, R46). -/
def namesOf (l : List PointRef) : PointNames :=
  { feeders := (List.finRange 16).filter fun f => l.contains (.feeder f)
    sets := (List.finRange 4).filter fun g => l.contains (.set g)
    channels := (List.finRange 6).filter fun j => l.contains (.channel j) }

/-- An update notice goes to RST, GEN and CUR (R44). -/
def emitUpdate (n : PointNames) (s : State) : State := emit [.rst, .gen, .cur] (fun c => .update c n) s

/-- A list of measurements is applied whole, in list order, with one update notice (R42, R44). -/
def applyMeasure (items : List (PointRef × Int)) (s : State) : State :=
  emitUpdate (namesOf (items.map (·.1))) (items.foldl (fun s x => writePoint x.1 x.2 s) s)

/-- Some item of the list is clamped (R42). -/
def measureClamps (s : State) (items : List (PointRef × Int)) : Bool :=
  items.any fun x => decide (pointValue s x.1 x.2 ≠ x.2)

/-- The age of a point after one millisecond (R45). -/
def agePoint (p : Point) : Point := { p with age := min 65535 (p.age + 1) }

/-- The ages after one tick of the table (R45). -/
def agePoints (s : State) : State :=
  { s with meas :=
      { feeders := s.meas.feeders.map agePoint
        sets := s.meas.sets.map agePoint
        channels := s.meas.channels.map agePoint } }

/-- A fresh point is older than the timeout (R45). -/
def overAge (s : State) (p : Point) : Bool := !p.stale && decide (s.settings.sys.measTimeoutMs < p.age)

/-- The points that are due to become stale (R45). -/
def staleNames (s : State) : PointNames :=
  { feeders := (List.finRange 16).filter fun f => overAge s s.meas.feeders[f]
    sets := (List.finRange 4).filter fun g => overAge s s.meas.sets[g]
    channels := (List.finRange 6).filter fun j => overAge s s.meas.channels[j] }

/-- The list names no point. -/
def PointNames.isEmpty (n : PointNames) : Bool := n.feeders.isEmpty && n.sets.isEmpty && n.channels.isEmpty

/-- A point that is over age becomes stale. -/
def stalePoint (s : State) (p : Point) : Point := if overAge s p then { p with stale := true } else p

/-- The points over age become stale together, with MEAS_STALE and one stale notice (R46, R47). -/
def pointsGoStale (s : State) : State :=
  let n := staleNames s
  if n.isEmpty then s
  else
    emit [.rst, .gen, .cur] (fun c => .stale c n) (setAdv .measStale
      { s with meas :=
          { feeders := s.meas.feeders.map (stalePoint s)
            sets := s.meas.sets.map (stalePoint s)
            channels := s.meas.channels.map (stalePoint s) } })

/-- The points that the table's next tick makes stale (R45). -/
def goingStale (s : State) : PointNames := staleNames (agePoints s)

/-- The tick of the table at which points become stale: every point ages, and those that are over age at this tick
become stale together (R45, R46). When no point would, there is no such tick and nothing is done. -/
def staleTick (s : State) : State := if (goingStale s).isEmpty then s else pointsGoStale (agePoints s)

/-- The table's own tick, once per millisecond (R45). A tick at which no point becomes stale ages the points; one at
which points become stale is the event POINTS_BECOME_STALE, which ages them and is the very next command, so that no
state shows a point over age and fresh (log 3). -/
def tableTick (s : State) : State :=
  if (goingStale s).isEmpty then agePoints s else { s with pending := .pointsBecomeStale :: s.pending }

/-- A lowered rating re-clamps the point of a set; a fresh point is named in an update notice (R48). -/
def reclampSet (g : Fin 4) (s : State) : State :=
  let p := s.meas.sets[g]
  let rated : Int := s.settings.sets[g].ratedKw
  if rated < p.value then
    let s := { s with meas := { s.meas with sets := s.meas.sets.set g { p with value := rated } } }
    if p.stale then s else emitUpdate (namesOf [.set g]) s
  else s

/-- A lowered rating re-clamps the point of a channel; a fresh point is named in an update notice (R48). -/
def reclampChannel (j : Fin 6) (s : State) : State :=
  let p := s.meas.channels[j]
  let rated : Int := s.settings.channels[j].ratedKw
  if rated < p.value then
    let s := { s with meas := { s.meas with channels := s.meas.channels.set j { p with value := rated } } }
    if p.stale then s else emitUpdate (namesOf [.channel j]) s
  else s

end Sys2Proof.Machine
end

