-- ==== Sys2Proof/Machine/Monitor.lean ====
section
/-! DEFINITION. The bus frequency monitor (chapter 1). -/

namespace Sys2Proof.Machine

/-! ### Figures -/

/-- The corrected period of a raw period under a trim in ppm (R2). -/
def correctedPeriod (raw : Nat) (trim : Int) : Nat := (raw + roundAway (raw * trim) 1000000).toNat

/-- The three classes of a corrected period (R3). -/
inductive PeriodClass where
  | short | valid | long
  deriving DecidableEq, Repr

/-- The class of a corrected period in the window of the nominal frequency (R3). -/
def classify (n : NominalFreq) (p : Nat) : PeriodClass :=
  if p < n.pMin then .short else if n.pMax < p then .long else .valid

/-- A ring of `n` places takes a new element at its newest position, dropping the oldest when it is full
(R6, R7). -/
def ringPush {α : Type} (n : Nat) (l : List α) (x : α) : List α :=
  (if l.length < n then l else l.drop (l.length + 1 - n)) ++ [x]

/-- The sum S4 of the four newest periods (R7). -/
def sumNewest4 (ring : List Nat) : Nat := (ring.drop (ring.length - 4)).sum

/-- The frequency value of a sum S4, in mHz (R7). -/
def freqOf (s4 : Nat) : Nat := roundHalfUp (4 * 10 ^ 10) s4

/-- The rate-of-change value of two frequency values four periods apart, in mHz/s (R8). -/
def rocofOf (f fOld s4 : Nat) : Int :=
  clampInt (-20000) 20000 ((((f : Int) - fOld) * 10 ^ 7).tdiv s4)

/-- The imbalance estimate, in kW (R9). -/
def imbalanceOf (eOn : Nat) (r : Int) (fNom : Nat) : Int := (2 * eOn * r).tdiv fNom

/-- The code of a bus state, its position in Table 1-1. -/
def BusState.code : BusState → Nat
  | .dead => 0
  | .settling => 1
  | .live => 2

/-! ### Notices -/

/-- A bus notice is delivered: to SHD, RST, CUR and BLK, and to GEN too when it carries a change of bus state
or a reset (R11, R19). -/
def emitBus (n : BusNotice) (s : State) : State :=
  emit (if n.bus ≠ n.prev ∨ n.reset then [.shd, .rst, .cur, .blk, .gen] else [.shd, .rst, .cur, .blk])
    (fun c => .bus c n) s

/-! ### Events -/

/-- The break: both rings are emptied and the present values are invalidated; a LIVE bus becomes SETTLING,
with `p` in the record of that change (R5, R14, R16, R17). -/
def breakRun (p : Nat) (s : State) : State :=
  let prev := s.fmon.bus
  let s := modFmon (fun m => { m with periodRing := [], freqRing := [], present := none }) s
  match prev with
  | .live =>
    let s := modFmon (fun m => { m with bus := .settling, origin := .fromBreak }) s
    emitBus { bus := .settling, prev := .live, brk := true } (journal .busState BusState.settling.code p s)
  | b => emitBus { bus := b, prev := b, brk := true } s

/-- The entry into DEAD, and what the state DEAD holds (R12, R15, R16). -/
def enterDead (s : State) : State :=
  let prev := s.fmon.bus
  let s := modFmon (fun m =>
    { m with
      bus := .dead, origin := .none, reference := none, periodRing := [], freqRing := [], present := none }) s
  emitBus { bus := .dead, prev := prev, brk := true }
    (journal .busState BusState.dead.code prev.code (setProt .busDead s))

/-- The present-value record of a new frequency value, `pRing` and `fRing` being the rings with it (R7 to
R10). -/
def valueOf (pRing fRing : List Nat) (f : Nat) (s : State) : PresentValue :=
  let s4 := sumNewest4 pRing
  let r := if fRing.length = 5 then fRing.head?.map fun fOld => rocofOf f fOld s4 else none
  let eOn := storedEnergy s
  let dP := if 0 < eOn then r.map fun r => imbalanceOf eOn r (fNom s) else none
  { f := f, r := r, dP := dP, s4 := s4, eOn := dP.map fun _ => eOn, seq := s.fmon.seq + 1, time := s.time.part }

/-- A frequency value is formed: the rings and the record take it, and a SETTLING bus becomes LIVE (R7 to
R10, R13, R14, R16). -/
def formValue (pRing : List Nat) (s : State) : State :=
  let prev := s.fmon.bus
  let f := freqOf (sumNewest4 pRing)
  let fRing := ringPush 5 s.fmon.freqRing f
  let v := valueOf pRing fRing f s
  let after := decide (s.fmon.origin = .atDead)
  let s := modFmon (fun m =>
    { m with
      periodRing := pRing, freqRing := fRing, present := some v, seq := v.seq, bus := .live, origin := .none }) s
  if prev = .live then emitBus { bus := .live, prev := .live, value := some v } s
  else
    emitBus { bus := .live, prev := prev, afterDead := after, value := some v }
      (journal .busState BusState.live.code f (setProt .busLive s))

/-- A valid period is accepted (R6). -/
def acceptValid (p : Nat) (s : State) : State :=
  let ring := ringPush 8 s.fmon.periodRing p
  if 4 ≤ ring.length then formValue ring s else modFmon (fun m => { m with periodRing := ring }) s

/-- A crossing arrives (R1 to R14). Its timestamp is the capture counter. -/
def crossingArrives (s : State) : State :=
  let now := s.time.capture
  let accepted := modFmon (fun m => { m with reference := some now }) s
  match s.fmon.reference with
  | none =>
    let t := modFmon (fun m => { m with bus := .settling, origin := .atDead }) accepted
    emitBus { bus := .settling, prev := s.fmon.bus } (journal .busState BusState.settling.code 0 t)
  | some ref =>
    let p := correctedPeriod (now - ref).toNat s.settings.sys.timeTrim
    match classify s.settings.sys.fNom p with
    | .short => modFmon (fun m => { m with rejected := min 65535 (m.rejected + 1) }) s
    | .long => breakRun p accepted
    | .valid => acceptValid p accepted

/-- The dead-bus timer expires in SETTLING or LIVE (R15). -/
def deadBusExpires (s : State) : State := if s.fmon.bus = .dead then s else enterDead s

/-- The ticks elapsed since the last accepted crossing, when there is one (R15). -/
def sinceReference (s : State) : Option Nat := s.fmon.reference.map fun r => (s.time.capture - r).toNat

/-- The dead-bus timer has run out (R15). -/
def deadBusDue (s : State) : Bool :=
  match s.fmon.bus, sinceReference s with
  | .dead, _ => false
  | _, some t => decide (deadBusTicks s.settings.sys.fNom ≤ t)
  | _, none => false

/-- The nominal frequency has become the one now in force: a break, and, when the time elapsed has already reached
the new length, the expiry of the dead-bus timer (R17). Break and expiry are one event: the expiry comes before the
notice of the break is delivered, and both notices are delivered after it (DESIGN CHOICE, log 50). -/
def nominalChanged (s : State) : State :=
  let s := breakRun 0 s
  if deadBusDue s then enterDead s else s

end Sys2Proof.Machine
end

