-- ==== Sys2Proof/Machine/Deliver.lean ====
section
/-! DEFINITION. The delivery of notices within one event, and the form of every event (section 2.5). -/

namespace Sys2Proof.Machine

/-- One notice is taken by its consumer. -/
def deliver (n : Notice) (s : State) : State :=
  match n with
  | .bus .shd n => shdOnBus n s
  | .bus .rst n => rstOnBus n s
  | .bus .cur n => curOnBus n s
  | .bus .blk n => blkOnBus n s
  | .bus .gen n => genOnBus n s
  | .feeder .shd f _ after cause _ _ => shdOnFeeder f after cause s
  | .feeder .rst f _ _ _ _ turn => rstOnFeeder f turn s
  | .feeder .blk f _ _ _ _ _ => blkOnFeeder f s
  | .feeder _ _ _ _ _ _ _ => s
  | .set .blk g before after _ _ => blkOnSet g before after s
  | .set .cur _ before after _ _ => curOnSet before after s
  | .set .gen _ _ _ _ _ => evalDispatch s
  | .set _ _ _ _ _ _ => s
  | .stack .blk => blkOnStack s
  | .stack .gen => evalDispatch s
  | .stack _ => s
  | .update .rst _ => restorerTurn s
  | .update .gen n => if n.sets.isEmpty then s else evalDispatch s
  | .update .cur n => curOnUpdate n s
  | .update _ _ => s
  | .stale .rst _ => restorerTurn s
  | .stale .gen n => if n.sets.isEmpty then s else evalDispatch s
  | .stale .cur n => curOnStale n s
  | .stale _ _ => s
  | .mode .rst _ => rstOnMode s
  | .mode .gen m => genOnMode m s
  | .mode .cur _ => applyTargets s
  | .mode .blk m => blkOnMode m s
  | .mode .shd _ => s
  | .step => beginStep s

/-- The notices of an event are delivered, first in, first out, with those that their delivery produces
(section 2.5). `fuel` bounds their number; when it runs out each notice that waits is still delivered, and what those
deliveries produce is dropped (log 9). -/
def settle : Nat → State → State
  | 0, s => { s.notices.foldl (fun s n => deliver n s) { s with notices := [] } with notices := [] }
  | fuel + 1, s =>
    match s.notices with
    | [] => s
    | n :: rest => settle fuel (deliver n { s with notices := rest })

/-- The end of an event: its notices are delivered, and the set and alert lines stand as their rules give
them (R39, R117, R125, R193). -/
def conclude (s : State) : State := driveAlerts (driveSets (settle Config.settleFuel s))

/-- An event of the blocks. While the settings load of a power-on reset runs, the blocks take none (R198). -/
def event (act : State → State) (s : State) : State :=
  match s.phase with
  | .loading => s
  | .running => conclude (act s)

end Sys2Proof.Machine
end

