-- ==== Sys2Proof/Machine/Operands.lean ====
section
/-! DEFINITION. Operands of requests: status codes, permission groups, payload fields, and the records of the
configuring requests with their ranges (sections 10.2, 10.4, 10.8). -/

namespace Sys2Proof.Machine

/-! ### Status codes and groups -/

/-- The status codes of Table 10-2. -/
inductive Status where
  | ok | okClamped | unknownKind | badLength | busy | notPermitted | wrongMode | badIndex | stale | inUse
  | wrongState | stackEmpty | held | noBus | writeFailed
  deriving DecidableEq, Repr

/-- The codes of Table 10-2. -/
def Status.code : Status → Byte
  | .ok => 0x00 | .okClamped => 0x01 | .unknownKind => 0x10 | .badLength => 0x11 | .busy => 0x12
  | .notPermitted => 0x13 | .wrongMode => 0x14 | .badIndex => 0x15 | .stale => 0x16 | .inUse => 0x17
  | .wrongState => 0x18 | .stackEmpty => 0x19 | .held => 0x1A | .noBus => 0x1B | .writeFailed => 0x1C

/-- OK, or OK_CLAMPED when a value was clamped (R182). -/
def okStatus (clamped : Bool) : Status := if clamped then .okClamped else .ok

/-- The permission groups of Table 10-1, as far as the checks tell them apart: kinds taken from either link,
operating kinds, configuring kinds. -/
inductive Group where
  | either | operate | configure
  deriving DecidableEq, Repr

end Sys2Proof.Machine

namespace Sys2Proof

/-- The number of a link: 0 for Link A, 1 for Link B. -/
def Link.code : Link → Nat
  | .a => 0
  | .b => 1

/-- The length of the payload. -/
def Frame.len (f : Frame) : Nat := f.payload.length

/-- The number in `width` payload bytes from `off`, low byte first (R188). -/
def Frame.field (f : Frame) (off width : Nat) : Nat := Machine.ofLe ((f.payload.drop off).take width)

/-- The signed number in `width` payload bytes from `off` (R188). -/
def Frame.fieldInt (f : Frame) (off width : Nat) : Int := Machine.ofLeInt ((f.payload.drop off).take width)

/-- One payload byte as a number. -/
def Frame.byte (f : Frame) (off : Nat) : Nat := f.field off 1

end Sys2Proof

namespace Sys2Proof.Machine

/-! ### Byte fields of a record -/

/-- The number in `width` bytes from `off`, low byte first (R188). -/
def fieldOf (bs : List Byte) (off width : Nat) : Nat := ofLe ((bs.drop off).take width)

/-- A yes/no byte. -/
def boolOf : Nat → Option Bool
  | 0 => some false
  | 1 => some true
  | _ => none

/-! ### System settings (Table 10-6) -/

/-- The codes of the link rates (Table 10-6). -/
def LineRate.code : LineRate → Nat
  | .r9600 => 0
  | .r19200 => 1
  | .r57600 => 2
  | .r115200 => 3

/-- The link rate that a code names. -/
def LineRate.ofCode : Int → Option LineRate
  | 0 => some .r9600
  | 1 => some .r19200
  | 2 => some .r57600
  | 3 => some .r115200
  | _ => none

/-- The codes of the styles (Table 10-6). -/
def Style.code : Style → Nat
  | .pulse => 0
  | .maintained => 1

/-- The style that a code names. -/
def Style.ofCode : Int → Option Style
  | 0 => some .pulse
  | 1 => some .maintained
  | _ => none

/-- The codes of the modes (R184). -/
def Mode.code : Mode → Nat
  | .monitor => 0
  | .auto => 1

/-- The mode that a code names (R184). -/
def Mode.ofCode : Int → Option Mode
  | 0 => some .monitor
  | 1 => some .auto
  | _ => none

/-- A yes/no setting value. A value other than 0 and 1 names nothing and refuses the request BAD_INDEX, as an enumerated
value does, and is not clamped (R182; DEDUCED, log 21; in CONFIGURE_SYSTEM auto_blackstart, link_b_enabled and
link_error_report, R159). -/
def flagOf : Int → Option Bool
  | 0 => some false
  | 1 => some true
  | _ => none

/-- A number written into the range `lo..hi`, with the mark that it was clamped. -/
def written (lo hi : Nat) (v : Int) (set : Nat → SystemSettings) : Option (SystemSettings × Bool) :=
  some (set (clampToNat lo hi v), decide (v < lo ∨ (hi : Int) < v))

/-- One item of CONFIGURE_SYSTEM: the settings after it and whether it was clamped; none for an unknown code
or an enumerated value that names nothing (R182, R189, Table 10-6). -/
def systemItem (code : Nat) (v : Int) (t : SystemSettings) : Option (SystemSettings × Bool) :=
  match code with
  | 0x01 =>
    if v = 50000 then some ({ t with fNom := .hz50 }, false)
    else if v = 60000 then some ({ t with fNom := .hz60 }, false)
    else none
  | 0x02 => some ({ t with timeTrim := clampInt (-128) 127 v }, decide (clampInt (-128) 127 v ≠ v))
  | 0x03 => (Style.ofCode v).map fun x => ({ t with styleLow := x }, false)
  | 0x04 => (Style.ofCode v).map fun x => ({ t with styleHigh := x }, false)
  | 0x05 => written 100 10000 v fun x => { t with measTimeoutMs := x }
  | 0x06 => written 5 600 v fun x => { t with restoreDelayS := x }
  | 0x07 => written 500 30000 v fun x => { t with restoreIntervalMs := x }
  | 0x08 => written 50 1000 v fun x => { t with restoreBand := x }
  | 0x09 => written 5 300 v fun x => { t with restoreStartDelayS := x }
  | 0x0A => written 0 10000 v fun x => { t with srMin := x }
  | 0x0B => written 1 600 v fun x => { t with startDelayS := x }
  | 0x0C => written 0 10000 v fun x => { t with stopMargin := x }
  | 0x0D => written 10 3600 v fun x => { t with stopDelayS := x }
  | 0x0E => written 0 2000 v fun x => { t with droopOffset := x }
  | 0x0F => written 200 5000 v fun x => { t with droopBand := x }
  | 0x10 => written 0 10000 v fun x => { t with mlMargin := x }
  | 0x11 => written 1000 60000 v fun x => { t with deadConfirmMs := x }
  | 0x12 => written 1 4 v fun x => { t with maxAttempts := x }
  | 0x13 => (flagOf v).map fun x => ({ t with autoBlackstart := x }, false)
  | 0x14 => (LineRate.ofCode v).map fun x => ({ t with rateA := x }, false)
  | 0x15 => (LineRate.ofCode v).map fun x => ({ t with rateB := x }, false)
  | 0x16 => (flagOf v).map fun x => ({ t with linkBEnabled := x }, false)
  | 0x17 => (flagOf v).map fun x => ({ t with linkErrorReport := x }, false)
  | 0x18 => written 0 255 v fun x => { t with supervision := x }
  | 0x19 => written 1 2 v fun x => { t with alertLines := x }
  | 0x1A => (Mode.ofCode v).map fun x => ({ t with startMode := x }, false)
  | _ => none

/-- The items of CONFIGURE_SYSTEM in list order; one bad item refuses them all (R189). -/
def systemItems : List (Nat × Int) → SystemSettings → Option (SystemSettings × Bool)
  | [], t => some (t, false)
  | (code, v) :: l, t =>
    match systemItem code v t with
    | none => none
    | some (t, c) => (systemItems l t).map fun r => (r.1, c || r.2)

/-- The items that the payload of CONFIGURE_SYSTEM carries (Table 10-5). -/
def systemItemsOf (f : Frame) : List (Nat × Int) :=
  (List.range (f.byte 0)).map fun k => (f.byte (1 + 5 * k), f.fieldInt (2 + 5 * k) 4)

/-- The values of the system settings in the code order of Table 10-6 (R197). -/
def SystemSettings.values (t : SystemSettings) : List Int :=
  [t.fNom.mHz, t.timeTrim, t.styleLow.code, t.styleHigh.code, t.measTimeoutMs, t.restoreDelayS,
    t.restoreIntervalMs, t.restoreBand, t.restoreStartDelayS, t.srMin, t.startDelayS, t.stopMargin,
    t.stopDelayS, t.droopOffset, t.droopBand, t.mlMargin, t.deadConfirmMs, t.maxAttempts,
    bit t.autoBlackstart, t.rateA.code, t.rateB.code, bit t.linkBEnabled, bit t.linkErrorReport,
    t.supervision, t.alertLines, t.startMode.code]

/-- The system settings as READ_CONFIG carries them: each in the narrowest field that holds its range, the three
yes/no items packed into one flag byte at the place of the first (R187, R188; the place is DEDUCED, log 20). -/
def SystemSettings.report (t : SystemSettings) : List Byte :=
  leBytes 4 t.fNom.mHz ++ leBytesInt 1 t.timeTrim ++ leBytes 1 t.styleLow.code ++ leBytes 1 t.styleHigh.code
    ++ leBytes 2 t.measTimeoutMs ++ leBytes 2 t.restoreDelayS ++ leBytes 2 t.restoreIntervalMs
    ++ leBytes 2 t.restoreBand ++ leBytes 2 t.restoreStartDelayS ++ leBytes 2 t.srMin ++ leBytes 2 t.startDelayS
    ++ leBytes 2 t.stopMargin ++ leBytes 2 t.stopDelayS ++ leBytes 2 t.droopOffset ++ leBytes 2 t.droopBand
    ++ leBytes 2 t.mlMargin ++ leBytes 2 t.deadConfirmMs ++ leBytes 1 t.maxAttempts
    ++ leBytes 1 (packFlags [t.autoBlackstart, t.linkBEnabled, t.linkErrorReport]) ++ leBytes 1 t.rateA.code
    ++ leBytes 1 t.rateB.code ++ leBytes 1 t.supervision ++ leBytes 1 t.alertLines ++ leBytes 1 t.startMode.code

/-! ### Shed settings (Table 5-1) -/

/-- A stage threshold in the range of the nominal frequency (Table 5-1). -/
def clampThreshold (n : NominalFreq) (v : Nat) : Nat := clampNat (n.mHz * 8 / 10) n.mHz v

/-- The shed settings in their ranges (Table 5-1). -/
def ShedSettings.clamped (n : NominalFreq) (t : ShedSettings) : ShedSettings :=
  { threshold := t.threshold.map (clampThreshold n)
    q := t.q.map (clampNat 1 50)
    ufRearm := min 1000 t.ufRearm
    rocofTrip := clampNat 200 20000 t.rocofTrip
    qr := clampNat 1 8 t.qr
    holdoffMs := clampNat 100 5000 t.holdoffMs }

/-- The shed settings that 27 bytes carry (Table 10-5). -/
def ShedSettings.ofBytes (bs : List Byte) : ShedSettings :=
  { threshold := Vector.ofFn fun i => fieldOf bs (4 * i.val) 4
    q := Vector.ofFn fun i => fieldOf bs (16 + i.val) 1
    ufRearm := fieldOf bs 20 2
    rocofTrip := fieldOf bs 22 2
    qr := fieldOf bs 24 1
    holdoffMs := fieldOf bs 25 2 }

/-- The 27 bytes of the shed settings (Table 10-5). -/
def ShedSettings.bytes (t : ShedSettings) : List Byte :=
  t.threshold.toList.flatMap (leBytes 4) ++ t.q.toList.flatMap (leBytes 1) ++ leBytes 2 t.ufRearm
    ++ leBytes 2 t.rocofTrip ++ leBytes 1 t.qr ++ leBytes 2 t.holdoffMs

/-! ### Feeder settings (Table 4-1) -/

/-- The feeder settings in their ranges (R52, Table 4-1). -/
def FeederSettings.clamped (t : FeederSettings) : FeederSettings :=
  { t with
    shedRank := min 15 t.shedRank, ufStage := min 4 t.ufStage, blockKw := min 10000 t.blockKw
    pulseMs := clampNat 50 1000 t.pulseMs, operateMs := clampNat 20 2000 t.operateMs }

/-- The feeder settings that 9 bytes carry (Table 10-5). -/
def FeederSettings.ofBytes (bs : List Byte) : FeederSettings :=
  let flags := fieldOf bs 0 1
  { inService := flags.testBit 0, autoInhibit := flags.testBit 1, styleOverride := flags.testBit 2
    shedRank := fieldOf bs 1 1, ufStage := fieldOf bs 2 1, blockKw := fieldOf bs 3 2
    pulseMs := fieldOf bs 5 2, operateMs := fieldOf bs 7 2 }

/-- The 9 bytes of the feeder settings (Table 10-5). -/
def FeederSettings.bytes (t : FeederSettings) : List Byte :=
  leBytes 1 (packFlags [t.inService, t.autoInhibit, t.styleOverride]) ++ leBytes 1 t.shedRank
    ++ leBytes 1 t.ufStage ++ leBytes 2 t.blockKw ++ leBytes 2 t.pulseMs ++ leBytes 2 t.operateMs

/-! ### Set settings (Table 7-1) -/

/-- The values of crank_report, in the order of Table 7-1. -/
def CrankReport.code : CrankReport → Nat
  | .onTime => 0
  | .rest => 1
  | .both => 2

/-- The crank_report that a byte names. -/
def CrankReport.ofCode : Nat → Option CrankReport
  | 0 => some .onTime
  | 1 => some .rest
  | 2 => some .both
  | _ => none

/-- The set settings in their ranges (R115, Table 7-1). -/
def SetSettings.clamped (t : SetSettings) : SetSettings :=
  let rated := clampNat 10 5000 t.ratedKw
  { t with
    ratedKw := rated, minLoadKw := min rated t.minLoadKw, stepKw := min rated t.stepKw
    energyKws := min 65535 t.energyKws
    crankOnMs := clampNat 1000 30000 t.crankOnMs, crankRestMs := clampNat 1000 60000 t.crankRestMs
    crankAttempts := clampNat 1 6 t.crankAttempts, runupMs := min 120000 t.runupMs
    syncTimeoutMs := clampNat 5000 300000 t.syncTimeoutMs
    unloadTimeoutMs := clampNat 5000 300000 t.unloadTimeoutMs
    cooldownMs := min 900000 t.cooldownMs, rankOverride := min 4 t.rankOverride
    runtime := min 999999 t.runtime }

/-- The set settings that 36 bytes carry; none when an enumerated value names nothing (Table 10-5). -/
def SetSettings.ofBytes (bs : List Byte) : Option SetSettings :=
  match boolOf (fieldOf bs 0 1), CrankReport.ofCode (fieldOf bs 30 1) with
  | some inService, some report =>
    some
      { inService := inService, ratedKw := fieldOf bs 1 2, minLoadKw := fieldOf bs 3 2
        stepKw := fieldOf bs 5 2, energyKws := fieldOf bs 7 2, crankOnMs := fieldOf bs 9 2
        crankRestMs := fieldOf bs 11 2, crankAttempts := fieldOf bs 13 1, runupMs := fieldOf bs 14 4
        syncTimeoutMs := fieldOf bs 18 4, unloadTimeoutMs := fieldOf bs 22 4, cooldownMs := fieldOf bs 26 4
        crankReport := report, rankOverride := fieldOf bs 31 1, runtime := fieldOf bs 32 4 }
  | _, _ => none

/-- The 36 bytes of the set settings (Table 10-5). -/
def SetSettings.bytes (t : SetSettings) : List Byte :=
  leBytes 1 (bit t.inService) ++ leBytes 2 t.ratedKw ++ leBytes 2 t.minLoadKw ++ leBytes 2 t.stepKw
    ++ leBytes 2 t.energyKws ++ leBytes 2 t.crankOnMs ++ leBytes 2 t.crankRestMs ++ leBytes 1 t.crankAttempts
    ++ leBytes 4 t.runupMs ++ leBytes 4 t.syncTimeoutMs ++ leBytes 4 t.unloadTimeoutMs
    ++ leBytes 4 t.cooldownMs ++ leBytes 1 t.crankReport.code ++ leBytes 1 t.rankOverride
    ++ leBytes 4 t.runtime

/-! ### Channel settings (Table 8-1) -/

/-- The channel settings in their ranges (R140, Table 8-1). -/
def PvSettings.clamped (t : PvSettings) : PvSettings :=
  let rated := clampNat 1 5000 t.ratedKw
  { t with
    ratedKw := rated, rampUp := clampNat 1 5000 t.rampUp, hostCeiling := min rated t.hostCeiling
    fallbackCeiling := min rated t.fallbackCeiling, pwmPeriodMs := clampNat 1 100 t.pwmPeriodMs }

/-- The channel settings that 10 bytes carry (Table 10-5). -/
def PvSettings.ofBytes (bs : List Byte) : PvSettings :=
  let flags := fieldOf bs 0 1
  { inService := flags.testBit 0, inverted := flags.testBit 1, ratedKw := fieldOf bs 1 2
    rampUp := fieldOf bs 3 2, hostCeiling := fieldOf bs 5 2, fallbackCeiling := fieldOf bs 7 2
    pwmPeriodMs := fieldOf bs 9 1 }

/-- The 10 bytes of the channel settings (Table 10-5). -/
def PvSettings.bytes (t : PvSettings) : List Byte :=
  leBytes 1 (packFlags [t.inService, t.inverted]) ++ leBytes 2 t.ratedKw ++ leBytes 2 t.rampUp
    ++ leBytes 2 t.hostCeiling ++ leBytes 2 t.fallbackCeiling ++ leBytes 1 t.pwmPeriodMs

/-! ### Input settings -/

/-- The codes of the event modes (Table 10-5). -/
def EventMode.code : EventMode → Nat
  | .none => 0
  | .level => 1
  | .rising => 2
  | .falling => 3
  | .any => 4

/-- The event mode that a byte names. -/
def EventMode.ofCode : Nat → Option EventMode
  | 0 => some .none
  | 1 => some .level
  | 2 => some .rising
  | 3 => some .falling
  | 4 => some .any
  | _ => Option.none

/-- The codes of the categories (Table 10-5). -/
def Category.code : Category → Nat
  | .protection => 0
  | .advisory => 1

/-- The category that a byte names. -/
def Category.ofCode : Nat → Option Category
  | 0 => some .protection
  | 1 => some .advisory
  | _ => none

/-- The input settings that 4 bytes carry; none when an enumerated value names nothing (Table 10-5). -/
def InputSettings.ofBytes (bs : List Byte) : Option InputSettings :=
  match boolOf (fieldOf bs 1 1), EventMode.ofCode (fieldOf bs 2 1), Category.ofCode (fieldOf bs 3 1) with
  | some latch, some mode, some cat =>
    some { debounce := fieldOf bs 0 1, latch := latch, mode := mode, category := cat }
  | _, _, _ => none

/-- The 4 bytes of the input settings (Table 10-5). -/
def InputSettings.bytes (t : InputSettings) : List Byte :=
  leBytes 1 t.debounce ++ leBytes 1 (bit t.latch) ++ leBytes 1 t.mode.code ++ leBytes 1 t.category.code

/-! ### Directory and plans -/

/-- A directory entry's byte (Table 10-5). -/
def directoryByte : Option (Fin 4) → Byte
  | some p => BitVec.ofNat 8 p
  | none => 0xFF

/-- The directory entry that a byte names; none when it names neither a plan nor NONE. -/
def directoryEntry (n : Nat) : Option (Option (Fin 4)) :=
  if h : n < 4 then some (some ⟨n, h⟩) else if n = 255 then some none else none

/-- The directory that four bytes carry (Table 10-5). -/
def directoryOf (bs : List Byte) : Option (Vector (Option (Fin 4)) 4) :=
  match directoryEntry (fieldOf bs 0 1), directoryEntry (fieldOf bs 1 1), directoryEntry (fieldOf bs 2 1),
      directoryEntry (fieldOf bs 3 1) with
  | some a, some b, some c, some d => some #v[a, b, c, d]
  | _, _, _, _ => none

/-- The four bytes of the directory. -/
def directoryBytes (d : Vector (Option (Fin 4)) 4) : List Byte := d.toList.map directoryByte

/-- The step kind that a byte names (Table 10-9). -/
def StepKind.ofCode : Nat → Option StepKind
  | 0 => some .startLead
  | 1 => some .closeFeeder
  | 2 => some .wait
  | 3 => some .waitStable
  | 4 => some .startNext
  | 5 => some .releasePv
  | 6 => some .stop
  | _ => none

/-- A step in its ranges (R160). -/
def PlanStep.clamped (st : PlanStep) : PlanStep :=
  { st with
    timeout := clampNat 1000 600000 st.timeout
    param :=
      match st.kind with
      | .wait => min 600000 st.param
      | .waitStable => min 600000 st.param
      | .releasePv => min 100 st.param
      | _ => st.param }

/-- The step that 11 bytes carry; none when an enumerated value names nothing (Table 10-9). -/
def PlanStep.ofBytes (bs : List Byte) : Option PlanStep :=
  match StepKind.ofCode (fieldOf bs 0 1), boolOf (fieldOf bs 10 1) with
  | some kind, some skip =>
    some
      { kind := kind, object := fieldOf bs 1 1, param := fieldOf bs 2 4, timeout := fieldOf bs 6 4
        skippable := skip }
  | _, _ => none

/-- The 11 bytes of a step (Table 10-9). -/
def PlanStep.bytes (st : PlanStep) : List Byte :=
  leBytes 1 st.kind.code ++ leBytes 1 st.object ++ leBytes 4 st.param ++ leBytes 4 st.timeout
    ++ leBytes 1 (bit st.skippable)

/-- `n` steps that follow one another in the bytes. -/
def stepsOf : Nat → List Byte → Option (List PlanStep)
  | 0, _ => some []
  | n + 1, bs =>
    match PlanStep.ofBytes (bs.take 11), stepsOf n (bs.drop 11) with
    | some st, some l => some (st :: l)
    | _, _ => none

/-- The instance, step count and steps of a plan, as the settings image carries them (R197). READ_CONFIG carries a plan
in the same order, for R187 names only the plan and its instance (DEDUCED, log 20). -/
def Plan.bytes (p : Plan) : List Byte :=
  p.inst :: leBytes 1 p.steps.length ++ p.steps.flatMap PlanStep.bytes

/-! ### Measurements -/

/-- The items that the payload of MEASURE carries; none when a code names no point (R41, Table 10-5). -/
def measureItems (f : Frame) : Option (List (PointRef × Int)) :=
  (List.range (f.byte 0)).mapM fun k =>
    (PointRef.ofCode (f.byte (1 + 3 * k))).map fun p => (p, f.fieldInt (2 + 3 * k) 2)

/-! ### Numbers of objects -/

/-- The object that a number names among `n`. -/
def objectOf (n k : Nat) : Option (Fin n) := if h : k < n then some ⟨k, h⟩ else none

end Sys2Proof.Machine
end

