-- ==== Sys2Proof/Machine/Links.lean ====
section
/-! DEFINITION. The link interface: receivers, error flags, supervision, reply lists and the taking of requests
(chapter 10). -/

namespace Sys2Proof.Machine

/-! ### Error flags (R178) -/

/-- The four error flags of a link (R178). -/
inductive LinkError where
  | check | gap | length | overrun
  deriving DecidableEq, Repr

/-- A link with one more error flag set. -/
def LinkCtl.withError (e : LinkError) (c : LinkCtl) : LinkCtl :=
  match e with
  | .check => { c with errCheck := true }
  | .gap => { c with errGap := true }
  | .length => { c with errLength := true }
  | .overrun => { c with errOverrun := true }

/-- A link error flag is set, and LINK_ERROR with it when link_error_report is on (R178). -/
def setLinkError (e : LinkError) (l : Link) (s : State) : State :=
  let s := modLink l (LinkCtl.withError e) s
  if s.settings.sys.linkErrorReport then setAdv .linkError s else s

/-- The receiver of a link returns to hunting. -/
def LinkCtl.hunt (c : LinkCtl) : LinkCtl := { c with receiver := .hunting, gap := .idle }

/-- A frame is discarded for an error of R177; a disabled link records none (R176). -/
def discardFrame (e : LinkError) (l : Link) (s : State) : State :=
  if (s.link l).enabled then setLinkError e l (modLink l LinkCtl.hunt s) else s

/-! ### Supervision (R183) -/

/-- The supervision timer started afresh: idle when the setting is 0. -/
def supervisionStart (s : State) : Timer :=
  if s.settings.sys.supervision = 0 then .idle else .running (100 * s.settings.sys.supervision)

/-- Supervision that was LOST becomes PRESENT (R183). -/
def restoreSupervision (s : State) : State :=
  if s.lnk.supervised then s
  else
    curOnSupervision true (journal .supervisionRestored 0 0 (setAdv .supervision
      (modLnk (fun l => { l with supervised := true }) s)))

/-- A well-framed frame on a link: on Link A it restarts the timer and restores supervision (R183). -/
def superviseFrame (l : Link) (s : State) : State :=
  match l with
  | .a => restoreSupervision (modLnk (fun n => { n with supTimer := supervisionStart s }) s)
  | .b => s

/-- The supervision timer expires: supervision becomes LOST (R183). An expiry while it is LOST already, which follows a
CONFIGURE_SYSTEM on Link B that has restarted the timer, is reported once more, with SUPERVISION, a second record and
the notice: R183 speaks of "that loss" and does not say whether this is one (DESIGN CHOICE, log 44). -/
def supervisionExpires (s : State) : State :=
  if s.lnk.supTimer.isRunning then
    curOnSupervision false (journal .supervisionLost 0 s.settings.sys.supervision (setAdv .supervision
      (modLnk (fun l => { l with supervised := false, supTimer := .idle }) s)))
  else s

/-- CONFIGURE_SYSTEM has changed the supervision setting to the one now in force (R183). -/
def supervisionChanged (s : State) : State :=
  let s := modLnk (fun n => { n with supTimer := supervisionStart s }) s
  if s.settings.sys.supervision = 0 then restoreSupervision s else s

/-! ### Replies (R179, R180) -/

/-- A reply joins the reply list of a link: it is sent at once when the list is empty. -/
def LinkCtl.enqueue (r : Reply) (c : LinkCtl) : LinkCtl :=
  match c.current with
  | .none => { c with current := .sending r }
  | _ => { c with waiting := c.waiting ++ [r] }

/-- The reply list after its first reply has gone: the next waiting reply is sent (R179). -/
def LinkCtl.sent (c : LinkCtl) : LinkCtl :=
  match c.waiting with
  | [] => { c with current := .none }
  | r :: l => { c with current := .sending r, waiting := l }

/-- One link takes a new rate and enable: a changed link hunts afresh, and a disabled one sends nothing
(R176). -/
def LinkCtl.takeLine (rate : LineRate) (enabled : Bool) (c : LinkCtl) : LinkCtl :=
  let c := if rate = c.rate ∧ enabled = c.enabled then c else c.hunt
  let c := { c with rate := rate, enabled := enabled }
  if enabled then c else { c with current := .none, waiting := [] }

/-- The line settings that a request has changed take effect with the values that it wrote; the others are left
(R176). -/
def takeLines (p : LineChange) (s : State) : State :=
  modLink .b (fun c => c.takeLine (p.rateB.getD c.rate) (p.linkB.getD c.enabled))
    (modLink .a (fun c => c.takeLine (p.rateA.getD c.rate) c.enabled) s)

/-- The last byte of the reply being sent on a link has left (R176, R179, R185). -/
def replyDone (l : Link) (s : State) : State :=
  match (s.link l).current with
  | .sending r =>
    let s := modLink l LinkCtl.sent s
    let s :=
      match r.lines with
      | some p => takeLines p s
      | none => s
    if r.isReset then modLnk (fun n => { n with reset := .draining }) s else s
  | _ => s

/-! ### Taking a request (R179 to R182) -/

/-- What the owning block answers to a request: the state it leaves, the status, and the payload after the
status, formed from the state that stands when the event is over. -/
structure Answer where
  state : State
  status : Status
  body : State → List Byte := fun _ => []
  lines : Option LineChange := none
  isReset : Bool := false
  /-- The reply is formed at a later event (STORE_SETTINGS, R199). -/
  deferred : Bool := false

/-- A refusal: nothing is done, and the reply carries the status alone (R179, R182). -/
def refuse (st : Status) (s : State) : Answer := { state := s, status := st }

/-- A request performed at its event, with its reply payload after the status. -/
def reply (st : Status) (body : State → List Byte) (s : State) : Answer := { state := s, status := st, body := body }

/-- A query's reply: its payload shows the state standing when the request was taken (R188). -/
def queryReply (body : List Byte) (s : State) : Answer := { state := s, status := .ok, body := fun _ => body }

/-- The operate link: Link A at REMOTE, Link B at LOCAL (section 10.3). -/
def operateLink (s : State) : Link := if s.lnk.isLocal then .b else .a

/-- An earlier request on the link is unanswered, or the kind is configuring and a settings write runs
(check 3 of R182). -/
def isBusy (g : Group) (l : Link) (s : State) : Bool :=
  decide ((s.link l).current ≠ .none) || (decide (g = .configure) && s.sto.write.isSome)

/-- Checks 2 to 4 of R182. -/
def lnkCheck (g : Group) (lengthOk : Bool) (l : Link) (s : State) : Option Status :=
  if !lengthOk then some .badLength
  else if isBusy g l s then some .busy
  else if g ≠ .either ∧ l ≠ operateLink s then some .notPermitted
  else none

/-- The request is performed or refused, and its reply joins the reply list of its link (R179, R180). -/
def answer (kind : Byte) (f : Frame) (a : Answer) : State :=
  let t := conclude a.state
  if a.deferred then t
  else
    modLink f.link (LinkCtl.enqueue
      { kind := kind + 0x80, tag := f.tag, payload := a.status.code :: a.body t, lines := a.lines
        isReset := a.isReset }) t

/-- A well-framed frame is handed over (R179 to R183, R185). `check` is the LNK part of the check order and
`perform` the owning block's part. -/
def takeFrame (kind : Byte) (f : Frame) (check : State → Option Status) (perform : State → Answer)
    (s : State) : State :=
  match s.phase with
  | .loading => s
  | .running =>
    if (s.link f.link).enabled then
      let s := superviseFrame f.link s
      if s.lnk.reset = .draining then conclude s
      else if Config.replyListMax ≤ (s.link f.link).waiting.length then
        conclude (setLinkError .overrun f.link s)
      else
        match check s with
        | some st => answer kind f (refuse st s)
        | none => answer kind f (perform s)
    else s

/-- A request of a kind of Table 10-1. -/
def request (kind : Byte) (g : Group) (f : Frame) (lengthOk : Bool) (perform : State → Answer) (s : State) :
    State :=
  takeFrame kind f (lnkCheck g lengthOk f.link) perform s

/-! ### From bytes to commands (R177) -/

/-- The command that a well-framed frame of a kind is (Table 10-1). BLACKSTART is five commands, told apart by
its one payload byte (Table 10-5, log 22). -/
def commandOfFrame (kind : Byte) (f : Frame) : Instr :=
  match kind.toNat with
  | 0x01 => .identify f
  | 0x02 => .getStatus f
  | 0x03 => .readFrequency f
  | 0x04 => .readFeeders f
  | 0x05 => .readGensets f
  | 0x06 => .readPv f
  | 0x07 => .readStack f
  | 0x08 => .readJournal f
  | 0x09 => .readEvents f
  | 0x0A => .readConfig f
  | 0x0B => .peekInputs f
  | 0x0C => .readInputs f
  | 0x0D => .collectMarks f
  | 0x0E => .measure f
  | 0x20 => .operateFeeder f
  | 0x21 => .shed f
  | 0x22 => .restoreEntry f
  | 0x23 => .holdEntry f
  | 0x24 => .releaseEntry f
  | 0x25 => .discardEntry f
  | 0x26 => .startGenset f
  | 0x27 => .stopGenset f
  | 0x28 => .resetLockout f
  | 0x29 => .setPvCeiling f
  | 0x2A => .setMode f
  | 0x2B =>
    match f.payload with
    | [1] => .blackstartHold f
    | [2] => .blackstartResume f
    | [3] => .blackstartAbort f
    | [4] => .blackstartAck f
    | _ => .blackstartBegin f
  | 0x2C => .clearEvents f
  | 0x2D => .setEventMask f
  | 0x2E => .clearLinkErrors f
  | 0x2F => .reset f
  | 0x40 => .configureSystem f
  | 0x41 => .configureStages f
  | 0x42 => .configureFeeder f
  | 0x43 => .configureGenset f
  | 0x44 => .configurePv f
  | 0x45 => .configureInput f
  | 0x46 => .configurePlan f
  | 0x47 => .configureDirectory f
  | 0x48 => .storeSettings f
  | _ => .unknownKind kind f

/-- What the receiver of a link makes of a byte: its condition after it, and the command that the byte
completes (R177). -/
def receiveByte (l : Link) (b : Byte) (r : Receiver) : Receiver × Option Instr :=
  match r with
  | .hunting => if b = 0xC5 then (.inFrame [], none) else (.hunting, none)
  | .inFrame [] =>
    if 2 ≤ b.toNat ∧ b.toNat ≤ 250 then (.inFrame [b], none) else (.hunting, some (.lengthError l))
  | .inFrame (len :: got) =>
    let all := len :: got ++ [b]
    if all.length < len.toNat + 3 then (.inFrame all, none)
    else
      let body := all.take (len.toNat + 1)
      let check := (all.drop (len.toNat + 1)).reverse
      if ofLe check = (crc16 body).toNat then
        match body with
        | _ :: kind :: tag :: payload => (.hunting, some (commandOfFrame kind ⟨l, tag, payload⟩))
        | _ => (.hunting, none)
      else (.hunting, some (.checkError l))

/-- The gap timer after a byte: it runs while the receiver is in a frame (R177). -/
def gapAfter : Receiver → Timer
  | .hunting => .idle
  | .inFrame _ => .running Config.gapMs

/-- The next byte that stands on the line of a link is received; the command it completes is the next event.
A disabled link ignores it (R176, R177). -/
def receiveNext (l : Link) (s : State) : State :=
  let c := s.link l
  match c.lineIn with
  | [] => s
  | b :: rest =>
    if c.enabled then
      let r := receiveByte l b c.receiver
      let s := modLink l (fun c => { c with lineIn := rest, receiver := r.1, gap := gapAfter r.1 }) s
      { s with pending := r.2.toList ++ s.pending }
    else modLink l (fun c => { c with lineIn := rest }) s

end Sys2Proof.Machine
end

