-- ==== Sys2Proof/Machine/Store.lean ====
section
/-! DEFINITION. The settings image of the settings store (R197, R198). -/

namespace Sys2Proof.Machine

/-! ### Writing an image -/

/-- The records of one group, each with its group code and object number. -/
def objectRecords (group n : Nat) (body : Fin n → List Byte) : List Byte :=
  (List.finRange n).flatMap fun i => BitVec.ofNat 8 group :: BitVec.ofNat 8 i.val :: body i

/-- The records of an image, in the order of R197. -/
def imageRecords (t : Settings) : List Byte :=
  (1 :: t.sys.values.flatMap (leBytesInt 4)) ++ (2 :: t.stages.bytes)
    ++ objectRecords 3 16 (fun f => t.feeders[f].bytes)
    ++ objectRecords 4 4 (fun g => t.sets[g].bytes)
    ++ objectRecords 5 6 (fun j => t.channels[j].bytes)
    ++ objectRecords 6 32 (fun i => t.inputs[i].bytes)
    ++ (7 :: directoryBytes t.directory)
    ++ objectRecords 8 4 (fun p => t.plans[p].bytes)

/-- The settings image of the working settings (R197). Format code, length and fields stand low byte first, as R197
says of the CRC-32 and R188 of payloads (DEDUCED, log 53). -/
def imageOf (t : Settings) : List Byte :=
  let records := imageRecords t
  let content := leBytes 2 0x0416 ++ leBytes 2 records.length ++ records
  content ++ leBytes 4 (crc32 content).toNat

/-! ### Reading an image -/

/-- The first `n` bytes the memory answers; bytes it does not answer read as all ones (R198). -/
def memoryBytes (image : List Byte) (n : Nat) : List Byte :=
  image.take n ++ List.replicate (n - image.length) 0xFF

/-- A record of a group with `size` bytes of fields is taken from the front of the bytes. -/
def takeRecord (group : Byte) (size : Nat) (bs : List Byte) : Option (List Byte × List Byte) :=
  match bs with
  | g :: l => if g = group ∧ size ≤ l.length then some (l.take size, l.drop size) else none
  | [] => none

/-- The records of `n` numbered objects, from object `k` on, are taken from the front of the bytes, each read by
`read` from its `size` bytes after the object number. -/
def takeObjects {α : Type} (group : Byte) (size : Nat) (read : List Byte → Option α) :
    Nat → Nat → List Byte → Option (List α × List Byte)
  | 0, _, bs => some ([], bs)
  | n + 1, k, bs =>
    match takeRecord group (size + 1) bs with
    | some (num :: body, rest) =>
      if num = BitVec.ofNat 8 k then
        match read body, takeObjects group size read n (k + 1) rest with
        | some x, some (l, rest) => some (x :: l, rest)
        | _, _ => none
      else none
    | _ => none

/-- A plan record is taken from the front of the bytes: its number is `k`, and its step count, at most 12,
gives its size. -/
def takePlan (k : Nat) (bs : List Byte) : Option (Plan × List Byte) :=
  match bs with
  | g :: num :: inst :: count :: l =>
    if g = 8 ∧ num = BitVec.ofNat 8 k ∧ count.toNat ≤ 12 ∧ 11 * count.toNat ≤ l.length then
      (stepsOf count.toNat l).map fun steps =>
        ({ steps := steps.map PlanStep.clamped, inst := inst }, l.drop (11 * count.toNat))
    else none
  | _ => none

/-- The records of `n` plans, from plan `k` on, are taken from the front of the bytes. -/
def takePlans : Nat → Nat → List Byte → Option (List Plan × List Byte)
  | 0, _, bs => some ([], bs)
  | n + 1, k, bs =>
    match takePlan k bs with
    | some (p, rest) => (takePlans n (k + 1) rest).map fun r => (p :: r.1, r.2)
    | none => none

/-- The system settings that a system record's 104 bytes carry. -/
def systemOfBytes (bs : List Byte) : Option SystemSettings :=
  (systemItems ((List.range 26).map fun k => (k + 1, ofLeInt ((bs.drop (4 * k)).take 4))) {}).map (·.1)

/-- A list of `n` elements as a vector. -/
def vectorOf {α : Type} (n : Nat) (l : List α) : Option (Vector α n) :=
  if h : l.toArray.size = n then some ⟨l.toArray, h⟩ else none

/-- The working settings that the records of an image carry, each value in its range; none when the records
are not those of R197 or an enumerated value names nothing (R198). -/
def settingsOfRecords (bs : List Byte) : Option Settings := do
  let (sysBytes, bs) ← takeRecord 1 104 bs
  let sys ← systemOfBytes sysBytes
  let (stageBytes, bs) ← takeRecord 2 27 bs
  let (feeders, bs) ← takeObjects 3 9 (fun b => some (FeederSettings.ofBytes b).clamped) 16 0 bs
  let (sets, bs) ← takeObjects 4 36 (fun b => (SetSettings.ofBytes b).map SetSettings.clamped) 4 0 bs
  let (channels, bs) ← takeObjects 5 10 (fun b => some (PvSettings.ofBytes b).clamped) 6 0 bs
  let (inputs, bs) ← takeObjects 6 4 InputSettings.ofBytes 32 0 bs
  let (dirBytes, bs) ← takeRecord 7 4 bs
  let directory ← directoryOf dirBytes
  let (plans, bs) ← takePlans 4 0 bs
  let feeders ← vectorOf 16 feeders
  let sets ← vectorOf 4 sets
  let channels ← vectorOf 6 channels
  let inputs ← vectorOf 32 inputs
  let plans ← vectorOf 4 plans
  if bs.isEmpty then
    some
      { sys := sys, stages := (ShedSettings.ofBytes stageBytes).clamped sys.fNom, feeders := feeders
        sets := sets, channels := channels, inputs := inputs, directory := directory, plans := plans }
  else none

/-- The outcome of a settings load: the working settings, or the reason code of the rejection (R198). Of several checks
that fail, the first in the order of the table gives the reason (DEDUCED, log 54). -/
def loadImage (image : List Byte) : Settings ⊕ Nat :=
  if ofLe (memoryBytes image 2) ≠ 0x0416 then .inr 1
  else
    let len := ofLe ((memoryBytes image 4).drop 2)
    if 4088 < len then .inr 2
    else
      let content := memoryBytes image (4 + len)
      if ofLe ((memoryBytes image (8 + len)).drop (4 + len)) ≠ (crc32 content).toNat then .inr 3
      else
        match settingsOfRecords (content.drop 4) with
        | some t => .inl t
        | none => .inr 4

end Sys2Proof.Machine
end

