-- ==== Sys2Proof/Machine/Reset.lean ====
section
/-! DEFINITION. The two resets (section 2.7): the state each block takes when the blocks initialise. -/

namespace Sys2Proof.Machine

/-- The two kinds of reset, as far as the blocks tell them apart (section 2.7). -/
inductive ResetKind where
  | powerOn | soft
  deriving DecidableEq, Repr

/-- FMON after a reset (Table 1-3). -/
def resetFmon (s : State) : State := { s with fmon := {} }

/-- INC after its reset sample (R33). -/
def resetInputs (s : State) : State := { s with inputs := s.inputs.map resetInput }

/-- MTB after a reset (R51). -/
def resetMeas (s : State) : State := { s with meas := {} }

/-- One feeder after a reset: its state from its status, its line driver by R38, its generation kept by a soft
reset (R38, R67). -/
def resetFeeder (kind : ResetKind) (s : State) (f : Fin 16) : FeederCtl :=
  let closed := feederStatus s f
  { state := if s.settings.feeders[f].inService then stateOfStatus closed else .outOfService
    generation :=
      match kind with
      | .powerOn => 0
      | .soft => s.feeders[f].generation
    close := decide (effectiveStyle s.settings f = .maintained) && closed
    commanded := closed }

/-- FDT and the line drivers after a reset (R38, R67). -/
def resetFeeders (kind : ResetKind) (s : State) : State :=
  { s with feeders := Vector.ofFn fun f => resetFeeder kind s f }

/-- SHD after a reset (Table 5-2). -/
def resetShd (s : State) : State := { s with shd := {} }

/-- RST after a reset (Table 6-1). -/
def resetRst (kind : ResetKind) (s : State) : State :=
  { s with rst :=
      { nextTag :=
          match kind with
          | .powerOn => 0
          | .soft => s.rst.nextTag } }

/-- The state that GEN derives for a set from its inputs (R139). -/
def derivedState (s : State) (g : Fin 4) : SetState :=
  if setBreaker s g then .online
  else if setRunning s g then .syncing
  else if setReady s g && s.settings.sets[g].inService then .standby
  else .unavailable

/-- One set after a reset (R132, R139). -/
def resetSet (kind : ResetKind) (s : State) (g : Fin 4) : SetCtl :=
  let st := derivedState s g
  { state := st
    timer := if st = .syncing then .running s.settings.sets[g].syncTimeoutMs else .idle
    partHour :=
      match kind with
      | .powerOn => 0
      | .soft => s.gen.sets[g].partHour
    run := st.runs }

/-- GEN after a reset (R139). -/
def resetGen (kind : ResetKind) (s : State) : State :=
  { s with gen := { sets := Vector.ofFn fun g => resetSet kind s g } }

/-- A channel after a reset: its generator starts a period with duty 0 (R155, Table 8-2). -/
def resetChannel (s : State) (j : Fin 6) : ChannelCtl :=
  { pwm := { periodMs := s.settings.channels[j].pwmPeriodMs, inverted := s.settings.channels[j].inverted } }

/-- CUR after a reset (Table 8-2). -/
def resetCur (s : State) : State := { s with cur := { channels := Vector.ofFn fun j => resetChannel s j } }

/-- BLK after a reset, before it takes the reset notice (R175). -/
def resetBlk (s : State) : State := { s with blk := {} }

/-- A link after a reset, with its line settings (Table 10-3). The bytes on its line are outside the part. -/
def resetLink (c : LinkCtl) (rate : LineRate) (enabled : Bool) : LinkCtl :=
  { lineIn := c.lineIn, rate := rate, enabled := enabled }

/-- LNK after a reset, in the given mode (Table 10-3). -/
def resetLnk (mode : Mode) (s : State) : State :=
  let t := s.settings.sys
  { s with lnk :=
      { linkA := resetLink s.lnk.linkA t.rateA true
        linkB := resetLink s.lnk.linkB t.rateB t.linkBEnabled
        supTimer := supervisionStart s
        isLocal := s.inputs[28].debounced
        mode := mode } }

/-- EVR after a reset (Table 11-1). -/
def resetEvr (kind : ResetKind) (s : State) : State :=
  { s with evr :=
      match kind with
      | .powerOn => {}
      | .soft => { maskProtection := s.evr.maskProtection, maskAdvisory := s.evr.maskAdvisory } }

/-- The reset notice (R19). -/
def resetNotice : BusNotice := { bus := .dead, prev := .dead, brk := true, reset := true }

/-- The consumers take the reset notice: only BLK acts on it, so their order has no effect (R19, R90, R114,
R139, R157, R175). -/
def takeResetNotice (s : State) : State :=
  blkOnBus resetNotice (genOnBus resetNotice (curOnBus resetNotice (rstOnBus resetNotice
    (shdOnBus resetNotice s))))

/-- The blocks initialise: INC samples first, EVR stands before any block reports, and FMON's reset notice comes
last. No notice of an earlier event remains (R19, R33, R200). -/
def initialise (kind : ResetKind) (mode : Mode) (s : State) : State :=
  let s := resetEvr kind { s with notices := [], phase := .running }
  let s := resetMeas (resetInputs (resetFmon s))
  let s := resetGen kind (resetFeeders kind s)
  let s := resetLnk mode (resetBlk (resetCur (resetRst kind (resetShd s))))
  takeResetNotice s

/-- The supply rises or RESET is held low: every output line is released, the links ignore every byte, the
counts start at 0, and the settings load begins (R1, R38, R39, R155, R193, R198). A settings write that was
running is lost (R199). Pins, line bytes and waiting commands stand outside the part. -/
def powerOn (s : State) : State :=
  { time := { load := .running Config.loadMaxMs }
    phase := .loading
    inputs := s.inputs.map fun c => { raw := c.raw }
    lnk := { linkA := { lineIn := s.lnk.linkA.lineIn }, linkB := { lineIn := s.lnk.linkB.lineIn } }
    draws := s.draws
    pending := s.pending }

/-- A rejected load reports itself (R198). -/
def reportDefaulted (reason : Nat) (s : State) : State :=
  journal .settingsDefaulted 0 reason (setAdv .settingsDefaulted s)

/-- The settings load ends with what the memory answered: the image becomes the working settings, or the
defaults stand; then the blocks initialise (R198, R200). -/
def loadEnds (image : List Byte) (s : State) : State :=
  let s := { s with time := { s.time with load := .idle } }
  match loadImage image with
  | .inl t =>
    driveAlerts (initialise .powerOn t.sys.startMode { s with settings := t, sto := { image := .loaded } })
  | .inr reason =>
    driveAlerts (reportDefaulted reason (initialise .powerOn .monitor
      { s with settings := {}, sto := { image := .defaulted reason } }))

/-- The soft reset awaits nothing more (R185). -/
def softResetReady (s : State) : Bool :=
  decide (s.lnk.reset = .draining) && decide (s.lnk.linkA.current = .none)
    && decide (s.lnk.linkB.current = .none) && s.sto.write.isNone

/-- The soft reset is performed (R185): every block takes its soft-reset state; part time, the capture counter,
the working settings, the mode and the runtime counters are kept. -/
def softReset (s : State) : State := driveAlerts (initialise .soft s.lnk.mode s)

end Sys2Proof.Machine
end

