-- ==== Sys2Proof/Machine/BlockEvents.lean ====
section
/-! DEFINITION. The commands that are not requests: resets, bus and input events, timer expiries, link events. -/

namespace Sys2Proof.Machine

/-! ### Resets -/

/-- POWER_ON_RESET (R198). -/
def execPowerOnReset (s : State) : Host.Outcome State Fault Refusal := .next (powerOn s)

/-- SETTINGS_LOAD_END: the load in progress ends (R198). -/
def execSettingsLoadEnd (image : List Byte) (s : State) : Host.Outcome State Fault Refusal :=
  .next
    (match s.phase with
     | .loading => loadEnds image s
     | .running => s)

/-- SOFT_RESET: performed once its conditions stand (R185). -/
def execSoftReset (s : State) : Host.Outcome State Fault Refusal :=
  .next
    (match s.phase with
     | .loading => s
     | .running => if softResetReady s then softReset s else s)

/-! ### Bus and inputs -/

/-- CROSSING (R1 to R14). -/
def execCrossing (s : State) : Host.Outcome State Fault Refusal := .next (event crossingArrives s)

/-- DEAD_BUS_TIMER_EXPIRY (R15). -/
def execDeadBusTimerExpiry (s : State) : Host.Outcome State Fault Refusal := .next (event deadBusExpires s)

/-- DEBOUNCED_CHANGE of an input to a level (R21, R22). -/
def execDebouncedChange (i : Fin 32) (level : Bool) (s : State) : Host.Outcome State Fault Refusal :=
  .next (event (debouncedTo i level) s)

/-! ### Expiries and ticks -/

/-- PULSE_END: a pulse runs out (R35). -/
def execPulseEnd (f : Fin 16) (s : State) : Host.Outcome State Fault Refusal := .next (event (pulseEnds f) s)

/-- OPERATE_TIMER_EXPIRY: an operate timer expires (R57). -/
def execOperateTimerExpiry (f : Fin 16) (s : State) : Host.Outcome State Fault Refusal :=
  .next (event (operateTimerExpires f) s)

/-- POINTS_BECOME_STALE: the ageing tick at which points become stale (R45, R46). -/
def execPointsBecomeStale (s : State) : Host.Outcome State Fault Refusal := .next (event staleTick s)

/-- HOLDOFF_TIMER_EXPIRY: the hold-off timer expires (R82). -/
def execHoldoffTimerExpiry (s : State) : Host.Outcome State Fault Refusal := .next (event holdoffExpires s)

/-- CREDIT_ITEM_EXPIRY: a credit item reaches its expiry time (R83). -/
def execCreditItemExpiry (f : Fin 16) (s : State) : Host.Outcome State Fault Refusal :=
  .next (event (creditExpires f) s)

/-- RESTORE_DELAY_EXPIRY: the restore delay timer expires (R101). -/
def execRestoreDelayExpiry (s : State) : Host.Outcome State Fault Refusal :=
  .next (event restoreDelayExpires s)

/-- INTERVAL_TIMER_EXPIRY: the restore interval timer expires (R103). -/
def execIntervalTimerExpiry (s : State) : Host.Outcome State Fault Refusal := .next (event intervalExpires s)

/-- START_DELAY_TIMER_EXPIRY: the start-delay timer expires (R105). -/
def execStartDelayTimerExpiry (s : State) : Host.Outcome State Fault Refusal :=
  .next (event startDelayExpires s)

/-- CRANK_ON_TIME_EXPIRY: a crank on-time runs out without RUNNING (R121). -/
def execCrankOnTimeExpiry (g : Fin 4) (s : State) : Host.Outcome State Fault Refusal :=
  .next (event (crankOnTimeExpires g) s)

/-- CRANK_REST_EXPIRY: a crank rest ends (R122). -/
def execCrankRestExpiry (g : Fin 4) (s : State) : Host.Outcome State Fault Refusal :=
  .next (event (crankRestExpires g) s)

/-- RUN_UP_EXPIRY: a run-up ends (R124). -/
def execRunUpExpiry (g : Fin 4) (s : State) : Host.Outcome State Fault Refusal :=
  .next (event (runUpExpires g) s)

/-- SYNC_TIMEOUT: a sync timer expires with the breaker open (R124). -/
def execSyncTimeout (g : Fin 4) (s : State) : Host.Outcome State Fault Refusal :=
  .next (event (syncTimesOut g) s)

/-- UNLOAD_TIMEOUT: an unload timer expires with the breaker closed (R128). -/
def execUnloadTimeout (g : Fin 4) (s : State) : Host.Outcome State Fault Refusal :=
  .next (event (unloadTimesOut g) s)

/-- COOLDOWN_EXPIRY: a cooldown ends (R128). -/
def execCooldownExpiry (g : Fin 4) (s : State) : Host.Outcome State Fault Refusal :=
  .next (event (cooldownExpires g) s)

/-- RUNTIME_TENTH_HOUR: a part-hour count reaches 360,000 ms (R132). -/
def execRuntimeTenthHour (g : Fin 4) (s : State) : Host.Outcome State Fault Refusal :=
  .next (event (tenthHour g) s)

/-- LOW_RESERVE_TIMER_EXPIRY: the low-reserve timer expires (R136). -/
def execLowReserveTimerExpiry (s : State) : Host.Outcome State Fault Refusal :=
  .next (event lowReserveExpires s)

/-- STOP_TIMER_EXPIRY: the stop timer expires (R137). -/
def execStopTimerExpiry (s : State) : Host.Outcome State Fault Refusal := .next (event stopTimerExpires s)

/-- RAMP_TICK: the 100 ms tick of the curtailment unit (R151). -/
def execRampTick (s : State) : Host.Outcome State Fault Refusal := .next (event rampTickStep s)

/-- PWM_PERIOD_START: a PWM period starts (R154). -/
def execPwmPeriodStart (j : Fin 6) (s : State) : Host.Outcome State Fault Refusal :=
  .next (event (pwmStart j) s)

/-- PWM_ACTIVE_LEVEL_END: the active part of a PWM period ends (R154). -/
def execPwmActiveLevelEnd (j : Fin 6) (s : State) : Host.Outcome State Fault Refusal :=
  .next (event (pwmActiveEnds j) s)

/-- CONFIRMATION_TIMER_EXPIRY: the confirmation timer expires (R161). -/
def execConfirmationTimerExpiry (s : State) : Host.Outcome State Fault Refusal :=
  .next (event confirmExpires s)

/-- STEP_TIMER_EXPIRY: the step timer expires before completion (R165). -/
def execStepTimerExpiry (s : State) : Host.Outcome State Fault Refusal := .next (event stepTimerExpires s)

/-- WAIT_TIMER_EXPIRY: the wait timer of a WAIT or WAIT_STABLE step expires (R168). -/
def execWaitTimerExpiry (s : State) : Host.Outcome State Fault Refusal := .next (event waitTimerExpires s)

/-! ### Links and settings store -/

/-- LENGTH_ERROR on a link (R177, R178). -/
def execLengthError (l : Link) (s : State) : Host.Outcome State Fault Refusal :=
  .next (event (discardFrame .length l) s)

/-- CHECK_ERROR on a link (R177, R178). -/
def execCheckError (l : Link) (s : State) : Host.Outcome State Fault Refusal :=
  .next (event (discardFrame .check l) s)

/-- GAP_ERROR on a link (R177, R178). -/
def execGapError (l : Link) (s : State) : Host.Outcome State Fault Refusal :=
  .next (event (discardFrame .gap l) s)

/-- UNKNOWN_KIND: a well-framed request of a kind that Table 10-1 does not name (check 1 of R182). -/
def execUnknownKind (kind : Byte) (f : Frame) (s : State) : Host.Outcome State Fault Refusal :=
  .next (takeFrame kind f (fun _ => some .unknownKind) (refuse .unknownKind) s)

/-- REPLY_TRANSMITTED on a link (R176, R179, R185). -/
def execReplyTransmitted (l : Link) (s : State) : Host.Outcome State Fault Refusal :=
  .next (event (replyDone l) s)

/-- SUPERVISION_TIMER_EXPIRY (R183). -/
def execSupervisionTimerExpiry (s : State) : Host.Outcome State Fault Refusal :=
  .next (event supervisionExpires s)

/-- The reply to STORE_SETTINGS when its write has ended (R199). -/
def storeReply (w : StoreWrite) (matched : Bool) : Reply :=
  { kind := 0x48 + 0x80, tag := w.tag
    payload := if matched then Status.ok.code :: leBytes 2 w.image.length else [Status.writeFailed.code] }

/-- A settings write ends with what was read back: the reply is sent and the record added (R199). -/
def storeEnds (readBack : List Byte) (s : State) : State :=
  match s.sto.write with
  | none => s
  | some w =>
    let matched := decide (readBack.take w.image.length = w.image)
    let s := journal .settingsStored 0 (bit !matched) { s with sto := { s.sto with write := none } }
    modLink w.link (fun c =>
      match c.current with
      | .forming => { c with current := .sending (storeReply w matched) }
      | _ => c) s

/-- STORE_WRITE_END (R199). -/
def execStoreWriteEnd (readBack : List Byte) (s : State) : Host.Outcome State Fault Refusal :=
  .next (event (storeEnds readBack) s)

end Sys2Proof.Machine
end

