-- ==== Sys2Proof/Machine/Replies.lean ====
section
/-! DEFINITION. The payloads of the query replies, after the status byte (sections 10.7, 10.8). -/

namespace Sys2Proof.Machine

/-! ### Marks of absence (R188) -/

/-- An unsigned item of `w` bytes; all ones when it is absent (R188). -/
def orOnes (w : Nat) : Option Nat → List Byte
  | some n => leBytes w n
  | none => List.replicate w 0xFF

/-- A signed item of `w` bytes; the most negative value when it is absent (R188). -/
def orLeast (w : Nat) : Option Int → List Byte
  | some v => leBytesInt w v
  | none => leBytesInt w (-(2 ^ (8 * w - 1) : Nat))

/-- An item that is not negative, carried without a sign. -/
def unsigned (w : Nat) (v : Int) : List Byte := leBytes w v.toNat

/-- The number of an object, if there is one. -/
def numberOf {n : Nat} (o : Option (Fin n)) : Option Nat := o.map (·.val)

/-- The time left on a timer that runs or is paused. An idle or expired timer has none, and the replies whose rules do
not say otherwise carry it as absent (DEDUCED, log 35). -/
def Timer.remaining : Timer → Option Nat
  | .running n => some n
  | .paused n => some n
  | _ => none

/-- A list of objects: its length, then their numbers in order (DEDUCED, log 34). -/
def numberList {n : Nat} (l : List (Fin n)) : List Byte :=
  leBytes 1 l.length ++ l.flatMap fun x => leBytes 1 x.val

/-! ### Codes of enumerated items -/

/-- The codes of the feeder states, their positions in Table 4-3, which has a row for each failure direction
(R188). -/
def FeederState.code : FeederState → Nat
  | .closed => 0 | .opened => 1 | .opening => 2 | .closing => 3 | .failed .trip => 4 | .failed .close => 5
  | .outOfService => 6

/-- The codes of the failure direction in Table 10-7. -/
def FeederState.dirCode : FeederState → Nat
  | .failed .trip => 1
  | .failed .close => 2
  | _ => 0

/-- The codes of the origins of an operation in Table 10-7. -/
def opOriginCode : Option OpOrigin → Nat
  | none => 0
  | some .autoShed => 1
  | some .manualShed => 2
  | some .restore => 3
  | some .blackstart => 4
  | some .host => 5

/-- The codes of the set states, their positions in Table 7-3. -/
def SetState.code : SetState → Nat
  | .unavailable => 0 | .standby => 1 | .waitCrank => 2 | .cranking => 3 | .crankRest => 4 | .runUp => 5
  | .syncing => 6 | .online => 7 | .unloading => 8 | .cooldown => 9 | .lockedOut => 10

/-- The codes of the states of BLK, their positions in R158. -/
def BlkState.code : BlkState → Nat
  | .idle => 0 | .confirming => 1 | .waiting => 2 | .running => 3 | .held => 4 | .failed => 5

/-- The codes of the entry kinds (Table 10-8). -/
def EntryKind.code : EntryKind → Nat
  | .ufShed => 0 | .rocofShed => 1 | .manualShed => 2 | .header => 3

/-- The states of the restore delay timer, in the order of R101. -/
def Timer.code : Timer → Nat
  | .idle => 0 | .running _ => 1 | .paused _ => 2 | .expired => 3

/-- The restorer's phases, in the order of R102. -/
def RestPhase.code : RestPhase → Nat
  | .idle => 0 | .due => 1 | .interval => 2

/-- The kinds of target, in the order of R102. -/
def RestTarget.code : RestTarget → Nat
  | .none => 0 | .automatic _ => 1 | .requested _ => 2

/-! ### IDENTIFY and GET_STATUS (R187) -/

/-- The reply to IDENTIFY on a link (R187). -/
def identifyBody (l : Link) (s : State) : List Byte :=
  leBytes 2 Config.partCode ++ leBytes 1 Config.designRevision ++ leBytes 1 l.code ++ leBytes 1 (bit s.lnk.isLocal)
    ++ leBytes 1 s.lnk.mode.code ++ leBytes 4 (fNom s)

/-- The error flags of a link in one byte (R178). -/
def LinkCtl.errors (c : LinkCtl) : List Byte :=
  leBytes 1 (packFlags [c.errCheck, c.errGap, c.errLength, c.errOverrun])

/-- The shed report (R89). -/
def shedReport (s : State) : List Byte :=
  ((List.finRange 4).flatMap fun i => leBytes 1 s.shd.counts[i] ++ leBytes 1 (bit s.shd.armed[i]))
    ++ leBytes 1 s.shd.qual ++ leBytes 2 s.shd.holdoff.left ++ unsigned 4 (creditSum s)
    ++ leBytes 1 s.shd.credit.length ++ leBytes 1 s.shd.targets.length

/-- The run record as the black-start report carries it (R174). Attempt count and step index are numbers, 0 in a run for
which no lead was ever chosen, while its plan, lead and kind are absent (DESIGN CHOICE, log 48). -/
def runReport (s : State) : List Byte :=
  let r := s.blk.run
  orOnes 1 (numberOf r.plan) ++ orOnes 1 (r.plan.map fun _ => r.inst.toNat) ++ orOnes 1 (numberOf r.lead)
    ++ leBytes 1 r.attempt ++ numberList r.tried ++ leBytes 1 r.step
    ++ orOnes 1 (r.kind.map StepKind.code) ++ orOnes 4 r.stepTimer.remaining
    ++ orOnes 4 r.waitTimer.remaining ++ numberList r.started ++ leBytes 1 (packFlags [r.holdStack, r.holdManual])
    ++ orOnes 1 (if r.failure = 0 then none else some r.failure)

/-- The black-start report (R174). -/
def blkReport (s : State) : List Byte :=
  leBytes 1 s.blk.state.code ++ orOnes 2 s.blk.confirm.remaining
    ++ (match s.blk.state with
        | .running => runReport s
        | .held => runReport s
        | .failed => runReport s
        | _ => [])

/-- The reply to GET_STATUS (R187). The pending states of the two event categories share one flag byte, as the yes/no
items of one object, while each stage's armed flag is a byte of its own beside its count (R188; DEDUCED, log 20). -/
def statusBody (s : State) : List Byte :=
  leBytes 1 s.fmon.bus.code ++ orOnes 4 (presentFreq s)
    ++ (leBytes 1 s.lnk.mode.code ++ leBytes 1 (bit s.lnk.isLocal) ++ leBytes 1 (bit !s.lnk.supervised)
        ++ orOnes 2 s.lnk.supTimer.remaining ++ s.lnk.linkA.errors ++ s.lnk.linkB.errors)
    ++ leBytes 1 (staleCount s)
    ++ shedReport s
    ++ (leBytes 1 s.rst.entries.length ++ leBytes 1 (bit (headerStands s)))
    ++ (((List.finRange 4).flatMap fun g => leBytes 1 (setState s g).code) ++ leBytes 4 (storedEnergy s)
        ++ unsigned 2 (spinningReserve s))
    ++ (leBytes 1 (bit s.cur.droopActive) ++ leBytes 1 (s.cur.channels.toList.countP (·.latch))
        ++ unsigned 2 ((s.cur.channels.toList.map (·.limit)).sum))
    ++ blkReport s
    ++ (leBytes 1 (packFlags [protectionPending s, advisoryPending s]) ++ leBytes 1 s.evr.journal.length)

/-! ### READ_FREQUENCY (R18) -/

/-- The present-value record as READ_FREQUENCY carries it (R18). -/
def PresentValue.report (v : PresentValue) : List Byte :=
  leBytes 4 v.f ++ orLeast 2 v.r ++ orLeast 4 v.dP ++ orOnes 4 v.eOn ++ leBytes 4 v.s4 ++ leBytes 2 v.seq.toNat
    ++ leBytes 4 v.time.toNat

/-- The reply to READ_FREQUENCY (R18). Of an invalid present-value record the reply carries the mark alone and leaves
the seven fields out: R18 has it carry them "if so" (DEDUCED, log 33). -/
def frequencyBody (s : State) : List Byte :=
  leBytes 1 s.fmon.bus.code ++ leBytes 1 (bit s.fmon.present.isSome)
    ++ (match s.fmon.present with
        | some v => v.report
        | none => [])
    ++ leBytes 1 s.fmon.periodRing.length ++ orOnes 4 s.fmon.periodRing.getLast? ++ leBytes 2 s.fmon.rejected
    ++ leBytes 4 (fNom s) ++ leBytesInt 1 s.settings.sys.timeTrim

/-! ### READ_FEEDERS (Table 10-7) -/

/-- One feeder report (Table 10-7). -/
def feederReport (s : State) (f : Fin 16) : List Byte :=
  let t := s.settings.feeders[f]
  let c := s.feeders[f]
  let p := s.meas.feeders[f]
  leBytes 1 (packFlags
      [t.inService, t.autoInhibit, t.styleOverride, feederStatus s f, c.commanded, c.operated, c.shed, p.stale])
    ++ leBytes 2 (t.blockKw + 2 ^ 14 * c.state.dirCode)
    ++ leBytes 2 (t.pulseMs + 2 ^ 10 * t.shedRank)
    ++ leBytes 2 (t.operateMs + 2 ^ 11 * t.ufStage)
    ++ leBytes 1 (c.state.code + 2 ^ 3 * opOriginCode c.origin)
    ++ leBytes 1 c.generation.toNat
    ++ leBytes 2 c.timer.left
    ++ leBytesInt 2 p.value
    ++ leBytes 2 p.age

/-- The reply to READ_FEEDERS: reports from the first feeder on, wrapping from F15 to F0 (R64). -/
def feedersBody (first : Fin 16) (count : Nat) (s : State) : List Byte :=
  leBytes 1 first.val ++ leBytes 1 count
    ++ (List.range count).flatMap fun k => feederReport s ⟨(first.val + k) % 16, by omega⟩

/-! ### READ_GENSETS (R138) -/

/-- The place of a set at the crank permit: 0 when it holds the permit, 1 to 4 for its place in the queue, else absent
(R138; the manual gives no coding, DESIGN CHOICE, log 39). -/
def crankPlace (s : State) (g : Fin 4) : Option Nat :=
  if s.gen.permit = some g then some 0 else (s.gen.queue.findIdx? (· = g)).map (· + 1)

/-- The items of one set (R138). Its yes/no items share two flag bytes at the place of the first of them, the output
point's stale flag with them (DEDUCED, log 20), and a lockout cause of none is carried as absent (DEDUCED, log 34). -/
def setReport (g : Fin 4) (s : State) : List Byte :=
  let c := s.gen.sets[g]
  let p := s.meas.sets[g]
  leBytes 1 g.val ++ s.settings.sets[g].bytes ++ leBytes 1 c.state.code ++ leBytes 1 c.origin.code
    ++ leBytes 1 c.attempts ++ orOnes 1 (if c.lockout = 0 then none else some c.lockout)
    ++ orOnes 4 c.timer.remaining ++ leBytes 4 s.settings.sets[g].runtime ++ leBytes 4 c.partHour
    ++ leBytes 2 (packFlags
        [setReady s g, setRunning s g, setBreaker s g, c.crank, c.run, c.syncPermit, c.openReq, c.deadClose,
          driven s g, p.stale])
    ++ orOnes 1 (crankPlace s g) ++ unsigned 2 p.value ++ leBytes 2 p.age

/-- The reply to READ_GENSETS (R138). -/
def gensetsBody (g : Fin 4) (s : State) : List Byte :=
  setReport g s ++ orOnes 1 (numberOf s.gen.permit) ++ numberList s.gen.queue ++ leBytes 4 (storedEnergy s)
    ++ unsigned 2 (fastReserve s) ++ unsigned 2 (spinningReserve s) ++ orOnes 4 s.gen.lowReserve.remaining
    ++ orOnes 4 s.gen.stopTimer.remaining ++ leBytes 1 (bit (autoStart s).isSome)
    ++ orOnes 1 (numberOf (autoStart s)) ++ orOnes 1 (numberOf (dispatchLead s)) ++ orOnes 1 (numberOf (lagSet s))
    ++ orOnes 1 (numberOf s.gen.grant)

/-! ### READ_PV (R156) -/

/-- The items of one channel (R156). -/
def channelReport (s : State) (j : Fin 6) : List Byte :=
  let c := s.cur.channels[j]
  let p := s.meas.channels[j]
  let released (v : Int) : Option Nat := if s.cur.seqActive then some v.toNat else none
  s.settings.channels[j].bytes ++ leBytes 1 (packFlags [c.latch, p.stale]) ++ unsigned 2 (baseCeiling s j)
    ++ unsigned 2 (effectiveCeiling s j) ++ orOnes 1 (released c.release) ++ orOnes 2 (released (releaseLimit s j))
    ++ orOnes 2 (c.reference.map Int.toNat) ++ orOnes 2 (c.droopLimit.map Int.toNat)
    ++ orOnes 2 (c.share.map Int.toNat) ++ unsigned 2 (pvTarget s j) ++ unsigned 2 c.limit
    ++ leBytes 1 c.remainder ++ leBytes 2 c.pwm.present ++ leBytes 2 c.pwm.pending ++ unsigned 2 p.value
    ++ leBytes 2 p.age

/-- The reply to READ_PV (R156). -/
def pvBody (s : State) : List Byte :=
  (List.finRange 6).flatMap (channelReport s)
    ++ leBytes 1 (bit s.cur.droopActive) ++ orLeast 4 s.cur.absorbable
    ++ leBytes 1 (packFlags [s.cur.freeze, s.cur.zeroHold, s.cur.seqActive]) ++ leBytes 1 (bit !s.cur.supervised)
    ++ leBytes 2 s.settings.sys.droopOffset ++ leBytes 2 s.settings.sys.droopBand ++ leBytes 2 s.settings.sys.mlMargin

/-! ### READ_STACK (R113, Table 10-8) -/

/-- One item of an entry (Table 10-8). -/
def StackItem.bytes (x : StackItem) : List Byte :=
  leBytes 1 x.feeder.val ++ leBytes 1 x.generation.toNat ++ leBytesInt 2 x.snapshot

/-- What a header carries in place of items (Table 10-8). -/
def headerBytes : Option HeaderRun → List Byte
  | some h => leBytes 1 h.plan.val ++ leBytes 1 h.inst.toNat ++ leBytes 1 h.lead.val
  | none => [0xFF, 0xFF, 0xFF]

/-- One stack entry (Table 10-8). -/
def Entry.bytes (e : Entry) : List Byte :=
  leBytes 1 e.tag.toNat ++ leBytes 1 e.kind.code ++ leBytesInt 2 e.trigger ++ leBytes 4 e.freq
    ++ leBytes 4 e.pushTime.toNat ++ leBytes 1 (packFlags [e.hold, e.merged, e.restoring, e.isHeader && e.run.isSome])
    ++ (if e.isHeader then leBytes 1 0 ++ headerBytes e.run
        else leBytes 1 e.items.length ++ e.items.flatMap StackItem.bytes)

/-- The tag of the restorer's target. -/
def targetTag (s : State) : Option Nat :=
  (restTarget s).pos.bind fun i => s.rst.entries[i]?.map fun e => e.tag.toNat

/-- The due feeder when the phase is DUE (R113). -/
def dueFeeder (s : State) : Option Nat :=
  if restPhase s = .due then (dueItem s).map fun x => x.feeder.val else none

/-- The reply to READ_STACK (R113). -/
def stackBody (s : State) : List Byte :=
  leBytes 1 s.rst.entries.length ++ s.rst.entries.flatMap Entry.bytes ++ leBytes 1 s.rst.nextTag.toNat
    ++ leBytes 1 s.rst.delay.code ++ orOnes 4 s.rst.delay.remaining ++ leBytes 1 (restPhase s).code
    ++ leBytes 1 (restTarget s).code ++ orOnes 1 (targetTag s) ++ orOnes 1 (dueFeeder s)
    ++ orOnes 2 s.rst.interval.remaining ++ orOnes 4 s.rst.startDelay.remaining
    ++ leBytes 1 (bit (episodeStands s))

/-! ### READ_JOURNAL, READ_EVENTS (Table 10-10, R191) -/

/-- One journal record (Table 10-10). -/
def JournalRecord.bytes (r : JournalRecord) : List Byte :=
  leBytes 4 r.time.toNat ++ leBytes 1 r.kind ++ leBytes 1 r.object ++ leBytesInt 4 r.value

/-- The reply to READ_JOURNAL of n records (R196). -/
def journalBody (n : Nat) (s : State) : List Byte :=
  let l := s.evr.journal.take n
  leBytes 1 l.length ++ l.flatMap JournalRecord.bytes

/-- The three event words (R189). -/
def eventWords (s : State) : List Byte :=
  leBytes 2 s.evr.protection.toNat ++ leBytes 2 s.evr.advisory.toNat ++ leBytes 4 (inputWord s)

/-- The mask byte in the form of SET_EVENT_MASK (R192). -/
def maskByte (s : State) : List Byte := leBytes 1 (packFlags [s.evr.maskProtection, s.evr.maskAdvisory])

/-- The reply to READ_EVENTS (R191). The alert lines are shown at the levels that R193 gives them in the state that
stands, so that a request which itself restores supervision shows its effect on them too. -/
def eventsBody (s : State) : List Byte :=
  let lines := (driveAlerts s).evr
  eventWords s ++ maskByte s ++ leBytes 1 s.settings.sys.alertLines
    ++ leBytes 1 (packFlags [protectionPending s, advisoryPending s, lines.alert0, lines.alert1])

/-! ### READ_CONFIG (R187) -/

/-- The reply to READ_CONFIG of a section, after the status; none for a section above 7 (R187). -/
def configBody (sec : Nat) (s : State) : Option (List Byte) :=
  let t := s.settings
  match sec with
  | 0 => some t.sys.report
  | 1 => some t.stages.bytes
  | 2 => some (t.inputs.toList.flatMap InputSettings.bytes)
  | 3 => some (directoryBytes t.directory ++ leBytes 2 t.sys.deadConfirmMs ++ leBytes 1 t.sys.maxAttempts
      ++ leBytes 1 (bit t.sys.autoBlackstart))
  | n => (objectOf 4 (n - 4)).map fun p => t.plans[p].bytes

/-! ### Inputs and marks (R29, R30, R66) -/

/-- The reply to READ_INPUTS: read view and event flag of every input (R29). -/
def readInputsBody (s : State) : List Byte :=
  s.inputs.toList.flatMap fun c => leBytes 1 (packFlags [c.view, c.flag])

/-- The reply to PEEK_INPUTS: debounced value and event flag of every input (R30). -/
def peekInputsBody (s : State) : List Byte :=
  s.inputs.toList.flatMap fun c => leBytes 1 (packFlags [c.debounced, c.flag])

/-- The summary code of R66. -/
def marksCode (s : State) : Nat :=
  bit (s.feeders.toList.any (·.operated)) + 2 * bit (s.feeders.toList.any (·.shed))

/-- The reply to COLLECT_MARKS: both marks of every feeder and the summary code (R66). -/
def marksBody (s : State) : List Byte :=
  (s.feeders.toList.flatMap fun c => leBytes 1 (packFlags [c.operated, c.shed])) ++ leBytes 1 (marksCode s)

end Sys2Proof.Machine
end

