-- ==== Sys2Proof/Machine/Operating.lean ====
section
/-! DEFINITION. The operating requests (Table 10-1). -/

namespace Sys2Proof.Machine

/-! ### Feeders -/

/-- The state and generation of a feeder, as replies carry them (R52, R63). -/
def feederReply (f : Fin 16) (s : State) : List Byte :=
  leBytes 1 s.feeders[f].state.code ++ leBytes 1 s.feeders[f].generation.toNat

/-- OPERATE_FEEDER on its owner's side: the three checks in their order, then the operation (R63). -/
def operateFeeder (fr : Frame) (s : State) : Answer :=
  match objectOf 16 (fr.byte 0), boolOf (fr.byte 1) with
  | some f, some closing =>
    if fr.byte 2 ≠ 255 ∧ fr.byte 2 ≠ s.feeders[f].generation.toNat then reply .stale (feederReply f) s
    else
      match operate f closing .host s with
      | (_, .refused) => reply .wrongState (feederReply f) s
      | (t, _) => reply .ok (feederReply f) t
  | _, _ => refuse .badIndex s

/-- OPERATE_FEEDER (R63). -/
def execOperateFeeder (f : Frame) (s : State) : Host.Outcome State Fault Refusal :=
  .next (request 0x20 .operate f (f.len == 3) (operateFeeder f) s)

/-- The elements of a list, each at its first place. -/
def firstPlaces {α : Type} [DecidableEq α] : List α → List α
  | [] => []
  | x :: l => x :: (firstPlaces l).filter (· ≠ x)

/-- The feeders that the payload of SHED names; none when a number is above 15 (R87). -/
def shedFeeders (fr : Frame) : Option (List (Fin 16)) :=
  ((List.range (fr.byte 0)).mapM fun k => objectOf 16 (fr.byte (1 + k))).map firstPlaces

/-- The manual shed of CLOSED feeders: trips, entry and record (R87). -/
def manualShed (l : Link) (fs : List (Fin 16)) (s : State) : State × Nat :=
  let r := tripFeeders .manualShed fs s
  let t := push .manualShed l.code ((presentFreq s).getD 0) r.2 r.1
  (journal .manualShed l.code r.2.length t, r.2.length)

/-- The position and tag of the top entry. -/
def topPlace (s : State) : List Byte :=
  leBytes 1 (s.rst.entries.length - 1) ++ orOnes 1 ((topEntry s).map fun e => e.tag.toNat)

/-- SHED on its owner's side (R87). -/
def shed (fr : Frame) (s : State) : Answer :=
  match shedFeeders fr with
  | none => refuse .badIndex s
  | some fs =>
    let closed := fs.filter fun f => s.feeders[f].state = .closed
    if closed.isEmpty then refuse .wrongState s
    else
      let r := manualShed fr.link closed s
      reply .ok (fun _ => leBytes 1 r.2 ++ topPlace r.1) r.1

/-- The payload of SHED has 1..16 feeders and the length they take (R87). -/
def shedLength (f : Frame) : Bool := decide (1 ≤ f.byte 0 ∧ f.byte 0 ≤ 16) && f.len == 1 + f.byte 0

/-- SHED (R87). -/
def execShed (f : Frame) (s : State) : Host.Outcome State Fault Refusal :=
  .next (request 0x21 .operate f (shedLength f) (shed f) s)

/-! ### Stack entries -/

/-- What the entry checks find (section 6.5). -/
inductive EntryCheck where
  | badIndex
  | stale (tag : Byte)
  | empty
  | found (e : Entry)
  deriving DecidableEq, Repr

/-- The entry checks of section 6.5. -/
def entryCheck (pos : Nat) (tag : Nat) (s : State) : EntryCheck :=
  if 7 < pos then .badIndex
  else if s.rst.entries.isEmpty then .empty
  else
    match s.rst.entries[pos]? with
    | none => .badIndex
    | some e => if e.tag.toNat = tag then .found e else .stale e.tag

/-- The position and tag, as they stand after a request, of the entry `e` that stood at `pos`: entries beneath it may
have left, so it is looked for from the bottom up to `pos`, known by its tag and push time. The position is absent when
the entry itself has left the stack at the same event (section 6.5, R188; DEDUCED, log 30). -/
def entryPlace (pos : Nat) (e : Entry) (s : State) : List Byte :=
  orOnes 1 ((s.rst.entries.take (pos + 1)).findIdx? fun d => d.tag = e.tag && d.pushTime = e.pushTime) ++ [e.tag]

/-- A request on an entry that is not the header: the entry checks, then the kind's own rule (section 6.5). -/
def onEntry (fr : Frame) (s : State) (act : Nat → Entry → Answer) : Answer :=
  let pos := fr.byte 0
  match entryCheck pos (fr.byte 1) s with
  | .badIndex => refuse .badIndex s
  | .stale tag => reply .stale (fun _ => leBytes 1 pos ++ [tag]) s
  | .empty => refuse .stackEmpty s
  | .found e => if e.isHeader then refuse .wrongState s else act pos e

/-- RESTORE_ENTRY on its owner's side (R107). Its record stands before those of the examination made at the same
request (DEDUCED, log 11). -/
def restoreEntry (fr : Frame) (s : State) : Answer :=
  onEntry fr s fun pos e =>
    if s.rst.entries.any (·.requested) then refuse .wrongState s
    else if e.hold then refuse .held s
    else if s.fmon.bus ≠ .live then refuse .noBus s
    else
      reply .ok (entryPlace pos e)
        (restorerTurn (journal .restoreRequested e.tag.toNat fr.link.code
          (modEntry pos (fun e => { e with requested := true }) s)))

/-- RESTORE_ENTRY (R107). -/
def execRestoreEntry (f : Frame) (s : State) : Host.Outcome State Fault Refusal :=
  .next (request 0x22 .operate f (f.len == 2) (restoreEntry f) s)

/-- An entry is held. The restorer has its turn at a hold of the top entry and of the requested target; a hold of another
entry below the top has no effect until that entry becomes the top (R108, R109). -/
def heldAt (pos : Nat) (e : Entry) (l : Link) (s : State) : State :=
  let t := journal .entryHeld e.tag.toNat l.code
    (modEntry pos (fun e => { e with hold := true, requested := false }) s)
  if e.requested || decide (pos + 1 = s.rst.entries.length) then restorerTurn t else t

/-- HOLD_ENTRY on its owner's side (R108, R109). Its record stands before those of an examination made at the same
request (DEDUCED, log 11). -/
def holdEntry (fr : Frame) (s : State) : Answer :=
  onEntry fr s fun pos e => reply .ok (entryPlace pos e) (if e.hold then s else heldAt pos e fr.link s)

/-- HOLD_ENTRY (R109). -/
def execHoldEntry (f : Frame) (s : State) : Host.Outcome State Fault Refusal :=
  .next (request 0x23 .operate f (f.len == 2) (holdEntry f) s)

/-- RELEASE_ENTRY on its owner's side (R109). Its record stands before those of an examination made at the same
request (DEDUCED, log 11). -/
def releaseEntry (fr : Frame) (s : State) : Answer :=
  onEntry fr s fun pos e =>
    reply .ok (entryPlace pos e)
      (if e.hold then
        restorerTurn (journal .entryReleased e.tag.toNat fr.link.code
          (modEntry pos (fun e => { e with hold := false }) s))
       else s)

/-- RELEASE_ENTRY (R109). -/
def execReleaseEntry (f : Frame) (s : State) : Host.Outcome State Fault Refusal :=
  .next (request 0x24 .operate f (f.len == 2) (releaseEntry f) s)

/-- DISCARD_ENTRY on its owner's side (R110). -/
def discardEntry (fr : Frame) (s : State) : Answer :=
  onEntry fr s fun pos e =>
    reply .ok (fun _ => leBytes 1 pos ++ [e.tag])
      (restorerTurn (removeEntry pos (journal .entryRemoved e.tag.toNat 1 s)))

/-- DISCARD_ENTRY (R110). -/
def execDiscardEntry (f : Frame) (s : State) : Host.Outcome State Fault Refusal :=
  .next (request 0x25 .operate f (f.len == 2) (discardEntry f) s)

/-! ### Sets -/

/-- The state of a set, as replies carry it. -/
def setReply (g : Fin 4) (s : State) : List Byte := leBytes 1 (setState s g).code

/-- START_GENSET on its owner's side (R119). -/
def startGenset (fr : Frame) (s : State) : Answer :=
  match objectOf 4 (fr.byte 0) with
  | none => refuse .badIndex s
  | some g =>
    match startSet g .host s with
    | (t, true) => reply .ok (setReply g) t
    | (_, false) => reply .wrongState (setReply g) s

/-- START_GENSET (R119). -/
def execStartGenset (f : Frame) (s : State) : Host.Outcome State Fault Refusal :=
  .next (request 0x26 .operate f (f.len == 1) (startGenset f) s)

/-- STOP_GENSET on its owner's side (R127). -/
def stopGenset (fr : Frame) (s : State) : Answer :=
  match objectOf 4 (fr.byte 0) with
  | none => refuse .badIndex s
  | some g =>
    if (setState s g).stoppable then reply .ok (setReply g) (stopSet false g .host s)
    else reply .wrongState (setReply g) s

/-- STOP_GENSET (R127). -/
def execStopGenset (f : Frame) (s : State) : Host.Outcome State Fault Refusal :=
  .next (request 0x27 .operate f (f.len == 1) (stopGenset f) s)

/-- RESET_LOCKOUT on its owner's side (R130). -/
def resetLockoutRequest (fr : Frame) (s : State) : Answer :=
  match objectOf 4 (fr.byte 0) with
  | none => refuse .badIndex s
  | some g =>
    if setState s g = .lockedOut then reply .ok (setReply g) (resetLockout g s) else refuse .wrongState s

/-- RESET_LOCKOUT (R130). -/
def execResetLockout (f : Frame) (s : State) : Host.Outcome State Fault Refusal :=
  .next (request 0x28 .operate f (f.len == 1) (resetLockoutRequest f) s)

/-! ### Photovoltaic ceilings -/

/-- A channel's settings are written. -/
def writeChannel (j : Fin 6) (t : PvSettings) (s : State) : State :=
  { s with settings := { s.settings with channels := s.settings.channels.set j t } }

/-- A host ceiling is written, and the fallback latch cleared when supervision is PRESENT (R143). -/
def ceilingWritten (j : Fin 6) (kw : Nat) (s : State) : State :=
  let t := s.settings.channels[j]
  let u := writeChannel j { t with hostCeiling := min t.ratedKw kw } s
  ceilingsChanged s (if s.lnk.supervised then modChannel j (fun c => { c with latch := false }) u else u)

/-- The items of the reply to SET_PV_CEILING (R143). -/
def ceilingReply (j : Fin 6) (s : State) : List Byte :=
  leBytes 2 s.settings.channels[j].hostCeiling ++ leBytes 1 (bit s.cur.channels[j].latch)
    ++ unsigned 2 (effectiveCeiling s j) ++ unsigned 2 s.cur.channels[j].limit

/-- SET_PV_CEILING on its owner's side (R143). -/
def setPvCeiling (fr : Frame) (s : State) : Answer :=
  match objectOf 6 (fr.byte 0) with
  | none => refuse .badIndex s
  | some j =>
    reply (okStatus (decide (s.settings.channels[j].ratedKw < fr.field 1 2))) (ceilingReply j)
      (ceilingWritten j (fr.field 1 2) s)

/-- SET_PV_CEILING (R143). -/
def execSetPvCeiling (f : Frame) (s : State) : Host.Outcome State Fault Refusal :=
  .next (request 0x29 .operate f (f.len == 3) (setPvCeiling f) s)

/-! ### Mode -/

/-- A change of mode: its record and the mode notice (R184). -/
def modeChange (m : Mode) (l : Link) (s : State) : State :=
  emit [.shd, .rst, .gen, .cur, .blk] (fun c => .mode c m)
    (journal .modeChanged l.code m.code (modLnk (fun n => { n with mode := m }) s))

/-- SET_MODE on its owner's side (R184). -/
def setMode (fr : Frame) (s : State) : Answer :=
  match Mode.ofCode (fr.byte 0) with
  | none => refuse .badIndex s
  | some m => reply .ok (fun _ => leBytes 1 m.code) (if m = s.lnk.mode then s else modeChange m fr.link s)

/-- SET_MODE (R184). -/
def execSetMode (f : Frame) (s : State) : Host.Outcome State Fault Refusal :=
  .next (request 0x2A .operate f (f.len == 1) (setMode f) s)

/-! ### BLACKSTART -/

/-- A BLACKSTART request with the command code of its row; another code is refused (Table 10-5, log 22). -/
def blackstart (code : Nat) (fr : Frame) (act : State → Answer) (s : State) : State :=
  request 0x2B .operate fr (fr.len == 1) (fun s => if fr.byte 0 = code then act s else refuse .badIndex s) s

/-- BEGIN on its owner's side (R162). The reply carries BLK's state as the beginning of the run leaves it, RUNNING or
FAILED, and not what step 1 makes of it at the same event (DESIGN CHOICE, log 52). -/
def blkBegin (s : State) : Answer :=
  if (s.blk.state = .idle ∨ s.blk.state = .confirming ∨ s.blk.state = .waiting) ∧ s.fmon.bus = .dead then
    let t := beginRun .begin s
    reply .ok (fun _ => leBytes 1 t.blk.state.code) t
  else refuse .wrongState s

/-- BLACKSTART_BEGIN (R162). -/
def execBlackstartBegin (f : Frame) (s : State) : Host.Outcome State Fault Refusal :=
  .next (blackstart 0 f blkBegin s)

/-- HOLD on its owner's side (R171). -/
def blkHold (s : State) : Answer :=
  match s.blk.state with
  | .running => reply .ok (fun _ => []) (enterHeld 2 (modRun (fun r => { r with holdManual := true }) s))
  | .held => reply .ok (fun _ => []) (modRun (fun r => { r with holdManual := true }) s)
  | _ => refuse .wrongState s

/-- BLACKSTART_HOLD (R171). -/
def execBlackstartHold (f : Frame) (s : State) : Host.Outcome State Fault Refusal :=
  .next (blackstart 1 f blkHold s)

/-- RESUME on its owner's side (R171). -/
def blkResume (s : State) : Answer :=
  if s.blk.state = .held ∧ s.blk.run.holdManual then
    let t := modRun (fun r => { r with holdManual := false }) s
    reply .ok (fun _ => []) (if t.blk.run.holdStack then t else resumeRun t)
  else refuse .wrongState s

/-- BLACKSTART_RESUME (R171). -/
def execBlackstartResume (f : Frame) (s : State) : Host.Outcome State Fault Refusal :=
  .next (blackstart 2 f blkResume s)

/-- ABORT on its owner's side (R173). -/
def blkAbort (s : State) : Answer :=
  if blkActive s then reply .ok (fun _ => []) (attemptFail 5 s) else refuse .wrongState s

/-- BLACKSTART_ABORT (R173). -/
def execBlackstartAbort (f : Frame) (s : State) : Host.Outcome State Fault Refusal :=
  .next (blackstart 3 f blkAbort s)

/-- ACK on its owner's side (R173). -/
def blkAck (s : State) : Answer :=
  if s.blk.state = .failed then reply .ok (fun _ => []) (journal .blkAcknowledged 0 0 (blkToIdle s))
  else refuse .wrongState s

/-- BLACKSTART_ACK (R173). -/
def execBlackstartAck (f : Frame) (s : State) : Host.Outcome State Fault Refusal :=
  .next (blackstart 4 f blkAck s)

/-! ### Events, masks, link errors, reset -/

/-- The named flags are cleared (R191). -/
def eventsCleared (p a i : Nat) (s : State) : State :=
  let s := s.withEvr fun e =>
    { e with
      protection := e.protection &&& ~~~BitVec.ofNat 16 p
      advisory := e.advisory &&& ~~~BitVec.ofNat 16 a }
  { s with inputs := Vector.ofFn fun k =>
      if i.testBit k.val then { s.inputs[k] with flag := false } else s.inputs[k] }

/-- CLEAR_EVENTS on its owner's side (R189, R191). -/
def clearEvents (fr : Frame) (s : State) : Answer :=
  let p := fr.field 0 2
  let a := fr.field 2 2
  if BitVec.ofNat 16 p &&& ~~~protectionMask ≠ 0 ∨ BitVec.ofNat 16 a &&& ~~~advisoryMask ≠ 0 then
    refuse .badIndex s
  else
    let t := eventsCleared p a (fr.field 4 4) s
    reply .ok (fun _ => eventWords t) t

/-- CLEAR_EVENTS (R191). -/
def execClearEvents (f : Frame) (s : State) : Host.Outcome State Fault Refusal :=
  .next (request 0x2C .operate f (f.len == 8) (clearEvents f) s)

/-- SET_EVENT_MASK on its owner's side (R192). -/
def setEventMask (fr : Frame) (s : State) : Answer :=
  let m := fr.byte 0
  if 3 < m then refuse .badIndex s
  else
    reply .ok maskByte
      (s.withEvr fun e => { e with maskProtection := m.testBit 0, maskAdvisory := m.testBit 1 })

/-- SET_EVENT_MASK (R192). -/
def execSetEventMask (f : Frame) (s : State) : Host.Outcome State Fault Refusal :=
  .next (request 0x2D .operate f (f.len == 1) (setEventMask f) s)

/-- The four error flags of a link are cleared (R178). -/
def LinkCtl.clearErrors (c : LinkCtl) : LinkCtl :=
  { c with errCheck := false, errGap := false, errLength := false, errOverrun := false }

/-- CLEAR_LINK_ERRORS on its owner's side (R178). -/
def clearLinkErrors (fr : Frame) (s : State) : Answer :=
  let m := fr.byte 0
  if m = 0 ∨ 3 < m then refuse .badIndex s
  else
    let s := if m.testBit 0 then modLink .a LinkCtl.clearErrors s else s
    reply .ok (fun _ => []) (if m.testBit 1 then modLink .b LinkCtl.clearErrors s else s)

/-- CLEAR_LINK_ERRORS (R178). -/
def execClearLinkErrors (f : Frame) (s : State) : Host.Outcome State Fault Refusal :=
  .next (request 0x2E .operate f (f.len == 1) (clearLinkErrors f) s)

/-- RESET on its owner's side: it is answered, and the soft reset follows (R185). -/
def resetRequest (s : State) : Answer :=
  { state := modLnk (fun n => { n with reset := .answering }) s, status := .ok, isReset := true }

/-- RESET (R185). -/
def execReset (f : Frame) (s : State) : Host.Outcome State Fault Refusal :=
  .next (request 0x2F .operate f (f.len == 0) resetRequest s)

end Sys2Proof.Machine
end

