-- ==== Sys2Proof/Machine/Configuring.lean ====
section
/-! DEFINITION. The configuring requests (Table 10-1). -/

namespace Sys2Proof.Machine

/-! ### CONFIGURE_SYSTEM and CONFIGURE_STAGES -/

/-- An effect of a setting that has changed. -/
def whenChanged (changed : Bool) (act : State → State) (s : State) : State := if changed then act s else s

/-- A changed f_nom: the stage thresholds are re-clamped and FMON performs its break (R17, R69). -/
def nominalTaken (s : State) : State :=
  nominalChanged
    { s with settings := { s.settings with
        stages := { s.settings.stages with
          threshold := s.settings.stages.threshold.map (clampThreshold s.settings.sys.fNom) } } }

/-- The effects of system settings that have changed from `old` to those in force (R17, R37, R47, R136, R141,
R183). -/
def systemChanged (old : Settings) (s : State) : State :=
  let a := old.sys
  let b := s.settings.sys
  whenChanged (a.supervision != b.supervision) supervisionChanged
    (whenChanged (a.mlMargin != b.mlMargin) recomputeShares
      (whenChanged (a.srMin != b.srMin) evalDispatch
        (whenChanged (a.measTimeoutMs != b.measTimeoutMs) pointsGoStale
          (linesRestyled old (whenChanged (decide (a.fNom ≠ b.fNom)) nominalTaken s)))))

/-- The value that a setting has been changed to. -/
def changedTo {α : Type} [DecidableEq α] (a b : α) : Option α := if a = b then none else some b

/-- The line settings that a request has changed from `a` to `b`, to take effect after its reply (R176; a change is
one of the working settings: DEDUCED, log 42). -/
def lineChange (a b : SystemSettings) : Option LineChange :=
  if a.rateA = b.rateA ∧ a.rateB = b.rateB ∧ a.linkBEnabled = b.linkBEnabled then none
  else
    some
      { rateA := changedTo a.rateA b.rateA, rateB := changedTo a.rateB b.rateB
        linkB := changedTo a.linkBEnabled b.linkBEnabled }

/-- CONFIGURE_SYSTEM on its owner's side (R189). -/
def configureSystem (fr : Frame) (s : State) : Answer :=
  if s.lnk.mode = .auto then refuse .wrongMode s
  else
    match systemItems (systemItemsOf fr) s.settings.sys with
    | none => refuse .badIndex s
    | some (t, clamped) =>
      { state := systemChanged s.settings { s with settings := { s.settings with sys := t } }
        status := okStatus clamped
        lines := lineChange s.settings.sys t }

/-- The payload of CONFIGURE_SYSTEM has 1..30 items and the length they take (Table 10-5). -/
def systemLength (f : Frame) : Bool := decide (1 ≤ f.byte 0 ∧ f.byte 0 ≤ 30) && f.len == 1 + 5 * f.byte 0

/-- CONFIGURE_SYSTEM (R189). -/
def execConfigureSystem (f : Frame) (s : State) : Host.Outcome State Fault Refusal :=
  .next (request 0x40 .configure f (systemLength f) (configureSystem f) s)

/-- The shed settings become `t`: the count of a stage whose threshold changes is zeroed, and the
qualification count is held at Qr (R69). -/
def stagesWritten (t : ShedSettings) (s : State) : State :=
  let old := s.settings.stages
  let s := { s with settings := { s.settings with stages := t } }
  modShd (fun h =>
    { h with
      counts := Vector.ofFn fun i => if t.threshold[i] = old.threshold[i] then h.counts[i] else 0
      qual := min h.qual t.qr }) s

/-- CONFIGURE_STAGES on its owner's side (R69). -/
def configureStages (fr : Frame) (s : State) : Answer :=
  if s.lnk.mode = .auto then refuse .wrongMode s
  else
    let raw := ShedSettings.ofBytes fr.payload
    let t := raw.clamped s.settings.sys.fNom
    reply (okStatus (decide (t ≠ raw))) (fun _ => []) (stagesWritten t s)

/-- CONFIGURE_STAGES (R69). -/
def execConfigureStages (f : Frame) (s : State) : Host.Outcome State Fault Refusal :=
  .next (request 0x41 .configure f (f.len == 27) (configureStages f) s)

/-! ### CONFIGURE_FEEDER -/

/-- The settings of a feeder become `t` and its generation increases; the lines follow a changed style, and the
state a changed in_service (R37, R52, R53, R60). -/
def feederWritten (f : Fin 16) (t : FeederSettings) (s : State) : State :=
  let old := s.settings
  let s := { s with settings := { s.settings with feeders := s.settings.feeders.set f t } }
  let s := modFeeder f (fun c => { c with generation := c.generation + 1 }) s
  let s := if effectiveStyle old f = effectiveStyle s.settings f then s else lineRestyle f s
  if old.feeders[f].inService = t.inService then s else feederServiceChange f s

/-- CONFIGURE_FEEDER on its owner's side (R52). -/
def configureFeeder (fr : Frame) (s : State) : Answer :=
  match objectOf 16 (fr.byte 0) with
  | none => refuse .badIndex s
  | some f =>
    let raw := FeederSettings.ofBytes (fr.payload.drop 1)
    reply (okStatus (decide (raw.clamped ≠ raw))) (feederReply f) (feederWritten f raw.clamped s)

/-- CONFIGURE_FEEDER (R52). -/
def execConfigureFeeder (f : Frame) (s : State) : Host.Outcome State Fault Refusal :=
  .next (request 0x42 .configure f (f.len == 10) (configureFeeder f) s)

/-! ### CONFIGURE_GENSET -/

/-- The settings of a set become `t`, with the effects of those that change (R48, R115, R118, R136, R149). -/
def setWritten (g : Fin 4) (t : SetSettings) (s : State) : State :=
  let old := s.settings.sets[g]
  let s := { s with settings := { s.settings with sets := s.settings.sets.set g t } }
  let s := if t.runtime = old.runtime then s else modSet g (fun c => { c with partHour := 0 }) s
  let s := reclampSet g s
  let s := whenChanged (old.inService != t.inService) (setServiceChange g) s
  let s := whenChanged (old.inService != t.inService || old.ratedKw != t.ratedKw) evalDispatch s
  whenChanged (old.inService != t.inService || old.ratedKw != t.ratedKw || old.minLoadKw != t.minLoadKw)
    recomputeShares s

/-- In AUTO a request may change neither rank_override nor energy_kws of a set it names (check 5, R115). A
rank_override above 4 counts as the 4 it is clamped to, so that it changes nothing in a set that holds 4: check 5 asks
whether a value would change, and R115 does not say whether before or after clamping (DESIGN CHOICE, log 36). -/
def gensetWrongMode (fr : Frame) (s : State) : Bool :=
  match objectOf 4 (fr.byte 0) with
  | none => false
  | some g =>
    decide (s.lnk.mode = .auto)
      && (decide (min 4 (fr.byte 32) ≠ s.settings.sets[g].rankOverride)
        || decide (fr.field 8 2 ≠ s.settings.sets[g].energyKws))

/-- CONFIGURE_GENSET on its owner's side (R115). A refusal carries the status alone: R115 gives the reply the set's
state without saying that a refusal carries it (R179; DEDUCED, log 37). -/
def configureGenset (fr : Frame) (s : State) : Answer :=
  if gensetWrongMode fr s then refuse .wrongMode s
  else
    match objectOf 4 (fr.byte 0), SetSettings.ofBytes (fr.payload.drop 1) with
    | some g, some raw =>
      if s.settings.sets[g].inService ∧ ¬ raw.inService ∧ (setState s g).stoppable then refuse .wrongState s
      else reply (okStatus (decide (raw.clamped ≠ raw))) (setReply g) (setWritten g raw.clamped s)
    | _, _ => refuse .badIndex s

/-- CONFIGURE_GENSET (R115). -/
def execConfigureGenset (f : Frame) (s : State) : Host.Outcome State Fault Refusal :=
  .next (request 0x43 .configure f (f.len == 37) (configureGenset f) s)

/-! ### CONFIGURE_PV -/

/-- CONFIGURE_PV on its owner's side (R48, R140, R155). -/
def configurePv (fr : Frame) (s : State) : Answer :=
  match objectOf 6 (fr.byte 0) with
  | none => refuse .badIndex s
  | some j =>
    let raw := PvSettings.ofBytes (fr.payload.drop 1)
    reply (okStatus (decide (raw.clamped ≠ raw)))
      (fun t => unsigned 2 (effectiveCeiling t j) ++ unsigned 2 t.cur.channels[j].limit)
      (pvConfigured j s (reclampChannel j (writeChannel j raw.clamped s)))

/-- CONFIGURE_PV (R140). -/
def execConfigurePv (f : Frame) (s : State) : Host.Outcome State Fault Refusal :=
  .next (request 0x44 .configure f (f.len == 11) (configurePv f) s)

/-! ### CONFIGURE_INPUT -/

/-- The settings of an input become `t` (R23, R25, R28). -/
def inputWritten (i : Fin 32) (t : InputSettings) (s : State) : State :=
  let old := s.settings.inputs[i]
  modInput i (configuredInput old t)
    { s with settings := { s.settings with inputs := s.settings.inputs.set i t } }

/-- CONFIGURE_INPUT on its owner's side. -/
def configureInput (fr : Frame) (s : State) : Answer :=
  match objectOf 32 (fr.byte 0), InputSettings.ofBytes (fr.payload.drop 1) with
  | some i, some t => reply .ok (fun _ => []) (inputWritten i t s)
  | _, _ => refuse .badIndex s

/-- CONFIGURE_INPUT (R23, R25, R28). -/
def execConfigureInput (f : Frame) (s : State) : Host.Outcome State Fault Refusal :=
  .next (request 0x45 .configure f (f.len == 5) (configureInput f) s)

/-! ### CONFIGURE_PLAN and CONFIGURE_DIRECTORY -/

/-- The steps of a plan are replaced and its instance increases (R160). -/
def planWritten (p : Fin 4) (steps : List PlanStep) (s : State) : State :=
  { s with settings := { s.settings with
      plans := s.settings.plans.set p { steps := steps, inst := s.settings.plans[p].inst + 1 } } }

/-- CONFIGURE_PLAN on its owner's side (R160). -/
def configurePlan (fr : Frame) (s : State) : Answer :=
  match objectOf 4 (fr.byte 0), stepsOf (fr.byte 1) (fr.payload.drop 2) with
  | some p, some raw =>
    if blkActive s ∧ s.blk.run.plan = some p then refuse .inUse s
    else
      let steps := raw.map PlanStep.clamped
      reply (okStatus (decide (steps ≠ raw))) (fun t => [t.settings.plans[p].inst]) (planWritten p steps s)
  | _, _ => refuse .badIndex s

/-- The payload of CONFIGURE_PLAN has 0..12 steps and the length they take (R160). -/
def planLength (f : Frame) : Bool := decide (2 ≤ f.len ∧ f.byte 1 ≤ 12) && f.len == 2 + 11 * f.byte 1

/-- CONFIGURE_PLAN (R160). -/
def execConfigurePlan (f : Frame) (s : State) : Host.Outcome State Fault Refusal :=
  .next (request 0x46 .configure f (planLength f) (configurePlan f) s)

/-- CONFIGURE_DIRECTORY on its owner's side (R160). -/
def configureDirectory (fr : Frame) (s : State) : Answer :=
  match directoryOf fr.payload with
  | some d => reply .ok (fun _ => []) { s with settings := { s.settings with directory := d } }
  | none => refuse .badIndex s

/-- CONFIGURE_DIRECTORY (R160). -/
def execConfigureDirectory (f : Frame) (s : State) : Host.Outcome State Fault Refusal :=
  .next (request 0x47 .configure f (f.len == 4) (configureDirectory f) s)

/-! ### STORE_SETTINGS -/

/-- STORE_SETTINGS on its owner's side: the write of a copy of the working settings begins, and the reply is
formed at its end (R199). -/
def storeSettings (fr : Frame) (s : State) : Answer :=
  { state := modLink fr.link (fun c => { c with current := .forming })
      { s with sto := { s.sto with
          write := some ⟨imageOf s.settings, fr.link, fr.tag, .running Config.storeMaxMs⟩ } }
    status := .ok
    deferred := true }

/-- STORE_SETTINGS (R199). -/
def execStoreSettings (f : Frame) (s : State) : Host.Outcome State Fault Refusal :=
  .next (request 0x48 .configure f (f.len == 0) (storeSettings f) s)

end Sys2Proof.Machine
end

