-- ==== Sys2Proof/Machine/Clock.lean ====
section
/-! DEFINITION. The part's own time: what one tick of the 10 MHz reference does, and which events have come due
(sections 2.4 and 2.5; logs 1 and 3). -/

namespace Sys2Proof.Machine

/-! ### One tick -/

/-- A PWM generator after one tick of the reference. -/
def Pwm.tick (p : Pwm) : Pwm := { p with pos := p.pos + 1 }

/-- A feeder's timers after one millisecond. -/
def FeederCtl.tick (c : FeederCtl) : FeederCtl := { c with timer := c.timer.tick, pulse := c.pulse.tick }

/-- A set's timer and part-hour count after one millisecond (R132). -/
def SetCtl.tick (running : Bool) (c : SetCtl) : SetCtl :=
  { c with timer := c.timer.tick, partHour := if running then c.partHour + 1 else c.partHour }

/-- A link's gap timer after one millisecond. -/
def LinkCtl.tick (c : LinkCtl) : LinkCtl := { c with gap := c.gap.tick }

/-- The blocks' timers, ages, samples and counts after one millisecond of part time. -/
def blocksTick (s : State) : State :=
  let s := sampleInputs (tableTick s)
  { s with
    feeders := s.feeders.map FeederCtl.tick
    shd := { s.shd with holdoff := s.shd.holdoff.tick }
    rst :=
      { s.rst with
        delay := s.rst.delay.tick, interval := s.rst.interval.tick, startDelay := s.rst.startDelay.tick }
    gen :=
      { s.gen with
        sets := Vector.ofFn fun g => s.gen.sets[g].tick (setRunning s g)
        lowReserve := s.gen.lowReserve.tick, stopTimer := s.gen.stopTimer.tick }
    cur := { s.cur with rampDue := s.cur.rampDue || s.time.tenth == 0 }
    blk :=
      { s.blk with
        confirm := s.blk.confirm.tick
        run :=
          { s.blk.run with
            stepTimer := s.blk.run.stepTimer.tick, waitTimer := s.blk.run.waitTimer.tick } }
    lnk :=
      { s.lnk with
        linkA := s.lnk.linkA.tick, linkB := s.lnk.linkB.tick, supTimer := s.lnk.supTimer.tick }
    sto := { s.sto with write := s.sto.write.map fun w => { w with left := w.left.tick } } }

/-- One millisecond of part time has passed, and every hundredth is a tick of 100 ms (R151). While the settings load
runs, only its limit counts (R198). -/
def millisecond (s : State) : State :=
  let s :=
    { s with time :=
        { s.time with
          part := s.time.part + 1, sub := 0, tenth := (s.time.tenth + 1) % 100, load := s.time.load.tick } }
  match s.phase with
  | .loading => s
  | .running => blocksTick s

/-- One tick of the 10 MHz reference (R1, R154). -/
def referenceTick (s : State) : State :=
  let s := { s with time := { s.time with capture := s.time.capture + 1, sub := s.time.sub + 1 } }
  let s :=
    match s.phase with
    | .loading => s
    | .running =>
      { s with cur := { s.cur with channels := s.cur.channels.map fun c => { c with pwm := c.pwm.tick } } }
  if Config.ticksPerMs ≤ s.time.sub then millisecond s else s

/-! ### What has come due -/

/-- A command, when its condition stands. -/
def dueWhen (cond : Bool) (c : Instr) : List Instr := if cond then [c] else []

/-- The commands due for a feeder. -/
def dueOfFeeder (s : State) (f : Fin 16) : List Instr :=
  dueWhen s.feeders[f].pulse.isDue (.pulseEnd f) ++ dueWhen s.feeders[f].timer.isDue (.operateTimerExpiry f)

/-- The expiry that a set's state timer means in its state (Table 7-3). -/
def stateExpiry (g : Fin 4) : SetState → Option Instr
  | .cranking => some (.crankOnTimeExpiry g)
  | .crankRest => some (.crankRestExpiry g)
  | .runUp => some (.runUpExpiry g)
  | .syncing => some (.syncTimeout g)
  | .unloading => some (.unloadTimeout g)
  | .cooldown => some (.cooldownExpiry g)
  | _ => none

/-- The commands due for a set. -/
def dueOfSet (s : State) (g : Fin 4) : List Instr :=
  (if s.gen.sets[g].timer.isDue then (stateExpiry g (setState s g)).toList else [])
    ++ dueWhen (decide (360000 ≤ s.gen.sets[g].partHour)) (.runtimeTenthHour g)

/-- The commands due for a channel's PWM generator (R154). -/
def dueOfChannel (s : State) (j : Fin 6) : List Instr :=
  let p := s.cur.channels[j].pwm
  dueWhen (decide (p.periodTicks ≤ p.pos)) (.pwmPeriodStart j)
    ++ dueWhen (p.active && decide (p.present < 1000) && decide (p.activeTicks ≤ p.pos)) (.pwmActiveLevelEnd j)

/-- The credit item has reached its expiry time (R83). -/
def CreditItem.isDue (part : Stamp) (c : CreditItem) : Bool := decide ((part - c.expiry).toNat < 2 ^ 31)

/-- The debounced changes that the last sample made (R21). -/
def sampleChanges (s : State) : List Instr :=
  (List.finRange 32).flatMap fun i => dueWhen s.inputs[i].changeDue (.debouncedChange i s.inputs[i].prev)

/-- The commands due for a link. -/
def dueOfLink (s : State) (l : Link) : List Instr := dueWhen (s.link l).gap.isDue (.gapError l)

/-- The commands that have come due in the blocks, beside the changes of a sample. -/
def dueInBlocks (s : State) : List Instr :=
  dueWhen (deadBusDue s) .deadBusTimerExpiry
    ++ (List.finRange 16).flatMap (dueOfFeeder s)
    ++ dueWhen s.shd.holdoff.isDue .holdoffTimerExpiry
    ++ ((s.shd.credit.filter (CreditItem.isDue s.time.part)).map fun c => .creditItemExpiry c.feeder)
    ++ dueWhen s.rst.delay.isDue .restoreDelayExpiry
    ++ dueWhen s.rst.interval.isDue .intervalTimerExpiry
    ++ dueWhen s.rst.startDelay.isDue .startDelayTimerExpiry
    ++ (List.finRange 4).flatMap (dueOfSet s)
    ++ dueWhen s.gen.lowReserve.isDue .lowReserveTimerExpiry
    ++ dueWhen s.gen.stopTimer.isDue .stopTimerExpiry
    ++ dueWhen s.cur.rampDue .rampTick
    ++ (List.finRange 6).flatMap (dueOfChannel s)
    ++ dueWhen s.blk.confirm.isDue .confirmationTimerExpiry
    ++ dueWhen s.blk.run.stepTimer.isDue .stepTimerExpiry
    ++ dueWhen s.blk.run.waitTimer.isDue .waitTimerExpiry
    ++ dueOfLink s .a ++ dueOfLink s .b
    ++ dueWhen s.lnk.supTimer.isDue .supervisionTimerExpiry
    ++ dueWhen (s.sto.write.any fun w => w.left.isDue) (.storeWriteEnd [])
    ++ dueWhen (softResetReady s) .softReset

/-- What may happen next without the environment: a command that has come due, the debounced changes of one sample,
or a byte that stands on a link's line. -/
inductive Happening where
  | command (c : Instr)
  | sample
  | byte (l : Link)
  deriving DecidableEq, Repr

/-- The bytes that stand on the lines. -/
def waitingBytes (s : State) : List Happening :=
  (if s.lnk.linkA.lineIn.isEmpty then [] else [.byte .a]) ++ (if s.lnk.linkB.lineIn.isEmpty then [] else [.byte .b])

/-- Everything that may happen before time goes on. A configuration memory that has not ended the load within
its limit reads as all ones (R198). -/
def happenings (s : State) : List Happening :=
  (match s.phase with
   | .loading => (dueWhen s.time.load.isDue (.settingsLoadEnd [])).map .command
   | .running =>
      (if (sampleChanges s).isEmpty then [] else [.sample]) ++ (dueInBlocks s).map .command) ++ waitingBytes s

/-- A byte on a line is received; while the settings load runs it is ignored (R186). -/
def takeByte (l : Link) (s : State) : State :=
  match s.phase with
  | .loading => modLink l (fun c => { c with lineIn := c.lineIn.tail }) s
  | .running => receiveNext l s

/-- The part with no command waiting: one of the happenings, in a free order, or else one tick of the reference
(logs 1, 2 and 3). The changes of one sample enter the queue together, in a free order, so that nothing that the part
itself brings comes between them (R29, R30). -/
def idle (s : State) : State :=
  let l := happenings s
  match l[nextOrder s % l.length]? with
  | none => referenceTick s
  | some (.command c) => drawn { s with pending := [c] }
  | some .sample => drawn (drawn { s with pending := permute (nextOrder (drawn s)) (sampleChanges s) })
  | some (.byte l) => drawn (takeByte l s)

end Sys2Proof.Machine
end

