-- ==== Sys2Proof/Machine/Queries.lean ====
section
/-! DEFINITION. The query requests, those with side effects, and MEASURE (Table 10-1). -/

namespace Sys2Proof.Machine

/-- A query without payload and without effect. -/
def plainQuery (kind : Byte) (f : Frame) (body : State → List Byte) (s : State) : State :=
  request kind .either f (f.len == 0) (fun s => queryReply (body s) s) s

/-- IDENTIFY (R187). -/
def execIdentify (f : Frame) (s : State) : Host.Outcome State Fault Refusal :=
  .next (plainQuery 0x01 f (identifyBody f.link) s)

/-- GET_STATUS (R187). -/
def execGetStatus (f : Frame) (s : State) : Host.Outcome State Fault Refusal :=
  .next (plainQuery 0x02 f statusBody s)

/-- READ_FREQUENCY (R18). -/
def execReadFrequency (f : Frame) (s : State) : Host.Outcome State Fault Refusal :=
  .next (plainQuery 0x03 f frequencyBody s)

/-- READ_FEEDERS on its owner's side: a first feeder above 15 is refused (R64). -/
def readFeeders (f : Frame) (s : State) : Answer :=
  match objectOf 16 (f.byte 0) with
  | some first => queryReply (feedersBody first (f.byte 1) s) s
  | none => refuse .badIndex s

/-- READ_FEEDERS: a count outside 1..16 is a bad length (R64). -/
def execReadFeeders (f : Frame) (s : State) : Host.Outcome State Fault Refusal :=
  .next (request 0x04 .either f (f.len == 2 && decide (1 ≤ f.byte 1 ∧ f.byte 1 ≤ 16)) (readFeeders f) s)

/-- READ_GENSETS on its owner's side (R138). -/
def readGensets (f : Frame) (s : State) : Answer :=
  match objectOf 4 (f.byte 0) with
  | some g => queryReply (gensetsBody g s) s
  | none => refuse .badIndex s

/-- READ_GENSETS (R138). -/
def execReadGensets (f : Frame) (s : State) : Host.Outcome State Fault Refusal :=
  .next (request 0x05 .either f (f.len == 1) (readGensets f) s)

/-- READ_PV (R156). -/
def execReadPv (f : Frame) (s : State) : Host.Outcome State Fault Refusal := .next (plainQuery 0x06 f pvBody s)

/-- READ_STACK (R113). -/
def execReadStack (f : Frame) (s : State) : Host.Outcome State Fault Refusal :=
  .next (plainQuery 0x07 f stackBody s)

/-- READ_JOURNAL on its owner's side: the records returned are removed (R196). -/
def readJournal (f : Frame) (s : State) : Answer :=
  queryReply (journalBody (f.byte 0) s) (s.withEvr fun e => { e with journal := e.journal.drop (f.byte 0) })

/-- READ_JOURNAL: n outside 1..16 is a bad length (R196). -/
def execReadJournal (f : Frame) (s : State) : Host.Outcome State Fault Refusal :=
  .next (request 0x08 .either f (f.len == 1 && decide (1 ≤ f.byte 0 ∧ f.byte 0 ≤ 16)) (readJournal f) s)

/-- READ_EVENTS (R191). -/
def execReadEvents (f : Frame) (s : State) : Host.Outcome State Fault Refusal :=
  .next (plainQuery 0x09 f eventsBody s)

/-- READ_CONFIG on its owner's side (R187). -/
def readConfig (f : Frame) (s : State) : Answer :=
  match configBody (f.byte 0) s with
  | some body => queryReply body s
  | none => refuse .badIndex s

/-- READ_CONFIG (R187). -/
def execReadConfig (f : Frame) (s : State) : Host.Outcome State Fault Refusal :=
  .next (request 0x0A .either f (f.len == 1) (readConfig f) s)

/-- PEEK_INPUTS (R30). -/
def execPeekInputs (f : Frame) (s : State) : Host.Outcome State Fault Refusal :=
  .next (plainQuery 0x0B f peekInputsBody s)

/-- Every input after READ_INPUTS (R29). -/
def inputsRead (s : State) : State :=
  { s with inputs := Vector.ofFn fun i => readInput s.settings.inputs[i] s.inputs[i] }

/-- READ_INPUTS (R29). -/
def execReadInputs (f : Frame) (s : State) : Host.Outcome State Fault Refusal :=
  .next (request 0x0C .either f (f.len == 0) (fun s => queryReply (readInputsBody s) (inputsRead s)) s)

/-- Both marks of every feeder are cleared (R66). -/
def marksCleared (s : State) : State :=
  { s with feeders := s.feeders.map fun c => { c with operated := false, shed := false } }

/-- COLLECT_MARKS (R66). -/
def execCollectMarks (f : Frame) (s : State) : Host.Outcome State Fault Refusal :=
  .next (request 0x0D .either f (f.len == 0) (fun s => queryReply (marksBody s) (marksCleared s)) s)

/-- The payload of MEASURE has 1..26 items and the length they take (R41). -/
def measureLength (f : Frame) : Bool :=
  decide (1 ≤ f.byte 0 ∧ f.byte 0 ≤ 26) && f.len == 1 + 3 * f.byte 0

/-- MEASURE on its owner's side (R41 to R44). -/
def measure (f : Frame) (s : State) : Answer :=
  match measureItems f with
  | none => refuse .badIndex s
  | some items =>
    let t := applyMeasure items s
    reply (okStatus (measureClamps s items)) (fun _ => leBytes 1 items.length ++ leBytes 1 (staleCount t)) t

/-- MEASURE (R41 to R44). -/
def execMeasure (f : Frame) (s : State) : Host.Outcome State Fault Refusal :=
  .next (request 0x0E .either f (measureLength f) (measure f) s)

end Sys2Proof.Machine
end

