-- ==== Sys2Proof/Machine/Dispatch.lean ====
section
/-! DEFINITION. The meaning of every command. -/

namespace Sys2Proof.Machine

/-- The effect of a command on everything but the queue. -/
def exec (i : Instr) (s : State) : Host.Outcome State Fault Refusal :=
  match i with
  | .powerOnReset => Sys2Proof.Machine.execPowerOnReset s
  | .settingsLoadEnd image => Sys2Proof.Machine.execSettingsLoadEnd image s
  | .softReset => Sys2Proof.Machine.execSoftReset s
  | .crossing => Sys2Proof.Machine.execCrossing s
  | .deadBusTimerExpiry => Sys2Proof.Machine.execDeadBusTimerExpiry s
  | .debouncedChange n level => Sys2Proof.Machine.execDebouncedChange n level s
  | .pulseEnd f => Sys2Proof.Machine.execPulseEnd f s
  | .operateTimerExpiry f => Sys2Proof.Machine.execOperateTimerExpiry f s
  | .pointsBecomeStale => Sys2Proof.Machine.execPointsBecomeStale s
  | .holdoffTimerExpiry => Sys2Proof.Machine.execHoldoffTimerExpiry s
  | .creditItemExpiry f => Sys2Proof.Machine.execCreditItemExpiry f s
  | .restoreDelayExpiry => Sys2Proof.Machine.execRestoreDelayExpiry s
  | .intervalTimerExpiry => Sys2Proof.Machine.execIntervalTimerExpiry s
  | .startDelayTimerExpiry => Sys2Proof.Machine.execStartDelayTimerExpiry s
  | .crankOnTimeExpiry g => Sys2Proof.Machine.execCrankOnTimeExpiry g s
  | .crankRestExpiry g => Sys2Proof.Machine.execCrankRestExpiry g s
  | .runUpExpiry g => Sys2Proof.Machine.execRunUpExpiry g s
  | .syncTimeout g => Sys2Proof.Machine.execSyncTimeout g s
  | .unloadTimeout g => Sys2Proof.Machine.execUnloadTimeout g s
  | .cooldownExpiry g => Sys2Proof.Machine.execCooldownExpiry g s
  | .runtimeTenthHour g => Sys2Proof.Machine.execRuntimeTenthHour g s
  | .lowReserveTimerExpiry => Sys2Proof.Machine.execLowReserveTimerExpiry s
  | .stopTimerExpiry => Sys2Proof.Machine.execStopTimerExpiry s
  | .rampTick => Sys2Proof.Machine.execRampTick s
  | .pwmPeriodStart j => Sys2Proof.Machine.execPwmPeriodStart j s
  | .confirmationTimerExpiry => Sys2Proof.Machine.execConfirmationTimerExpiry s
  | .stepTimerExpiry => Sys2Proof.Machine.execStepTimerExpiry s
  | .waitTimerExpiry => Sys2Proof.Machine.execWaitTimerExpiry s
  | .lengthError link => Sys2Proof.Machine.execLengthError link s
  | .checkError link => Sys2Proof.Machine.execCheckError link s
  | .gapError link => Sys2Proof.Machine.execGapError link s
  | .unknownKind kind fr => Sys2Proof.Machine.execUnknownKind kind fr s
  | .replyTransmitted link => Sys2Proof.Machine.execReplyTransmitted link s
  | .supervisionTimerExpiry => Sys2Proof.Machine.execSupervisionTimerExpiry s
  | .storeWriteEnd readBack => Sys2Proof.Machine.execStoreWriteEnd readBack s
  | .identify fr => Sys2Proof.Machine.execIdentify fr s
  | .getStatus fr => Sys2Proof.Machine.execGetStatus fr s
  | .readFrequency fr => Sys2Proof.Machine.execReadFrequency fr s
  | .readFeeders fr => Sys2Proof.Machine.execReadFeeders fr s
  | .readGensets fr => Sys2Proof.Machine.execReadGensets fr s
  | .readPv fr => Sys2Proof.Machine.execReadPv fr s
  | .readStack fr => Sys2Proof.Machine.execReadStack fr s
  | .readJournal fr => Sys2Proof.Machine.execReadJournal fr s
  | .readEvents fr => Sys2Proof.Machine.execReadEvents fr s
  | .readConfig fr => Sys2Proof.Machine.execReadConfig fr s
  | .peekInputs fr => Sys2Proof.Machine.execPeekInputs fr s
  | .readInputs fr => Sys2Proof.Machine.execReadInputs fr s
  | .collectMarks fr => Sys2Proof.Machine.execCollectMarks fr s
  | .measure fr => Sys2Proof.Machine.execMeasure fr s
  | .operateFeeder fr => Sys2Proof.Machine.execOperateFeeder fr s
  | .shed fr => Sys2Proof.Machine.execShed fr s
  | .restoreEntry fr => Sys2Proof.Machine.execRestoreEntry fr s
  | .holdEntry fr => Sys2Proof.Machine.execHoldEntry fr s
  | .releaseEntry fr => Sys2Proof.Machine.execReleaseEntry fr s
  | .discardEntry fr => Sys2Proof.Machine.execDiscardEntry fr s
  | .startGenset fr => Sys2Proof.Machine.execStartGenset fr s
  | .stopGenset fr => Sys2Proof.Machine.execStopGenset fr s
  | .resetLockout fr => Sys2Proof.Machine.execResetLockout fr s
  | .setPvCeiling fr => Sys2Proof.Machine.execSetPvCeiling fr s
  | .setMode fr => Sys2Proof.Machine.execSetMode fr s
  | .blackstartBegin fr => Sys2Proof.Machine.execBlackstartBegin fr s
  | .blackstartHold fr => Sys2Proof.Machine.execBlackstartHold fr s
  | .blackstartResume fr => Sys2Proof.Machine.execBlackstartResume fr s
  | .blackstartAbort fr => Sys2Proof.Machine.execBlackstartAbort fr s
  | .blackstartAck fr => Sys2Proof.Machine.execBlackstartAck fr s
  | .clearEvents fr => Sys2Proof.Machine.execClearEvents fr s
  | .setEventMask fr => Sys2Proof.Machine.execSetEventMask fr s
  | .clearLinkErrors fr => Sys2Proof.Machine.execClearLinkErrors fr s
  | .reset fr => Sys2Proof.Machine.execReset fr s
  | .configureSystem fr => Sys2Proof.Machine.execConfigureSystem fr s
  | .configureStages fr => Sys2Proof.Machine.execConfigureStages fr s
  | .configureFeeder fr => Sys2Proof.Machine.execConfigureFeeder fr s
  | .configureGenset fr => Sys2Proof.Machine.execConfigureGenset fr s
  | .configurePv fr => Sys2Proof.Machine.execConfigurePv fr s
  | .configureInput fr => Sys2Proof.Machine.execConfigureInput fr s
  | .configurePlan fr => Sys2Proof.Machine.execConfigurePlan fr s
  | .configureDirectory fr => Sys2Proof.Machine.execConfigureDirectory fr s
  | .storeSettings fr => Sys2Proof.Machine.execStoreSettings fr s
  | .pwmActiveLevelEnd j => Sys2Proof.Machine.execPwmActiveLevelEnd j s

end Sys2Proof.Machine
end

