-- ==== Sys2Proof/Safety.lean ====
section
/-! DEFINITION. What a safe state is (the laws that the manual states of the whole part), and the terms that the
claims use: frames, notices announced, requests taken and answered. -/

namespace Sys2Proof.Machine

/-! ### Frames -/

/-- The parts of `State`, one for each field. -/
inductive Part where
  | phase | time | settings | fmon | inputs | meas | feeders | shd | rst | gen | cur | blk | lnk | evr | sto
  | notices | draws | pending
  deriving DecidableEq, Repr

/-- One part stands in `t` as it stands in `s`. -/
def SamePart (p : Part) (s t : State) : Prop :=
  match p with
  | .phase => t.phase = s.phase
  | .time => t.time = s.time
  | .settings => t.settings = s.settings
  | .fmon => t.fmon = s.fmon
  | .inputs => t.inputs = s.inputs
  | .meas => t.meas = s.meas
  | .feeders => t.feeders = s.feeders
  | .shd => t.shd = s.shd
  | .rst => t.rst = s.rst
  | .gen => t.gen = s.gen
  | .cur => t.cur = s.cur
  | .blk => t.blk = s.blk
  | .lnk => t.lnk = s.lnk
  | .evr => t.evr = s.evr
  | .sto => t.sto = s.sto
  | .notices => t.notices = s.notices
  | .draws => t.draws = s.draws
  | .pending => t.pending = s.pending

/-- Every part but those listed stands in `t` as it stands in `s`. -/
def SameBut (ps : List Part) (s t : State) : Prop := ∀ p : Part, p ∉ ps → SamePart p s t

/-- Between `s` and `t` one notice has been announced to each of the consumers `dests`, in some order, after the
notices that `s` holds. -/
def Announced (dests : List Consumer) (mk : Consumer → Notice) (s t : State) : Prop :=
  ∃ l : List Consumer, l.Perm dests ∧ t.notices = s.notices ++ l.map mk

/-- Between `s` and `t` BLK and GEN have been told of a push, merge or removal of an entry: BLK's stack notice comes
before every other notice (R170, R171), and GEN's has taken some place among those that `s` holds, which keep their
order (R137). -/
def StackAnnounced (s t : State) : Prop :=
  ∃ l, t.notices = .stack .blk :: l ∧ l.Perm (.stack .gen :: s.notices) ∧ s.notices.Sublist l

/-! ### Requests -/

/-- What Table 10-1 and R179 to R185 ask of a request of a group before its owning block performs it: the blocks
run, the link is enabled and its list has room, no soft reset waits, and the checks 2 to 4 of R182 pass. -/
structure Accepts (g : Group) (f : Frame) (lengthOk : Bool) (s : State) : Prop where
  running : s.phase = .running
  enabled : (s.link f.link).enabled = true
  notDraining : s.lnk.reset ≠ .draining
  room : (s.link f.link).waiting.length < Config.replyListMax
  length : lengthOk = true
  free : (s.link f.link).current = .none
  noWrite : g = .configure → s.sto.write = none
  permitted : g ≠ .either → f.link = operateLink s

/-- The state `t` once the reply to a request has joined the reply list of its link (R179). -/
def withReply (kind : Byte) (f : Frame) (st : Status) (body : List Byte) (t : State) : State :=
  modLink f.link (LinkCtl.enqueue { kind := kind + 0x80, tag := f.tag, payload := st.code :: body }) t

/-- A request command as Table 10-1 has it: its kind code, its group, its frame, and whether its payload has a length
that its layout allows (Table 10-5). -/
def requestOf : Instr → Option (Byte × Group × Frame × Bool)
  | .identify f => some (0x01, .either, f, f.len == 0)
  | .getStatus f => some (0x02, .either, f, f.len == 0)
  | .readFrequency f => some (0x03, .either, f, f.len == 0)
  | .readFeeders f => some (0x04, .either, f, f.len == 2 && decide (1 ≤ f.byte 1 ∧ f.byte 1 ≤ 16))
  | .readGensets f => some (0x05, .either, f, f.len == 1)
  | .readPv f => some (0x06, .either, f, f.len == 0)
  | .readStack f => some (0x07, .either, f, f.len == 0)
  | .readJournal f => some (0x08, .either, f, f.len == 1 && decide (1 ≤ f.byte 0 ∧ f.byte 0 ≤ 16))
  | .readEvents f => some (0x09, .either, f, f.len == 0)
  | .readConfig f => some (0x0A, .either, f, f.len == 1)
  | .peekInputs f => some (0x0B, .either, f, f.len == 0)
  | .readInputs f => some (0x0C, .either, f, f.len == 0)
  | .collectMarks f => some (0x0D, .either, f, f.len == 0)
  | .measure f => some (0x0E, .either, f, measureLength f)
  | .operateFeeder f => some (0x20, .operate, f, f.len == 3)
  | .shed f => some (0x21, .operate, f, shedLength f)
  | .restoreEntry f => some (0x22, .operate, f, f.len == 2)
  | .holdEntry f => some (0x23, .operate, f, f.len == 2)
  | .releaseEntry f => some (0x24, .operate, f, f.len == 2)
  | .discardEntry f => some (0x25, .operate, f, f.len == 2)
  | .startGenset f => some (0x26, .operate, f, f.len == 1)
  | .stopGenset f => some (0x27, .operate, f, f.len == 1)
  | .resetLockout f => some (0x28, .operate, f, f.len == 1)
  | .setPvCeiling f => some (0x29, .operate, f, f.len == 3)
  | .setMode f => some (0x2A, .operate, f, f.len == 1)
  | .blackstartBegin f => some (0x2B, .operate, f, f.len == 1)
  | .blackstartHold f => some (0x2B, .operate, f, f.len == 1)
  | .blackstartResume f => some (0x2B, .operate, f, f.len == 1)
  | .blackstartAbort f => some (0x2B, .operate, f, f.len == 1)
  | .blackstartAck f => some (0x2B, .operate, f, f.len == 1)
  | .clearEvents f => some (0x2C, .operate, f, f.len == 8)
  | .setEventMask f => some (0x2D, .operate, f, f.len == 1)
  | .clearLinkErrors f => some (0x2E, .operate, f, f.len == 1)
  | .reset f => some (0x2F, .operate, f, f.len == 0)
  | .configureSystem f => some (0x40, .configure, f, systemLength f)
  | .configureStages f => some (0x41, .configure, f, f.len == 27)
  | .configureFeeder f => some (0x42, .configure, f, f.len == 10)
  | .configureGenset f => some (0x43, .configure, f, f.len == 37)
  | .configurePv f => some (0x44, .configure, f, f.len == 11)
  | .configureInput f => some (0x45, .configure, f, f.len == 5)
  | .configurePlan f => some (0x46, .configure, f, planLength f)
  | .configureDirectory f => some (0x47, .configure, f, f.len == 4)
  | .storeSettings f => some (0x48, .configure, f, f.len == 0)
  | .powerOnReset | .settingsLoadEnd _ | .softReset | .crossing | .deadBusTimerExpiry | .debouncedChange _ _
  | .pulseEnd _ | .operateTimerExpiry _ | .pointsBecomeStale | .holdoffTimerExpiry | .creditItemExpiry _
  | .restoreDelayExpiry | .intervalTimerExpiry | .startDelayTimerExpiry | .crankOnTimeExpiry _
  | .crankRestExpiry _ | .runUpExpiry _ | .syncTimeout _ | .unloadTimeout _ | .cooldownExpiry _
  | .runtimeTenthHour _ | .lowReserveTimerExpiry | .stopTimerExpiry | .rampTick | .pwmPeriodStart _
  | .confirmationTimerExpiry | .stepTimerExpiry | .waitTimerExpiry | .lengthError _ | .checkError _
  | .gapError _ | .unknownKind _ _ | .replyTransmitted _ | .supervisionTimerExpiry | .storeWriteEnd _
  | .pwmActiveLevelEnd _ => none

/-! ### Receiving frames -/

/-- The bytes of a frame on the line (R177): start byte, length, kind, tag, payload, and the check, high byte
first. -/
def frameBytes (kind tag : Byte) (payload : List Byte) : List Byte :=
  let body := BitVec.ofNat 8 (payload.length + 2) :: kind :: tag :: payload
  let check := (crc16 body).toNat
  0xC5 :: body ++ [BitVec.ofNat 8 (check / 256), BitVec.ofNat 8 check]

/-- A receiver takes bytes one after the other; the commands they complete are listed in order. -/
def receiveAll (l : Link) (r : Receiver) : List Byte → Receiver × List Instr
  | [] => (r, [])
  | b :: bs =>
    let a := receiveByte l b r
    let z := receiveAll l a.1 bs
    (z.1, a.2.toList ++ z.2)

/-! ### Operations of feeders -/

/-- What an operation leaves of a feeder's record (R35, R36, R55): the new state, the operate timer, the origin, the
SHED mark of a shedding trip, and the lines of its effective style. -/
def OperationBegun (style : Style) (t : FeederSettings) (closing : Bool) (origin : OpOrigin) (a b : FeederCtl) : Prop :=
  b = { a with
        state := if closing then .closing else .opening
        timer := .running t.operateMs, origin := some origin
        shed := a.shed || (!closing && (decide (origin = .autoShed) || decide (origin = .manualShed)))
        trip := !closing && decide (style = .pulse), close := closing, commanded := closing
        pulse := if style = .pulse then .running t.pulseMs else a.pulse }

/-! ### The restore stack -/

/-- A feeder has left the stack (R97, R98): it is gone from the first entry that lists it, and an entry whose list
becomes empty is gone with ENTRY_RESTORED and its record. -/
def LeftTheStack (f : Fin 16) (s t : State) : Prop :=
  ∃ (below above : List Entry) (e : Entry), s.rst.entries = below ++ e :: above
    ∧ (∀ d ∈ below, d.lists f = false) ∧ e.lists f = true
    ∧ t.rst = { s.rst with entries := t.rst.entries }
    ∧ ((∀ x ∈ e.items, x.feeder = f) →
        t.rst.entries = below ++ above ∧ t.evr = (journal .entryRemoved e.tag.toNat 0 (setAdv .entryRestored s)).evr)
    ∧ ((∃ x ∈ e.items, x.feeder ≠ f) →
        t.rst.entries = below ++ { e with items := e.items.filter fun x => decide (x.feeder ≠ f) } :: above
          ∧ t.evr = s.evr)

/-- The stack and the journal after a feeder has entered a state: a listed feeder has left the stack when the state
takes it out (R97), and otherwise both stand. -/
def StackFollows (f : Fin 16) (leaves : Prop) (s t : State) : Prop :=
  (listed s f = true ∧ leaves → LeftTheStack f s t)
    ∧ (¬ (listed s f = true ∧ leaves) → t.rst = s.rst ∧ t.evr = s.evr)

/-! ### Tripped feeders -/

/-- The feeders `fs` have been asked to open with an origin; nothing else has changed but the feeder notices that this
brings (R55, R62). -/
def FeedersTripped (origin : OpOrigin) (fs : List (Fin 16)) (s t : State) : Prop :=
  (∀ k ∈ fs,
      OperationBegun (effectiveStyle s.settings k) s.settings.feeders[k] false origin s.feeders[k] t.feeders[k])
    ∧ (∀ k : Fin 16, k ∉ fs → t.feeders[k] = s.feeders[k])
    ∧ SameBut [.feeders, .notices, .draws] s t

/-- The items that record tripped feeders: number, generation and snapshot load at the trip (R73, R75, R80). -/
def tripItems (s : State) (fs : List (Fin 16)) : List StackItem :=
  fs.map fun k => ⟨k, s.feeders[k].generation, effectiveLoad s k⟩

/-- The credit list after the feeders `fs` have joined it, each in place of an item it had (R83). -/
def creditWith (s : State) (fs : List (Fin 16)) : List CreditItem :=
  (s.shd.credit.filter fun c => decide (c.feeder ∉ fs))
    ++ fs.map fun k => ⟨k, effectiveLoad s k, s.time.part + BitVec.ofNat 32 s.settings.stages.holdoffMs⟩

/-- The target-trip list after the feeders `fs` have joined it (R85). -/
def targetsWith (s : State) (fs : List (Fin 16)) : List TargetItem :=
  (s.shd.targets.filter fun c => decide (c.feeder ∉ fs)) ++ fs.map fun k => ⟨k, effectiveLoad s k⟩

/-! ### Steps of a black-start run -/

/-- The run has turned to its next step (R165). -/
def StepTurned (s t : State) : Prop :=
  t.blk =
      { s.blk with
        run :=
          { s.blk.run with
            step := s.blk.run.step + 1, kind := (planSteps s)[s.blk.run.step]?.map (·.kind), begun := false
            stepTimer := .idle, waitTimer := .idle, nextSet := none } }
    ∧ t.notices = s.notices ++ [.step]

/-- The current step `st` has completed (R165), a START_LEAD step with its grant withdrawn (R166). -/
def StepCompleted (st : PlanStep) (s t : State) : Prop :=
  StepTurned s t ∧ t.evr = (journal .stepDone s.blk.run.step st.kind.code s).evr
    ∧ t.gen = (if st.kind = .startLead then { s.gen with grant := none } else s.gen)
    ∧ SameBut [.gen, .blk, .evr, .notices] s t

/-- The current step `st` has ended without completion, with the value `v` in the record of a skip (0 at its expiry, 1
at once) and the code `code` for the attempt that a step which may not be skipped fails (R165, R172). -/
def StepEnded (st : PlanStep) (v : Int) (code : Nat) (s t : State) : Prop :=
  (st.skippable = true →
      StepTurned s t ∧ t.evr = (journal .stepSkipped s.blk.run.step v s).evr ∧ SameBut [.blk, .evr, .notices] s t)
    ∧ (st.skippable = false → t = attemptFail code s)

/-- The examination of a step by the table of R171 finds that it fails at once. -/
def StepLost (st : PlanStep) (s : State) : Prop :=
  let fallen := fun g : Fin 4 =>
    s.gen.sets[g].state = .lockedOut ∨ s.gen.sets[g].state = .standby ∨ s.gen.sets[g].state = .unavailable
  (st.kind = .startLead ∧ ∃ g, s.blk.run.lead = some g ∧ fallen g)
    ∨ (st.kind = .closeFeeder ∧ ∃ f : Fin 16, st.object = f.val
        ∧ s.feeders[f].state ≠ .closed ∧ s.feeders[f].state ≠ .closing)
    ∨ (st.kind = .startNext ∧ ∃ g, s.blk.run.nextSet = some g ∧ fallen g)

/-- Among the notices that wait, an entry into DEAD has still to be taken by BLK (R171). -/
def DeadBusAwaited (s : State) : Prop :=
  ∃ n : BusNotice, .bus .blk n ∈ s.notices ∧ n.reset = false ∧ n.bus = .dead ∧ n.prev ≠ .dead

/-- A run has returned to RUNNING with its last hold cause cleared: its record is added, its timers run on, and its
step is examined afresh, or begins if it had not (R171). While an entry into DEAD has still to be taken by BLK, a step
that may not be skipped and would fail the attempt stands as it is, and the dead bus fails the attempt (log 49). -/
def RunResumed (s t : State) : Prop :=
  ∃ v : State, v.blk.state = .running ∧ v.evr = (journal .blkResumed 0 0 (setProt .bsState s)).evr
    ∧ SameBut [.gen, .blk, .evr] s v
    ∧ (s.blk.run.begun = false → v.blk.run = s.blk.run ∧ t = { v with notices := v.notices ++ [.step] })
    ∧ (s.blk.run.begun = true →
        v.blk.run =
            { s.blk.run with
              stepTimer := s.blk.run.stepTimer.resume, waitTimer := s.blk.run.waitTimer.resume }
          ∧ (∀ st, currentStep s = some st →
              (DeadBusAwaited s ∧ st.skippable = false ∧ StepLost st s → t = v)
                ∧ (¬ (DeadBusAwaited s ∧ st.skippable = false ∧ StepLost st s) → t = examineStep st v))
          ∧ (currentStep s = none → t = v))

/-- A run has been taken to HELD by the cause of code `cause` (1 stack, 2 manual), the hold causes standing as `run`
has them: its timers pause, and the wait timer of a WAIT_STABLE step goes idle (R171). -/
def RunHeld (cause : Nat) (run : RunRecord) (s t : State) : Prop :=
  t.blk.state = .held ∧ t.blk.confirm = s.blk.confirm
    ∧ t.blk.run =
        { run with
          stepTimer := run.stepTimer.pause
          waitTimer :=
            if (currentStep s).any fun st => decide (st.kind = .waitStable) then .idle else run.waitTimer.pause }
    ∧ t.gen.grant = none ∧ t.evr = (journal .blkHeld 0 cause (setProt .bsState s)).evr
    ∧ SameBut [.gen, .blk, .evr] s t

/-! ### Resets -/

/-- What every block holds once the blocks have initialised at a reset, the settings and inputs standing in `s`
(R19, R33, R38, R51, R67, R90, R114, R139, R155, R157, R175, R186, R200). -/
def BlocksInitialised (s t : State) : Prop :=
  t.phase = .running ∧ t.notices = [] ∧ t.fmon = {} ∧ t.meas = {} ∧ t.shd = {}
    ∧ (∀ i : Fin 32, t.inputs[i] =
        { raw := s.inputs[i].raw, prev := s.inputs[i].raw, debounced := s.inputs[i].raw
          lastRead := s.inputs[i].raw, view := s.inputs[i].raw })
    ∧ (∀ f : Fin 16,
        t.feeders[f].state =
            (if t.settings.feeders[f].inService then stateOfStatus (feederStatus t f) else .outOfService)
          ∧ t.feeders[f].timer = .idle ∧ t.feeders[f].origin = none ∧ t.feeders[f].operated = false
          ∧ t.feeders[f].shed = false ∧ t.feeders[f].trip = false ∧ t.feeders[f].pulse = .idle
          ∧ t.feeders[f].commanded = feederStatus t f
          ∧ (t.feeders[f].close = true ↔
              effectiveStyle t.settings f = .maintained ∧ feederStatus t f = true))
    ∧ t.rst.entries = [] ∧ t.rst.delay = .idle ∧ t.rst.interval = .idle ∧ t.rst.startDelay = .idle
    ∧ (∀ g : Fin 4,
        t.gen.sets[g].state =
            (if setBreaker t g then .online
             else if setRunning t g then .syncing
             else if setReady t g && t.settings.sets[g].inService then .standby
             else .unavailable)
          ∧ t.gen.sets[g].timer =
              (if !setBreaker t g && setRunning t g then .running t.settings.sets[g].syncTimeoutMs else .idle)
          ∧ t.gen.sets[g].origin = .none ∧ t.gen.sets[g].attempts = 0 ∧ t.gen.sets[g].lockout = 0
          ∧ t.gen.sets[g].run = (setBreaker t g || setRunning t g) ∧ t.gen.sets[g].crank = false
          ∧ t.gen.sets[g].syncPermit = false ∧ t.gen.sets[g].openReq = false
          ∧ t.gen.sets[g].deadClose = false)
    ∧ t.gen.permit = none ∧ t.gen.queue = [] ∧ t.gen.grant = none
    ∧ t.gen.lowReserve = .idle ∧ t.gen.stopTimer = .idle
    ∧ (∀ j : Fin 6,
        t.cur.channels[j].latch = true ∧ t.cur.channels[j].release = 0 ∧ t.cur.channels[j].reference = none
          ∧ t.cur.channels[j].droopLimit = none ∧ t.cur.channels[j].share = none
          ∧ t.cur.channels[j].limit = 0 ∧ t.cur.channels[j].remainder = 0
          ∧ t.cur.channels[j].pwm.present = 0 ∧ t.cur.channels[j].pwm.pos = 0
          ∧ setpointOutput t j = some t.settings.channels[j].inverted)
    ∧ t.cur.zeroHold = true ∧ t.cur.droopActive = false ∧ t.cur.freeze = false ∧ t.cur.absorbable = none
    ∧ t.cur.supervised = true ∧ t.cur.seqActive = false
    ∧ t.blk.run = {}
    ∧ (noneOnline t = true →
        t.blk.state = .confirming ∧ t.blk.confirm = .running t.settings.sys.deadConfirmMs)
    ∧ (noneOnline t = false → t.blk.state = .idle ∧ t.blk.confirm = .idle)
    ∧ (∀ l : Link, (t.link l).receiver = .hunting ∧ (t.link l).current = .none ∧ (t.link l).waiting = []
        ∧ (t.link l).errCheck = false ∧ (t.link l).errGap = false ∧ (t.link l).errLength = false
        ∧ (t.link l).errOverrun = false)
    ∧ t.lnk.supervised = true ∧ t.lnk.reset = .none ∧ t.lnk.isLocal = s.inputs[28].raw
    ∧ t.evr.protection = 0

/-! ### Settings in their ranges -/

/-- The system settings stand in the ranges of Table 10-6. -/
structure SystemSettings.InRange (t : SystemSettings) : Prop where
  timeTrim : -128 ≤ t.timeTrim ∧ t.timeTrim ≤ 127
  measTimeoutMs : 100 ≤ t.measTimeoutMs ∧ t.measTimeoutMs ≤ 10000
  restoreDelayS : 5 ≤ t.restoreDelayS ∧ t.restoreDelayS ≤ 600
  restoreIntervalMs : 500 ≤ t.restoreIntervalMs ∧ t.restoreIntervalMs ≤ 30000
  restoreBand : 50 ≤ t.restoreBand ∧ t.restoreBand ≤ 1000
  restoreStartDelayS : 5 ≤ t.restoreStartDelayS ∧ t.restoreStartDelayS ≤ 300
  srMin : t.srMin ≤ 10000
  startDelayS : 1 ≤ t.startDelayS ∧ t.startDelayS ≤ 600
  stopMargin : t.stopMargin ≤ 10000
  stopDelayS : 10 ≤ t.stopDelayS ∧ t.stopDelayS ≤ 3600
  droopOffset : t.droopOffset ≤ 2000
  droopBand : 200 ≤ t.droopBand ∧ t.droopBand ≤ 5000
  mlMargin : t.mlMargin ≤ 10000
  deadConfirmMs : 1000 ≤ t.deadConfirmMs ∧ t.deadConfirmMs ≤ 60000
  maxAttempts : 1 ≤ t.maxAttempts ∧ t.maxAttempts ≤ 4
  supervision : t.supervision ≤ 255
  alertLines : 1 ≤ t.alertLines ∧ t.alertLines ≤ 2

/-- The working settings stand in their ranges (Tables 4-1, 5-1, 7-1, 8-1, 10-6, 10-9 and section 2.1): each
group is what its configuring request would leave of it, and it fits its fields. -/
structure Settings.InRange (t : Settings) : Prop where
  sys : t.sys.InRange
  stages : t.stages.clamped t.sys.fNom = t.stages
  feeders : ∀ f : Fin 16, t.feeders[f].clamped = t.feeders[f]
  sets : ∀ g : Fin 4, t.sets[g].clamped = t.sets[g]
  channels : ∀ j : Fin 6, t.channels[j].clamped = t.channels[j]
  inputs : ∀ i : Fin 32, t.inputs[i].debounce ≤ 255
  planSize : ∀ p : Fin 4, t.plans[p].steps.length ≤ 12
  steps : ∀ p : Fin 4, ∀ st ∈ t.plans[p].steps, st.clamped = st ∧ st.object ≤ 255 ∧ st.param < 2 ^ 32

/-! ### The laws of the part -/

/-- The law of the journal (R195): it holds at most 32 records. -/
def JournalLaw (s : State) : Prop := s.evr.journal.length ≤ 32

/-- Between events no notice waits, and the alert lines stand at the levels of R193. -/
def AlertLaw (s : State) : Prop :=
  s.notices = []
    ∧ (s.evr.alert0 = true ↔
        protectionCalls s = true ∨ (s.settings.sys.alertLines ≤ 1 ∧ advisoryCalls s = true))
    ∧ (s.evr.alert1 = true ↔ 1 < s.settings.sys.alertLines ∧ advisoryCalls s = true)

/-- The law of the dead-bus close (R125): DEAD_CLOSE of a set is asserted exactly while the grant names it, it is
in SYNCING, the bus is DEAD and the black-start sequencer is RUNNING. -/
def DeadCloseLaw (s : State) : Prop :=
  ∀ g : Fin 4, s.gen.sets[g].deadClose = true ↔
    s.gen.grant = some g ∧ s.gen.sets[g].state = .syncing ∧ s.fmon.bus = .dead ∧ s.blk.state = .running

/-- The law of one feeder's lines (R35, R36) in an effective style: TRIP and CLOSE are never asserted together;
in PULSE style a line is asserted only while the pulse runs; in MAINTAINED style TRIP stays de-asserted, CLOSE
stands at the commanded position and no pulse runs. -/
def LinesOk (style : Style) (c : FeederCtl) : Prop :=
  ¬ (c.trip = true ∧ c.close = true)
    ∧ (style = .pulse → c.trip = true ∨ c.close = true → c.pulse.isRunning = true)
    ∧ (style = .maintained → c.trip = false ∧ c.close = c.commanded ∧ c.pulse = .idle)

/-- The law of the feeder lines, for every feeder in its effective style (R34 to R37). -/
def LinesLaw (s : State) : Prop := ∀ f : Fin 16, LinesOk (effectiveStyle s.settings f) s.feeders[f]

/-- The law of the crank permit (R120): the holder of the permit is the one set in CRANKING, the queue holds the
sets in WAIT_CRANK, each once, and no set waits while the permit is free. -/
structure CrankLaw (s : State) : Prop where
  holder : ∀ g : Fin 4, s.gen.permit = some g ↔ s.gen.sets[g].state = .cranking
  waiting : ∀ g : Fin 4, g ∈ s.gen.queue ↔ s.gen.sets[g].state = .waitCrank
  once : s.gen.queue.Nodup
  served : s.gen.permit = none → s.gen.queue = []

/-- The states of a set that is cranking, waits to crank or rests between cranks. -/
def SetState.atCrank : SetState → Bool
  | .waitCrank => true
  | .cranking => true
  | .crankRest => true
  | _ => false

/-- The law of the CRANK lines between events (R120): exactly the set in CRANKING has its CRANK line asserted. What
makes it hold in MONITOR too stands beside it: a set on its way through the cranking states has an origin, and in MONITOR
that origin is not AUTO (R119, R129). -/
structure CrankLineLaw (s : State) : Prop where
  settled : s.notices = []
  line : ∀ g : Fin 4, s.gen.sets[g].crank = true ↔ s.gen.sets[g].state = .cranking
  owned : ∀ g : Fin 4, s.gen.sets[g].state.atCrank = true → s.gen.sets[g].origin ≠ .none
  driven : s.lnk.mode = .monitor → ∀ g : Fin 4, s.gen.sets[g].state.atCrank = true → s.gen.sets[g].origin ≠ .auto

/-- What the constraints of one channel satisfy, its settings being `t` and its measurement point `p`: ceilings
within the rating, and no figure below 0. -/
structure ChannelOk (t : PvSettings) (p : Point) (c : ChannelCtl) : Prop where
  host : t.hostCeiling ≤ t.ratedKw
  fallback : t.fallbackCeiling ≤ t.ratedKw
  point : 0 ≤ p.value
  reference : ∀ r, c.reference = some r → 0 ≤ r
  droop : ∀ d, c.droopLimit = some d → 0 ≤ d
  share : ∀ x, c.share = some x → 0 ≤ x
  limit : 0 ≤ c.limit

/-- The law of the output limit (R150): every channel's output limit is at most the smaller of its effective
ceiling and its rating. -/
def LimitLaw (s : State) : Prop :=
  ∀ j : Fin 6, ChannelOk s.settings.channels[j] s.meas.channels[j] s.cur.channels[j]
    ∧ s.cur.channels[j].limit ≤ min (effectiveCeiling s j) s.settings.channels[j].ratedKw

/-- The other half of the law of the output limit (R150) and the law of MONITOR mode for the photovoltaic outputs
(R153), between events: on a DEAD bus the zero hold stands and every output limit is 0, in AUTO every limit is 0 while
the zero hold stands, and in MONITOR every limit is the effective ceiling except on a DEAD bus, with no ramp remainder. -/
structure DeadLimitLaw (s : State) : Prop where
  settled : s.notices = []
  hold : s.fmon.bus = .dead → s.cur.zeroHold = true
  dead : s.fmon.bus = .dead → ∀ j : Fin 6, s.cur.channels[j].limit = 0
  held : s.lnk.mode = .auto → s.cur.zeroHold = true → ∀ j : Fin 6, s.cur.channels[j].limit = 0
  monitor : s.lnk.mode = .monitor → s.fmon.bus ≠ .dead →
    ∀ j : Fin 6, s.cur.channels[j].limit = effectiveCeiling s j
  remainder : s.lnk.mode = .monitor → ∀ j : Fin 6, s.cur.channels[j].remainder = 0

/-- The law of listing (R97): a feeder is listed in at most one entry of the restore stack, once, and every listed
feeder is OPEN, OPENING or FAILED. -/
structure ListingLaw (s : State) : Prop where
  once : (s.rst.entries.flatMap fun e => e.items.map fun x => x.feeder).Nodup
  state : ∀ f : Fin 16, listed s f = true →
    s.feeders[f].state = .opened ∨ s.feeders[f].state = .opening ∨ ∃ dir, s.feeders[f].state = .failed dir

/-- The stack's size and header (R91): at most 8 entries; a header stands exactly while the black-start sequencer is
RUNNING or HELD, only at position 0, and lists no feeder. -/
structure StackShape (s : State) : Prop where
  size : s.rst.entries.length ≤ 8
  place : ∀ (i : Nat) (e : Entry), s.rst.entries[i]? = some e → e.isHeader = true → i = 0 ∧ e.items = []
  header : headerStands s = true ↔ blkActive s = true

/-- The law of the stack's size and header between events (R91): no notice waits, at most 8 entries stand, and a header
stands exactly while the black-start sequencer is RUNNING or HELD, only at position 0, and lists no feeder. -/
structure StackLaw (s : State) : Prop where
  settled : s.notices = []
  shape : StackShape s

end Sys2Proof.Machine
end

