-- ==== Sys2Proof/Certificates/Slice0/Obligations.lean ====
section
/-! DEFINITION. The statements for the provers. In most of them `u` is the state that a command's own block leaves,
before the notices of the event are delivered (`conclude u` is the state after the event), and `h` is the state
after LNK has taken note of the frame (`superviseFrame`, R183). -/

open Sys2Proof Sys2Proof.Machine

/-! ### The queue, time and resets -/

/-- A step takes the command at the front of the queue and executes it with the queue's rest. The queue is the
model's (log 1). -/
def Obligations.StepRunsTheFrontCommand : Prop :=
  ∀ (c : Instr) (rest : List Instr) (s : State),
    step { s with pending := c :: rest } = exec c { s with pending := rest }

/-- With no command waiting and nothing due, a step is one tick of the 10 MHz reference: the capture counter advances
modulo 2^32, the period count of each PWM generator with it while the blocks run, and every 10,000th tick is a
millisecond of part time (R1, R154). A tick between two milliseconds changes nothing else. A millisecond samples every
input, without yet changing a debounced value (R21, R23), ages every point unless this makes a fresh point older than
the timeout, when the ageing is the event POINTS_BECOME_STALE, the very next command (R45), and advances every running
timer, the part-hour count of each set whose RUNNING reads true (R132), and the count whose hundredth is the tick of
R151; while the settings load runs, only its limit advances. The debounced changes of one sample enter the queue
together, so that no query comes between two of them (R29, R30). That an idle step is one tick, that a change or a
tick of the table at which points become stale is a command of its own, and the count of 100 ms are the model's
choices (logs 1, 3 and 10). -/
def Obligations.IdleStepIsOneTick : Prop :=
  (∀ s : State, s.pending = [] → happenings s = [] →
    ∃ t, step s = .next t
      ∧ t.time.capture = s.time.capture + 1
      ∧ (∀ j : Fin 6,
          let c := s.cur.channels[j]
          t.cur.channels[j] = (if s.phase = .running then { c with pwm := { c.pwm with pos := c.pwm.pos + 1 } } else c))
      ∧ (s.time.sub + 1 < 10000 →
          t.time = { s.time with capture := s.time.capture + 1, sub := s.time.sub + 1 }
            ∧ t.cur = { s.cur with channels := t.cur.channels } ∧ SameBut [.time, .cur] s t)
      ∧ (10000 ≤ s.time.sub + 1 →
          t.time =
              { capture := s.time.capture + 1, part := s.time.part + 1, sub := 0, tenth := (s.time.tenth + 1) % 100
                load := s.time.load.tick }
            ∧ (s.phase = .loading → SameBut [.time] s t)
            ∧ (s.phase = .running →
                (∀ i : Fin 32,
                    let a := s.inputs[i]
                    let n := if a.raw = a.prev then min 255 (a.counter + 1) else 0
                    t.inputs[i] =
                      { a with
                        prev := a.raw, counter := n
                        changeDue := decide (a.raw ≠ a.debounced ∧ s.settings.inputs[i].debounce ≤ n) })
                  ∧ (let older := fun p : Point => { p with age := min 65535 (p.age + 1) }
                     let goes := fun p : Point =>
                       p.stale = false ∧ s.settings.sys.measTimeoutMs < min 65535 (p.age + 1)
                     let passing := (∃ k : Fin 16, goes s.meas.feeders[k]) ∨ (∃ g : Fin 4, goes s.meas.sets[g])
                       ∨ ∃ j : Fin 6, goes s.meas.channels[j]
                     (passing → t.meas = s.meas ∧ t.pending = [.pointsBecomeStale])
                      ∧ (¬ passing →
                          (∀ k : Fin 16, t.meas.feeders[k] = older s.meas.feeders[k])
                            ∧ (∀ g : Fin 4, t.meas.sets[g] = older s.meas.sets[g])
                            ∧ (∀ j : Fin 6, t.meas.channels[j] = older s.meas.channels[j]) ∧ t.pending = []))
                  ∧ (∀ k : Fin 16, t.feeders[k] =
                      { s.feeders[k] with timer := s.feeders[k].timer.tick, pulse := s.feeders[k].pulse.tick })
                  ∧ t.shd = { s.shd with holdoff := s.shd.holdoff.tick }
                  ∧ t.rst =
                      { s.rst with
                        delay := s.rst.delay.tick, interval := s.rst.interval.tick, startDelay := s.rst.startDelay.tick }
                  ∧ (∀ g : Fin 4, t.gen.sets[g] =
                      { s.gen.sets[g] with
                        timer := s.gen.sets[g].timer.tick
                        partHour := s.gen.sets[g].partHour + (if setRunning s g then 1 else 0) })
                  ∧ t.gen =
                      { s.gen with
                        sets := t.gen.sets, lowReserve := s.gen.lowReserve.tick, stopTimer := s.gen.stopTimer.tick }
                  ∧ t.cur =
                      { s.cur with
                        channels := t.cur.channels
                        rampDue := s.cur.rampDue || decide ((s.time.tenth + 1) % 100 = 0) }
                  ∧ t.blk =
                      { s.blk with
                        confirm := s.blk.confirm.tick
                        run :=
                          { s.blk.run with
                            stepTimer := s.blk.run.stepTimer.tick, waitTimer := s.blk.run.waitTimer.tick } }
                  ∧ (∀ l : Link, t.link l = { s.link l with gap := (s.link l).gap.tick })
                  ∧ t.lnk =
                      { s.lnk with linkA := t.lnk.linkA, linkB := t.lnk.linkB, supTimer := s.lnk.supTimer.tick }
                  ∧ t.sto = { s.sto with write := s.sto.write.map fun w => { w with left := w.left.tick } }
                  ∧ SameBut [.time, .inputs, .meas, .feeders, .shd, .rst, .gen, .cur, .blk, .lnk, .sto, .pending] s t)))
    ∧ (∀ n : Nat, (Timer.running n).tick = .running (n - 1) ∧ (Timer.paused n).tick = .paused n)
    ∧ Timer.idle.tick = .idle ∧ Timer.expired.tick = .expired
    ∧ (∀ s t : State, s.pending = [] → step s = .next t →
        t.pending.Perm (sampleChanges s) ∨ ∀ c ∈ t.pending, t.pending = [c] ∧ ∀ i level, c ≠ .debouncedChange i level)
    ∧ (∀ (s : State) (i : Fin 32) (level : Bool), Instr.debouncedChange i level ∈ sampleChanges s ↔
        s.inputs[i].changeDue = true ∧ level = s.inputs[i].prev)

/-- A power-on reset: the counts start at 0, the settings load begins with its limit of 50 ms, every output line
is released and the setpoint outputs are not driven (R1, R38, R39, R155, R193, R198). Pins, line bytes and waiting
commands, which stand outside the part, and the model's count of free orders are as they were: the model's choice
(logs 2, 6 and 26). -/
def Obligations.PowerOnResetReleasesEveryLine : Prop :=
  ∀ s : State, ∃ t, exec .powerOnReset s = .next t
    ∧ t.phase = .loading
    ∧ t.time = { capture := 0, part := 0, sub := 0, load := .running 50 }
    ∧ (∀ f : Fin 16, t.feeders[f].trip = false ∧ t.feeders[f].close = false ∧ t.feeders[f].pulse = .idle)
    ∧ (∀ g : Fin 4, t.gen.sets[g].crank = false ∧ t.gen.sets[g].run = false
        ∧ t.gen.sets[g].syncPermit = false ∧ t.gen.sets[g].openReq = false ∧ t.gen.sets[g].deadClose = false)
    ∧ (∀ j : Fin 6, t.cur.channels[j].limit = 0 ∧ t.cur.channels[j].pwm.active = false ∧ setpointOutput t j = none)
    ∧ t.evr.alert0 = false ∧ t.evr.alert1 = false ∧ t.evr.journal = []
    ∧ (∀ i : Fin 32, t.inputs[i].raw = s.inputs[i].raw)
    ∧ t.lnk.linkA.lineIn = s.lnk.linkA.lineIn ∧ t.lnk.linkB.lineIn = s.lnk.linkB.lineIn
    ∧ t.draws = s.draws ∧ t.pending = s.pending

/-- While the settings load of a power-on reset runs, every command but the two that concern the reset is passed
over: no crossing is captured, no request is answered, no timer expires (R1, R186, R198; that this holds of every
command is read from those rules, log 26). -/
def Obligations.LoadingPartPassesOverEveryEvent : Prop :=
  ∀ (c : Instr) (s : State), s.phase = .loading → c ≠ .powerOnReset → (∀ image, c ≠ .settingsLoadEnd image) →
    exec c s = .next s

/-- The settings load ends: an accepted image becomes the working settings and gives the mode; a rejected one
leaves the defaults, MONITOR, SETTINGS_DEFAULTED and the record of the reason; then the blocks initialise, with
both masks set, every generation 0 and the part-hour counts 0 (R38, R198, R200). -/
def Obligations.SettingsLoadEndInitialisesTheBlocks : Prop :=
  ∀ (image : List Byte) (s : State), s.phase = .loading →
    ∃ t, exec (.settingsLoadEnd image) s = .next t
      ∧ BlocksInitialised s t
      ∧ (∀ f : Fin 16, t.feeders[f].generation = 0) ∧ t.rst.nextTag = 0
      ∧ (∀ g : Fin 4, t.gen.sets[g].partHour = 0)
      ∧ t.evr.maskProtection = true ∧ t.evr.maskAdvisory = true
      ∧ t.time = { s.time with load := .idle }
      ∧ (∀ settings, loadImage image = .inl settings →
          t.settings = settings ∧ t.lnk.mode = settings.sys.startMode ∧ t.evr.journal = []
            ∧ t.evr.advisory = 0 ∧ t.sto.image = .loaded)
      ∧ (∀ reason, loadImage image = .inr reason →
          t.settings = {} ∧ t.lnk.mode = .monitor ∧ t.evr.advisory = 0x0400
            ∧ t.evr.journal = [{ time := s.time.part, kind := 51, object := 0, value := reason }]
            ∧ t.sto.image = .defaulted reason)

/-- The soft reset is performed once the RESET reply and every other reply have gone and no settings write runs:
every block takes its soft-reset state, and part time, the capture counter, the working settings, the mode, the
masks, the generations, the next tag and the part-hour counts are kept (R53, R132, R185, R192, R195, R200). -/
def Obligations.SoftResetKeepsSettingsModeAndTime : Prop :=
  ∀ s : State, s.phase = .running → s.lnk.reset = .draining → s.lnk.linkA.current = .none →
    s.lnk.linkB.current = .none → s.sto.write = none →
    ∃ t, exec .softReset s = .next t
      ∧ BlocksInitialised s t
      ∧ t.time = s.time ∧ t.settings = s.settings ∧ t.lnk.mode = s.lnk.mode ∧ t.sto = s.sto
      ∧ (∀ f : Fin 16, t.feeders[f].generation = s.feeders[f].generation) ∧ t.rst.nextTag = s.rst.nextTag
      ∧ (∀ g : Fin 4, t.gen.sets[g].partHour = s.gen.sets[g].partHour)
      ∧ t.evr.maskProtection = s.evr.maskProtection ∧ t.evr.maskAdvisory = s.evr.maskAdvisory
      ∧ t.evr.journal = [] ∧ t.evr.advisory = 0

/-- The model's reset state is the part right after a power-on reset whose configuration memory did not answer
(log 4): the load that follows a power-on reset from it leads back to it; and the laws of the part hold in it. -/
def Obligations.ResetStateIsReachedAndMeetsTheLaws : Prop :=
  (∃ t, exec .powerOnReset State.reset = .next t ∧ exec (.settingsLoadEnd []) t = .next State.reset)
    ∧ JournalLaw State.reset ∧ AlertLaw State.reset ∧ DeadCloseLaw State.reset ∧ LinesLaw State.reset
    ∧ CrankLaw State.reset ∧ CrankLineLaw State.reset ∧ LimitLaw State.reset ∧ DeadLimitLaw State.reset
    ∧ StackLaw State.reset ∧ ListingLaw State.reset

/-! ### Encodings -/

/-- What STORE_SETTINGS writes, a settings load reads back: the image of settings in their ranges is accepted and
carries them all (R197, R198). -/
def Obligations.SettingsImageRoundTrip : Prop :=
  ∀ t : Settings, t.InRange → loadImage (imageOf t) = .inl t

/-- The bytes of a frame of R177, taken one by one by a hunting receiver, complete exactly the command that the
frame is, and leave the receiver hunting. -/
def Obligations.FrameBytesCompleteTheirCommand : Prop :=
  ∀ (l : Link) (kind tag : Byte) (payload : List Byte), payload.length ≤ 248 →
    receiveAll l .hunting (frameBytes kind tag payload)
      = (.hunting, [commandOfFrame kind { link := l, tag := tag, payload := payload }])

/-! ### Laws that every step keeps -/

/-- The law of the journal, as far as its size goes: every step keeps it at 32 records at most (R195; that a record is
added at the end, so that the list is in the order of the events, is the statement JournalRecordIsAddedAtTheEnd). -/
def Obligations.EveryStepKeepsTheJournalLaw : Prop :=
  ∀ s t : State, JournalLaw s → step s = .next t → JournalLaw t

/-- No notice is left between events, and the alert lines stand at the levels of R193: every step keeps it. -/
def Obligations.EveryStepKeepsTheAlertLaw : Prop :=
  ∀ s t : State, AlertLaw s → step s = .next t → AlertLaw t

/-- The law of the dead-bus close (R125): every step keeps it. -/
def Obligations.EveryStepKeepsTheDeadCloseLaw : Prop :=
  ∀ s t : State, DeadCloseLaw s → step s = .next t → DeadCloseLaw t

/-- The law of the feeder lines (R34 to R37): every step keeps it. -/
def Obligations.EveryStepKeepsTheLinesLaw : Prop :=
  ∀ s t : State, LinesLaw s → step s = .next t → LinesLaw t

/-- Every step keeps the law of the crank permit and, where both stand, the law of the CRANK lines (R120). In MONITOR a
set that is not driven keeps its lines: no event but a request or a reset changes CRANK, RUN, SYNC_PERMIT or OPEN_REQ of
a set whose origin is neither HOST nor BLACKSTART, while no black-start run is in progress (R129). That this holds at an
external closing and at a lockout too, where R128 and R130 name levels of these lines, is the model's reading (log 12). -/
def Obligations.EveryStepKeepsTheCrankLaw : Prop :=
  (∀ s t : State, CrankLaw s → step s = .next t → CrankLaw t)
    ∧ (∀ s t : State, CrankLaw s → CrankLineLaw s → step s = .next t → CrankLineLaw t)
    ∧ (∀ (c : Instr) (s t : State) (g : Fin 4), requestOf c = none → c ≠ .powerOnReset → c ≠ .softReset →
        s.phase = .running → s.lnk.mode = .monitor → blkActive s = false → s.notices = [] →
        s.gen.sets[g].origin ≠ .host → s.gen.sets[g].origin ≠ .blackstart →
        exec c s = .next t →
        t.gen.sets[g].crank = s.gen.sets[g].crank ∧ t.gen.sets[g].run = s.gen.sets[g].run
          ∧ t.gen.sets[g].syncPermit = s.gen.sets[g].syncPermit ∧ t.gen.sets[g].openReq = s.gen.sets[g].openReq)

/-- Every step keeps the output limits at or below the ceilings and ratings (R150), and, where that and the second law
stand, every limit at 0 while the bus is DEAD and, in MONITOR, at the effective ceiling off a DEAD bus (R150, R153). -/
def Obligations.EveryStepKeepsTheLimitLaw : Prop :=
  (∀ s t : State, LimitLaw s → step s = .next t → LimitLaw t)
    ∧ ∀ s t : State, LimitLaw s → DeadLimitLaw s → step s = .next t → DeadLimitLaw t

/-- Every step from a state in which no notice waits keeps the law of the stack's size and header (R91), and every
step keeps the law of listing: a feeder is listed in at most one entry, and every listed feeder is OPEN, OPENING or
FAILED (R97). -/
def Obligations.EveryStepKeepsTheStackLaw : Prop :=
  (∀ s t : State, StackLaw s → step s = .next t → StackLaw t)
    ∧ ∀ s t : State, ListingLaw s → step s = .next t → ListingLaw t

/-- The delivery of an event's notices and the driving of the lines reach neither the monitor, the inputs, the
measurements, the links, the settings, the store, time nor the queue, and leave no notice. When no notice waits,
they change the set lines and the alert lines alone. The order of delivery and its bound are the model's (log 9). -/
def Obligations.DeliveryReachesOnlyTheConsumers : Prop :=
  ∀ u : State,
    SameBut [.feeders, .shd, .rst, .gen, .cur, .blk, .evr, .notices, .draws] u (conclude u)
      ∧ (conclude u).notices = []
      ∧ (u.notices = [] → SameBut [.gen, .evr] u (conclude u)
          ∧ (conclude u).evr = { u.evr with alert0 := (conclude u).evr.alert0, alert1 := (conclude u).evr.alert1 }
          ∧ (∀ g : Fin 4,
              let c := (conclude u).gen.sets[g]
              c = { u.gen.sets[g] with
                    crank := c.crank, run := c.run, syncPermit := c.syncPermit, openReq := c.openReq
                    deadClose := c.deadClose })
          ∧ (conclude u).gen = { u.gen with sets := (conclude u).gen.sets })

/-- A journal record is added at the end, with the part time of its event; at 32 records the oldest is lost and
JOURNAL_OVERRUN set; an addition that leaves exactly 16 sets JOURNAL_HALF; both resets empty the journal, an accepted
settings load leaves it empty, and the record of a rejected load is added to the empty journal (R195). -/
def Obligations.JournalRecordIsAddedAtTheEnd : Prop :=
  (∀ (k : JournalKind) (o : Nat) (v : Int) (s : State),
    let r : JournalRecord := { time := s.time.part, kind := k.code, object := o, value := v }
    let t := journal k o v s
    SameBut [.evr] s t
      ∧ (s.evr.journal.length < 32 → t.evr.journal = s.evr.journal ++ [r]
          ∧ (s.evr.journal.length + 1 = 16 → t.evr.advisory = s.evr.advisory ||| 0x0080)
          ∧ (s.evr.journal.length + 1 ≠ 16 → t.evr.advisory = s.evr.advisory))
      ∧ (s.evr.journal.length = 32 → t.evr.journal = s.evr.journal.drop 1 ++ [r]
          ∧ t.evr.advisory = s.evr.advisory ||| 0x0100)
      ∧ (s.evr.journal.length ≤ 32 → t.evr.journal.length ≤ 32)
      ∧ t.evr.protection = s.evr.protection)
    ∧ (∀ s : State, ∃ t, exec .powerOnReset s = .next t ∧ t.evr.journal = [])
    ∧ (∀ s : State, s.phase = .running → softResetReady s = true →
        ∃ t, exec .softReset s = .next t ∧ t.evr.journal = [])
    ∧ (∀ (image : List Byte) (s : State), s.phase = .loading →
        ∃ t, exec (.settingsLoadEnd image) s = .next t
          ∧ t.evr.journal =
              (match loadImage image with
               | .inl _ => []
               | .inr reason => [{ time := s.time.part, kind := 51, object := 0, value := reason }]))

/-! ### The bus frequency monitor -/

/-- The first crossing on a dead bus has no period: it becomes the reference and the bus enters SETTLING, with
the record and the notice of that change (R1, R12, R13, R16). A valid period that leaves fewer than four in the
ring is kept: its crossing becomes the reference, and neither a value nor a notice arises (R6). -/
def Obligations.EarlyCrossingsOfARunFormNoValue : Prop :=
  (∀ s : State, s.phase = .running → s.fmon.reference = none → s.fmon.bus = .dead →
      ∃ u, exec .crossing s = .next (conclude u)
        ∧ u.fmon = { s.fmon with reference := some s.time.capture, bus := .settling, origin := .atDead }
        ∧ u.evr = (journal .busState 1 0 s).evr
        ∧ Announced [.shd, .rst, .cur, .blk, .gen] (fun c => .bus c { bus := .settling, prev := .dead }) s u
        ∧ SameBut [.fmon, .evr, .notices, .draws] s u)
    ∧ (∀ (s : State) (r : Stamp) (p : Nat), s.phase = .running → s.fmon.reference = some r →
        p = correctedPeriod (s.time.capture - r).toNat s.settings.sys.timeTrim →
        classify s.settings.sys.fNom p = .valid → s.fmon.periodRing.length < 3 →
        ∃ u, exec .crossing s = .next (conclude u)
          ∧ u.fmon =
              { s.fmon with reference := some s.time.capture, periodRing := s.fmon.periodRing ++ [p] }
          ∧ SameBut [.fmon] s u)

/-- A short period is noise: the crossing is discarded and counted, the count staying at 65,535, and FMON announces
nothing; READ_FREQUENCY does not clear the count, and either reset does (R4). -/
def Obligations.ShortCrossingIsCountedOnly : Prop :=
  (∀ (s : State) (r : Stamp), s.phase = .running → s.fmon.reference = some r →
    classify s.settings.sys.fNom (correctedPeriod (s.time.capture - r).toNat s.settings.sys.timeTrim) = .short →
    ∃ u, exec .crossing s = .next (conclude u)
      ∧ u.fmon = { s.fmon with rejected := min 65535 (s.fmon.rejected + 1) }
      ∧ SameBut [.fmon] s u)
    ∧ (∀ (f : Frame) (s : State), ∃ t, exec (.readFrequency f) s = .next t ∧ t.fmon = s.fmon)
    ∧ (∀ s : State, s.phase = .running → softResetReady s = true →
        ∃ t, exec .softReset s = .next t ∧ t.fmon.rejected = 0)
    ∧ (∀ (image : List Byte) (s : State), s.phase = .loading →
        ∃ t, exec (.settingsLoadEnd image) s = .next t ∧ t.fmon.rejected = 0)

/-- A valid period that leaves four or more in the ring forms a frequency value: the rings, the sequence number and
the whole present-value record take it, a bus that was not LIVE becomes LIVE with BUS_LIVE and its record, and the
value is announced (R6 to R10, R13, R14, R16). That E_on stands in the record only together with an imbalance estimate
is the model's reading (log 15). -/
def Obligations.ValueCrossingFormsAFrequencyValue : Prop :=
  ∀ (s : State) (r : Stamp) (p : Nat) (ring : List Nat), s.phase = .running → s.fmon.reference = some r →
    p = correctedPeriod (s.time.capture - r).toNat s.settings.sys.timeTrim →
    classify s.settings.sys.fNom p = .valid →
    ring = (if s.fmon.periodRing.length = 8 then s.fmon.periodRing.drop 1 else s.fmon.periodRing) ++ [p] →
    3 ≤ s.fmon.periodRing.length → s.fmon.periodRing.length ≤ 8 → s.fmon.freqRing.length ≤ 5 →
    ∃ (u : State) (v : PresentValue) (freqs : List Nat), exec .crossing s = .next (conclude u)
      ∧ v.s4 = (ring.drop (ring.length - 4)).sum
      ∧ v.f = (2 * (4 * 10 ^ 10) + v.s4) / (2 * v.s4)
      ∧ freqs = (if s.fmon.freqRing.length = 5 then s.fmon.freqRing.drop 1 else s.fmon.freqRing) ++ [v.f]
      ∧ v.r = (if freqs.length = 5 then
                some (clampInt (-20000) 20000 ((((v.f : Int) - (freqs.headD 0 : Nat)) * 10 ^ 7).tdiv v.s4))
               else none)
      ∧ v.dP = (if 0 < storedEnergy s then
                  v.r.map fun x => (2 * (storedEnergy s : Int) * x).tdiv (fNom s : Nat)
                else none)
      ∧ v.eOn = (v.dP.map fun _ => storedEnergy s) ∧ v.seq = s.fmon.seq + 1 ∧ v.time = s.time.part
      ∧ u.fmon =
          { s.fmon with
            reference := some s.time.capture, periodRing := ring, freqRing := freqs, present := some v
            seq := v.seq, bus := .live, origin := .none }
      ∧ (s.fmon.bus = .live →
          Announced [.shd, .rst, .cur, .blk] (fun c => .bus c { bus := .live, prev := .live, value := some v }) s u
            ∧ SameBut [.fmon, .notices, .draws] s u)
      ∧ (s.fmon.bus ≠ .live →
          Announced [.shd, .rst, .cur, .blk, .gen]
              (fun c => .bus c
                { bus := .live, prev := s.fmon.bus, afterDead := decide (s.fmon.origin = .atDead)
                  value := some v }) s u
            ∧ u.evr = (journal .busState 2 v.f (setProt .busLive s)).evr
            ∧ SameBut [.fmon, .evr, .notices, .draws] s u)

/-- A long period breaks the run: its crossing becomes the reference, from which the dead-bus timer now counts, both
rings are emptied, no frequency value is formed, the present values are invalidated, and a LIVE bus becomes SETTLING
with the period in the record of that change; the break is announced (R5, R14, R16). -/
def Obligations.LongCrossingBreaksTheRun : Prop :=
  ∀ (s : State) (r : Stamp) (p : Nat), s.phase = .running → s.fmon.reference = some r →
    p = correctedPeriod (s.time.capture - r).toNat s.settings.sys.timeTrim →
    classify s.settings.sys.fNom p = .long →
    ∃ u, exec .crossing s = .next (conclude u)
      ∧ sinceReference u = some 0
      ∧ (s.fmon.bus = .live →
          u.fmon =
              { s.fmon with
                reference := some s.time.capture, periodRing := [], freqRing := [], present := none
                bus := .settling, origin := .fromBreak }
            ∧ u.evr = (journal .busState 1 p s).evr
            ∧ Announced [.shd, .rst, .cur, .blk, .gen]
                (fun c => .bus c { bus := .settling, prev := .live, brk := true }) s u
            ∧ SameBut [.fmon, .evr, .notices, .draws] s u)
      ∧ (s.fmon.bus ≠ .live →
          u.fmon =
              { s.fmon with
                reference := some s.time.capture, periodRing := [], freqRing := [], present := none }
            ∧ Announced [.shd, .rst, .cur, .blk]
                (fun c => .bus c { bus := s.fmon.bus, prev := s.fmon.bus, brk := true }) s u
            ∧ SameBut [.fmon, .notices, .draws] s u)

/-- The expiry of the dead-bus timer takes a SETTLING or LIVE bus to DEAD: reference, rings and present values go,
BUS_DEAD is set with its record, and the change is announced with the break (R15, R16). On a DEAD bus the timer is
idle, and that the command then changes nothing is the model's choice (log 3). -/
def Obligations.DeadBusTimerExpiryEntersDead : Prop :=
  ∀ s : State, s.phase = .running →
    ∃ u, exec .deadBusTimerExpiry s = .next (conclude u)
      ∧ (s.fmon.bus = .dead → u = s)
      ∧ (s.fmon.bus ≠ .dead →
          u.fmon =
              { s.fmon with
                reference := none, periodRing := [], freqRing := [], present := none
                bus := .dead, origin := .none }
            ∧ u.evr = (journal .busState 0 s.fmon.bus.code (setProt .busDead s)).evr
            ∧ Announced [.shd, .rst, .cur, .blk, .gen]
                (fun c => .bus c { bus := .dead, prev := s.fmon.bus, brk := true }) s u
            ∧ SameBut [.fmon, .evr, .notices, .draws] s u)

/-- The figures of the monitor: the classes of R3 with their bounds, and, over any four valid periods, a frequency
value within 0.8 to 1.2 times the nominal frequency (R3, R7). -/
def Obligations.FrequencyValuesLieInTheWindow : Prop :=
  (∀ p : Nat,
    (classify .hz50 p = .short ↔ p < 166667) ∧ (classify .hz50 p = .long ↔ 250000 < p)
      ∧ (classify .hz50 p = .valid ↔ 166667 ≤ p ∧ p ≤ 250000)
      ∧ (classify .hz60 p = .short ↔ p < 138889) ∧ (classify .hz60 p = .long ↔ 208333 < p)
      ∧ (classify .hz60 p = .valid ↔ 138889 ≤ p ∧ p ≤ 208333))
    ∧ (∀ (n : NominalFreq) (ring : List Nat), 4 ≤ ring.length → (∀ p ∈ ring, classify n p = .valid) →
        n.mHz * 8 ≤ 10 * freqOf (sumNewest4 ring) ∧ 10 * freqOf (sumNewest4 ring) ≤ n.mHz * 12)

/-! ### Inputs and measurements -/

/-- A debounced change of an input: the debounced value takes the level; the read view and the event flag follow
R24, R26 and R27; the change of IN28 is the new location, with LOCATION and its record (R32); an input of IN29 to
IN31 concerns nothing else, and no input reaches a block it is not assigned to (R22). -/
def Obligations.DebouncedChangeUpdatesItsInput : Prop :=
  ∀ (i : Fin 32) (level : Bool) (s : State), s.phase = .running → s.inputs[i].debounced ≠ level →
    ∃ u, exec (.debouncedChange i level) s = .next (conclude u)
      ∧ (let a := s.inputs[i]
         let b := u.inputs[i]
         let t := s.settings.inputs[i]
         b.debounced = level ∧ b.prev = level ∧ b.lastRead = a.lastRead ∧ b.counter = a.counter
          ∧ b.changeDue = false
          ∧ (t.latch = true ∧ a.view ≠ a.lastRead → b.view = a.view)
          ∧ (t.latch = false ∨ a.view = a.lastRead → b.view = level)
          ∧ (t.mode = .none → b.flag = a.flag)
          ∧ (t.mode = .level ∧ b.view ≠ b.lastRead → b.flag = (a.flag || decide (a.view = a.lastRead)))
          ∧ (t.mode = .level ∧ b.view = b.lastRead ∧ t.latch = false → b.flag = false)
          ∧ (t.mode = .level ∧ b.view = b.lastRead ∧ t.latch = true → b.flag = a.flag)
          ∧ (t.mode = .rising → b.flag = (a.flag || level))
          ∧ (t.mode = .falling → b.flag = (a.flag || !level))
          ∧ (t.mode = .any → b.flag = true))
      ∧ (∀ k : Fin 32, k ≠ i → u.inputs[k] = s.inputs[k])
      ∧ (i.val < 16 → SameBut [.inputs, .feeders, .rst, .evr, .notices, .draws] s u)
      ∧ (16 ≤ i.val ∧ i.val < 28 → SameBut [.inputs, .gen, .evr, .notices, .draws] s u)
      ∧ (i.val = 28 →
          u.lnk = { s.lnk with isLocal := level }
            ∧ u.evr = (journal .locationChanged 0 (if level then 1 else 0) (setAdv .location s)).evr
            ∧ SameBut [.inputs, .lnk, .evr] s u)
      ∧ (28 < i.val → SameBut [.inputs] s u)

/-- READ_INPUTS replies with view and flag of every input as they stood; then every last-read value becomes the
view returned, every latched view is derived afresh from the debounced value, and every flag is cleared but that
of a LEVEL input whose view now differs (R29, R31). -/
def Obligations.ReadInputsReturnsAndRearmsTheViews : Prop :=
  ∀ (f : Frame) (s : State), Accepts .either f (f.len == 0) s →
    ∃ u, exec (.readInputs f) s = .next (withReply 0x0C f .ok (readInputsBody s) (conclude u))
      ∧ (∀ i : Fin 32,
          let a := s.inputs[i]
          let b := u.inputs[i]
          let t := s.settings.inputs[i]
          b.lastRead = a.view ∧ b.view = (if t.latch then a.debounced else a.view)
            ∧ b.flag = (decide (t.mode = .level) && b.view != a.view)
            ∧ b.debounced = a.debounced ∧ b.counter = a.counter ∧ b.prev = a.prev ∧ b.raw = a.raw)
      ∧ SameBut [.inputs] (superviseFrame f.link s) u

/-- MEASURE is applied whole, in list order: each named point takes its value, a set's or channel's value
clamped to 0..rated_kw, its age restarts and it is fresh; a point that is not named stands; one update notice
names the points; the reply counts the items and the stale points, and a clamp makes it OK_CLAMPED (R41 to R44).
A list with a code that names no point is refused BAD_INDEX (R41).
The tick of the table at which points become stale ages every point; the fresh ones that are then older than the timeout
become stale together, with MEAS_STALE and one stale notice that names them (R45, R46). That this tick is a command of its
own, and that the command changes nothing when no point would pass the timeout, are the model's choices (log 3). -/
def Obligations.PointsAreWrittenAndBecomeStale : Prop :=
  (∀ (f : Frame) (s : State) (items : List (PointRef × Int)), Accepts .either f (measureLength f) s →
      measureItems f = some items →
      ∃ u, exec (.measure f) s =
          .next (withReply 0x0E f (okStatus (measureClamps s items))
            (leBytes 1 items.length ++ leBytes 1 (staleCount (conclude u))) (conclude u))
        ∧ (∀ (pre post : List (PointRef × Int)) (k : Fin 16) (v : Int), items = pre ++ (.feeder k, v) :: post →
            (∀ x ∈ post, x.1 ≠ .feeder k) → u.meas.feeders[k] = { value := v, age := 0, stale := false })
        ∧ (∀ (pre post : List (PointRef × Int)) (g : Fin 4) (v : Int), items = pre ++ (.set g, v) :: post →
            (∀ x ∈ post, x.1 ≠ .set g) →
            u.meas.sets[g] = { value := max 0 (min (s.settings.sets[g].ratedKw : Int) v), age := 0, stale := false })
        ∧ (∀ (pre post : List (PointRef × Int)) (j : Fin 6) (v : Int), items = pre ++ (.channel j, v) :: post →
            (∀ x ∈ post, x.1 ≠ .channel j) →
            u.meas.channels[j] =
              { value := max 0 (min (s.settings.channels[j].ratedKw : Int) v), age := 0, stale := false })
        ∧ (∀ k : Fin 16, (∀ x ∈ items, x.1 ≠ .feeder k) → u.meas.feeders[k] = s.meas.feeders[k])
        ∧ (∀ g : Fin 4, (∀ x ∈ items, x.1 ≠ .set g) → u.meas.sets[g] = s.meas.sets[g])
        ∧ (∀ j : Fin 6, (∀ x ∈ items, x.1 ≠ .channel j) → u.meas.channels[j] = s.meas.channels[j])
        ∧ Announced [.rst, .gen, .cur] (fun c => .update c (namesOf (items.map (·.1)))) (superviseFrame f.link s) u
        ∧ SameBut [.meas, .notices, .draws] (superviseFrame f.link s) u)
    ∧ (∀ (f : Frame) (s : State), Accepts .either f (measureLength f) s →
        (∃ k < f.byte 0, PointRef.ofCode (f.byte (1 + 3 * k)) = none) →
        exec (.measure f) s = .next (withReply 0x0E f .badIndex [] (conclude (superviseFrame f.link s))))
    ∧ (∀ s : State, s.phase = .running →
        let aged := fun p : Point =>
          { p with
            age := min 65535 (p.age + 1)
            stale := p.stale || decide (s.settings.sys.measTimeoutMs < min 65535 (p.age + 1)) }
        ((goingStale s).isEmpty = true → exec .pointsBecomeStale s = .next (conclude s))
          ∧ ((goingStale s).isEmpty = false →
              ∃ u, exec .pointsBecomeStale s = .next (conclude u)
                ∧ (∀ k : Fin 16, u.meas.feeders[k] = aged s.meas.feeders[k]
                    ∧ (k ∈ (goingStale s).feeders ↔
                        s.meas.feeders[k].stale = false ∧ u.meas.feeders[k].stale = true))
                ∧ (∀ g : Fin 4, u.meas.sets[g] = aged s.meas.sets[g]
                    ∧ (g ∈ (goingStale s).sets ↔ s.meas.sets[g].stale = false ∧ u.meas.sets[g].stale = true))
                ∧ (∀ j : Fin 6, u.meas.channels[j] = aged s.meas.channels[j]
                    ∧ (j ∈ (goingStale s).channels ↔
                        s.meas.channels[j].stale = false ∧ u.meas.channels[j].stale = true))
                ∧ u.evr = (setAdv .measStale s).evr
                ∧ Announced [.rst, .gen, .cur] (fun c => .stale c (goingStale s)) s u
                ∧ SameBut [.meas, .evr, .notices, .draws] s u))

/-! ### Feeders -/

/-- OPERATE_FEEDER on a feeder whose position is to change begins the operation with the origin HOST, and the reply
carries the feeder's state and generation; nothing but that feeder's record changes before the notices, but that a
listed feeder which is closed leaves the stack (R54, R55, R62, R63, R97). A close of a feeder that failed to trip, or
an open of one that failed to close, finds it in position: it is answered OK, and the feeder stands in that position
again, its MAINTAINED line aligned (R54). OPERATE_FEEDER is turned away in the order of R63: a feeder above 15 or a
direction that is neither open nor close with BAD_INDEX, another generation with STALE, a feeder in flight or out of
service with WRONG_STATE; and a feeder already in the position asked for is answered OK. In all these cases nothing is
done. -/
def Obligations.OperateFeederFollowsItsChecks : Prop :=
  (∀ (fr : Frame) (f : Fin 16) (closing : Bool) (s : State), Accepts .operate fr (fr.len == 3) s →
      fr.byte 0 = f → fr.byte 1 = bit closing →
      fr.byte 2 = 255 ∨ fr.byte 2 = s.feeders[f].generation.toNat →
      let h := superviseFrame fr.link s
      ((if closing then s.feeders[f].state = .opened ∨ s.feeders[f].state = .failed .close
        else s.feeders[f].state = .closed ∨ s.feeders[f].state = .failed .trip) →
        ∃ u, exec (.operateFeeder fr) s = .next (withReply 0x20 fr .ok (feederReply f (conclude u)) (conclude u))
          ∧ OperationBegun (effectiveStyle s.settings f) s.settings.feeders[f] closing .host s.feeders[f] u.feeders[f]
          ∧ (∀ k : Fin 16, k ≠ f → u.feeders[k] = s.feeders[k])
          ∧ StackFollows f (closing = true) h u
          ∧ (listed s f = false ∨ closing = false →
              Announced [.shd, .rst, .blk]
                (fun c => .feeder c f s.feeders[f].state (if closing then .closing else .opening) .taken (some .host)
                  false) h u)
          ∧ SameBut [.feeders, .rst, .evr, .notices, .draws] h u)
        ∧ (s.feeders[f].state = (if closing then .failed .trip else .failed .close) →
            ∃ u, exec (.operateFeeder fr) s = .next (withReply 0x20 fr .ok (feederReply f (conclude u)) (conclude u))
              ∧ u.feeders[f] =
                  (let c := { s.feeders[f] with state := if closing then .closed else .opened }
                   if effectiveStyle s.settings f = .pulse then c
                   else { c with trip := false, close := closing, commanded := closing })
              ∧ (∀ k : Fin 16, k ≠ f → u.feeders[k] = s.feeders[k])
              ∧ StackFollows f (closing = true) h u
              ∧ (listed s f = false ∨ closing = false →
                  Announced [.shd, .rst, .blk]
                    (fun c => .feeder c f s.feeders[f].state (if closing then .closed else .opened) .acceptedPosition
                      s.feeders[f].origin false) h u)
              ∧ SameBut [.feeders, .rst, .evr, .notices, .draws] h u))
    ∧ (∀ (fr : Frame) (s : State), Accepts .operate fr (fr.len == 3) s →
        let h := superviseFrame fr.link s
        (16 ≤ fr.byte 0 ∨ 2 ≤ fr.byte 1 →
            exec (.operateFeeder fr) s = .next (withReply 0x20 fr .badIndex [] (conclude h)))
          ∧ (∀ f : Fin 16, fr.byte 0 = f → fr.byte 1 ≤ 1 →
              (fr.byte 2 ≠ 255 ∧ fr.byte 2 ≠ s.feeders[f].generation.toNat →
                  exec (.operateFeeder fr) s
                    = .next (withReply 0x20 fr .stale (feederReply f (conclude h)) (conclude h)))
                ∧ (fr.byte 2 = 255 ∨ fr.byte 2 = s.feeders[f].generation.toNat →
                    (s.feeders[f].state = .opening ∨ s.feeders[f].state = .closing
                        ∨ s.feeders[f].state = .outOfService →
                      exec (.operateFeeder fr) s
                        = .next (withReply 0x20 fr .wrongState (feederReply f (conclude h)) (conclude h)))
                      ∧ (s.feeders[f].state = (if fr.byte 1 = 1 then .closed else .opened) →
                          exec (.operateFeeder fr) s
                            = .next (withReply 0x20 fr .ok (feederReply f (conclude h)) (conclude h))))))

/-- The operate timer of an OPENING or CLOSING feeder expires: the feeder is FAILED in that direction, its lines are
left, TRIP_FAIL or CLOSE_FAIL is set, the record is added and the change announced (R57). -/
def Obligations.OperateTimerExpiryFailsTheFeeder : Prop :=
  ∀ (f : Fin 16) (s : State), s.phase = .running →
    s.feeders[f].state = .opening ∨ s.feeders[f].state = .closing →
    ∃ u, exec (.operateTimerExpiry f) s = .next (conclude u)
      ∧ (s.feeders[f].state = .opening →
          u.feeders[f] = { s.feeders[f] with state := .failed .trip, timer := .idle }
            ∧ u.evr = (journal .feederFailed f 0 (setProt .tripFail s)).evr
            ∧ Announced [.shd, .rst, .blk]
                (fun c => .feeder c f .opening (.failed .trip) .failed s.feeders[f].origin false) s u)
      ∧ (s.feeders[f].state = .closing →
          u.feeders[f] = { s.feeders[f] with state := .failed .close, timer := .idle }
            ∧ u.evr = (journal .feederFailed f 1 (setProt .closeFail s)).evr
            ∧ Announced [.shd, .rst, .blk]
                (fun c => .feeder c f .closing (.failed .close) .failed s.feeders[f].origin false) s u)
      ∧ (∀ k : Fin 16, k ≠ f → u.feeders[k] = s.feeders[k])
      ∧ SameBut [.feeders, .evr, .notices, .draws] s u

/-- A debounced change of a feeder's status: the OPERATED mark is set, an operation in flight is complete, a CLOSED,
OPEN or FAILED feeder follows the status with its record and, in MAINTAINED style, its line, and an OUT_OF_SERVICE
feeder keeps its state; a listed feeder that becomes CLOSED leaves the stack, its own record standing first (R56, R58,
R59, R60, R65, R97; the order of the records is log 11). -/
def Obligations.FeederStateFollowsItsStatus : Prop :=
  ∀ (f : Fin 16) (level : Bool) (s : State), s.phase = .running →
    (s.inputs[f.val]'(by omega)).debounced ≠ level → s.feeders[f].state ≠ stateOfStatus level →
    ∃ u, exec (.debouncedChange ⟨f.val, by omega⟩ level) s = .next (conclude u)
      ∧ u.feeders[f].operated = true
      ∧ (s.feeders[f].state = .opening →
          u.feeders[f] = { s.feeders[f] with state := .opened, timer := .idle, operated := true }
            ∧ u.rst = s.rst ∧ u.evr = s.evr)
      ∧ (s.feeders[f].state = .closing →
          u.feeders[f] = { s.feeders[f] with state := .closed, timer := .idle, operated := true }
            ∧ StackFollows f True s u)
      ∧ (s.feeders[f].state = .closed ∨ s.feeders[f].state = .opened →
          u.feeders[f].state = stateOfStatus level
            ∧ StackFollows f (level = true) (journal .feederExternal f (if level then 1 else 0) s) u)
      ∧ (∀ dir, s.feeders[f].state = .failed dir →
          u.feeders[f].state = stateOfStatus level
            ∧ StackFollows f (level = true) (journal .failureEnded f (if level then 1 else 0) s) u)
      ∧ (s.feeders[f].state ≠ .opening ∧ s.feeders[f].state ≠ .closing ∧ s.feeders[f].state ≠ .outOfService →
          (effectiveStyle s.settings f = .pulse →
              u.feeders[f].trip = s.feeders[f].trip ∧ u.feeders[f].close = s.feeders[f].close)
            ∧ (effectiveStyle s.settings f = .maintained →
                u.feeders[f].trip = false ∧ u.feeders[f].close = level ∧ u.feeders[f].commanded = level))
      ∧ (s.feeders[f].state = .outOfService →
          u.feeders[f] = { s.feeders[f] with operated := true } ∧ u.evr = s.evr ∧ u.notices = s.notices)
      ∧ (∀ k : Fin 16, k ≠ f → u.feeders[k] = s.feeders[k])
      ∧ SameBut [.inputs, .feeders, .rst, .evr, .notices, .draws] s u

/-- The timers that only end something: a pulse that runs out de-asserts its line (R35), the hold-off timer goes
idle (R82), a credit item leaves (R83); nothing else changes. That CREDIT_ITEM_EXPIRY acts without a test of the
item's time is the model's choice (log 3). -/
def Obligations.PulseHoldoffAndCreditExpire : Prop :=
  (∀ (f : Fin 16) (s : State), s.phase = .running → s.feeders[f].pulse.isRunning = true →
    ∃ u, exec (.pulseEnd f) s = .next (conclude u)
      ∧ u.feeders[f] = { s.feeders[f] with trip := false, close := false, pulse := .idle }
      ∧ (∀ k : Fin 16, k ≠ f → u.feeders[k] = s.feeders[k])
      ∧ SameBut [.feeders] s u)
    ∧ (∀ s : State, s.phase = .running → s.shd.holdoff.isRunning = true →
        ∃ u, exec .holdoffTimerExpiry s = .next (conclude u)
          ∧ u.shd = { s.shd with holdoff := .idle } ∧ SameBut [.shd] s u)
    ∧ (∀ (f : Fin 16) (s : State), s.phase = .running →
        ∃ u, exec (.creditItemExpiry f) s = .next (conclude u)
          ∧ (∀ c : CreditItem, c ∈ u.shd.credit ↔ c ∈ s.shd.credit ∧ c.feeder ≠ f)
          ∧ u.shd = { s.shd with credit := u.shd.credit } ∧ SameBut [.shd] s u)

/-! ### Load shedding -/

/-- The stage counts at a frequency value: a count increases, held at 255, at or below its threshold and is
zeroed above it; exactly the armed stages whose count has reached q then fire (R71, R72), and a disarmed one re-arms at
its margin (R74). A stage that fires in AUTO: it is disarmed and its count stands, every eligible feeder is asked to
open, a UF_SHED entry holds them, their credit items stand, the record carries the number tripped, and a start demand is
served; in MONITOR it is disarmed and reports, and no feeder is tripped and no entry pushed (R72, R73, R83, R88). The
shed unit's answer to a bus notice: at a value both functions take it, in either order; a break zeroes every count; an
entry into DEAD also ends the hold-off and empties both lists; the first value after a dead bus arms every stage (R70,
R84). -/
def Obligations.StagesCountFireAndTrip : Prop :=
  (∀ (f : Nat) (s : State) (i : Fin 4),
      (stageFunction f s).shd.counts[i] =
          (if f ≤ s.settings.stages.threshold[i] then min 255 (s.shd.counts[i] + 1) else 0)
        ∧ (s.shd.armed[i] = true →
            ((stageFunction f s).shd.armed[i] = false ↔
              s.settings.stages.q[i] ≤
                (if f ≤ s.settings.stages.threshold[i] then min 255 (s.shd.counts[i] + 1) else 0)))
        ∧ (s.shd.armed[i] = false →
            ((stageFunction f s).shd.armed[i] = true ↔
              s.settings.stages.threshold[i] + s.settings.stages.ufRearm ≤ f)))
    ∧ (∀ (f : Nat) (i : Fin 4) (s : State),
        let u := fireStage f i s
        let eligible := (List.finRange 16).filter fun k =>
          decide (s.feeders[k].state = .closed ∧ s.settings.feeders[k].shedRank ≠ 0
            ∧ s.settings.feeders[k].autoInhibit = false ∧ s.settings.feeders[k].ufStage = i.val + 1)
        let disarmed := { s with shd := { s.shd with armed := s.shd.armed.set i false } }
        u.shd.armed[i] = false ∧ u.shd.counts = s.shd.counts
          ∧ u.evr.protection.getLsbD (2 + i.val) = true
          ∧ (s.lnk.mode = .auto → eligible = [] →
              u = serveDemand 2 (journal .ufStageFired (i.val + 1) 0 (setProt (stageFlag i) disarmed)))
          ∧ (s.lnk.mode = .auto → eligible ≠ [] →
              (∀ k ∈ eligible,
                  OperationBegun (effectiveStyle s.settings k) s.settings.feeders[k] false .autoShed s.feeders[k]
                    u.feeders[k])
                ∧ ∃ v w : State, FeedersTripped .autoShed eligible disarmed v
                  ∧ w = push .ufShed (i.val + 1 : Nat) f (tripItems s eligible) v
                  ∧ u = serveDemand 2 (journal .ufStageFired (i.val + 1) eligible.length
                      (setProt (stageFlag i) { w with shd := { w.shd with credit := creditWith s eligible } })))
          ∧ (s.lnk.mode = .monitor → SameBut [.shd, .evr] s u
              ∧ u.shd = disarmed.shd
              ∧ u.evr = (journal .ufStageFired (i.val + 1) 0 (setProt (stageFlag i) s)).evr))
    ∧ (∀ (n : BusNotice) (s : State),
        let u := deliver (.bus .shd n) s
        let d := drawn s
        (∀ v, n.value = some v → n.brk = false → n.bus = .live →
            ∃ w, (w = rocofFunction v (stageFunction v.f d) ∨ w = stageFunction v.f (rocofFunction v d))
              ∧ (n.prev ≠ .live ∧ n.afterDead = true →
                  u = { w with shd := { w.shd with armed := Vector.replicate 4 true } })
              ∧ (n.prev = .live ∨ n.afterDead = false → u = w))
          ∧ (n.value = none → n.brk = true → n.bus ≠ .live →
              (∀ i : Fin 4, u.shd.counts[i] = 0) ∧ u.shd.qual = 0 ∧ u.shd.armed = s.shd.armed
                ∧ (n.bus = .dead ∧ n.prev ≠ .dead →
                    u.shd.holdoff = .idle ∧ u.shd.credit = [] ∧ u.shd.targets = [])
                ∧ (n.bus = .settling ∨ n.prev = .dead →
                    u.shd.holdoff = s.shd.holdoff ∧ u.shd.credit = s.shd.credit ∧ u.shd.targets = s.shd.targets)
                ∧ SameBut [.shd] s u)
          ∧ (n.value = none → n.brk = false → n.bus = .settling → u = s))

/-- The RoCoF function at a value with a RoCoF value and an imbalance estimate: the qualification count follows R76;
the function acts when the count stands at Qr with the hold-off timer idle, and then the count is 0 and the timer
starts. With T = -dP - R - C at or below 0 it reports cover and sheds nothing; in MONITOR a T above 0 is reported only,
with the number selected; in AUTO every feeder of the selection is tripped with the origin AUTO_SHED and stands on the
credit and target-trip lists with its load, a ROCOF_SHED entry holds them, flag and record are set and a start demand is
served; a short selection sets SHED_SHORT, and with no candidate that flag alone is set (R76 to R81, R83, R85, R88). The
selection is the shortest beginning of the candidates, in order of shed rank, whose loads reach T, or all of them (R79).
The supplement of a failed target trip, in AUTO on a LIVE bus while the feeder is listed, trips a selection for its load
and appends it to the entry that lists the feeder; else its record carries -1 (R86). -/
def Obligations.RocofFunctionShedsTheSelection : Prop :=
  (∀ (v : PresentValue) (r dP : Int) (s : State), v.r = some r → v.dP = some dP →
    let q := if r ≤ -(s.settings.stages.rocofTrip : Int) then min s.settings.stages.qr (s.shd.qual + 1) else 0
    let amount := -dP - fastReserve s - creditSum s
    let short := decide (((rocofCandidates s).map (effectiveLoad s)).sum < amount)
    let flagged := fun x : State => if short then setProt .shedShort x else x
    let counted := { s with shd := { s.shd with qual := q } }
    let ended := fun x : State =>
      { x with shd := { x.shd with qual := 0, holdoff := .running s.settings.stages.holdoffMs } }
    let u := rocofFunction v s
    (q ≠ s.settings.stages.qr ∨ s.shd.holdoff.isRunning = true → u = counted)
      ∧ (q = s.settings.stages.qr → s.shd.holdoff.isRunning = false →
          u.shd.qual = 0 ∧ u.shd.holdoff = .running s.settings.stages.holdoffMs
            ∧ u.shd.counts = s.shd.counts ∧ u.shd.armed = s.shd.armed
            ∧ (amount ≤ 0 → SameBut [.shd, .evr] s u
                ∧ u.evr = (journal .rocofCovered 0 amount (setProt .rocofCovered s)).evr)
            ∧ (0 < amount → s.lnk.mode = .monitor → SameBut [.shd, .evr] s u
                ∧ u.shd.credit = s.shd.credit ∧ u.shd.targets = s.shd.targets
                ∧ u.evr =
                    (journal .rocofShedMonitor (selection s amount).length amount
                      (flagged (setProt .rocofShed s))).evr)
            ∧ (0 < amount → s.lnk.mode = .auto → selection s amount = [] →
                u = ended (serveDemand 2 (journal .rocofShed 0 amount (setProt .shedShort counted))))
            ∧ (0 < amount → s.lnk.mode = .auto → selection s amount ≠ [] →
                (∀ k ∈ selection s amount,
                    OperationBegun (effectiveStyle s.settings k) s.settings.feeders[k] false .autoShed s.feeders[k]
                        u.feeders[k])
                  ∧ u.shd.credit = creditWith s (selection s amount)
                  ∧ u.shd.targets = targetsWith s (selection s amount)
                  ∧ ∃ x w : State, FeedersTripped .autoShed (selection s amount) counted x
                    ∧ w = push .rocofShed r v.f (tripItems s (selection s amount)) x
                    ∧ u = ended (serveDemand 2 (journal .rocofShed (selection s amount).length amount
                        (flagged (setProt .rocofShed
                          { w with
                            shd :=
                              { w.shd with
                                credit := creditWith s (selection s amount)
                                targets := targetsWith s (selection s amount) } })))))))
    ∧ (∀ (s : State) (amount : Int),
        (∃ rest, rocofCandidates s = selection s amount ++ rest
          ∧ (rest = [] ∨ amount ≤ ((selection s amount).map (effectiveLoad s)).sum))
          ∧ (∀ (front : List (Fin 16)) (last : Fin 16), selection s amount = front ++ [last] →
              (front.map (effectiveLoad s)).sum < amount)
          ∧ (∀ k : Fin 16, k ∈ rocofCandidates s ↔
              s.feeders[k].state = .closed ∧ 1 ≤ s.settings.feeders[k].shedRank
                ∧ s.settings.feeders[k].shedRank ≤ 15 ∧ s.settings.feeders[k].autoInhibit = false
                ∧ 0 < effectiveLoad s k)
          ∧ (rocofCandidates s).Pairwise fun a b =>
              s.settings.feeders[a].shedRank < s.settings.feeders[b].shedRank
                ∨ s.settings.feeders[a].shedRank = s.settings.feeders[b].shedRank ∧ a < b)
    ∧ (∀ (f : Fin 16) (before : FeederState) (origin : Option OpOrigin) (turn : Bool) (t : TargetItem) (s : State),
        s.shd.targets.find? (fun t => decide (t.feeder = f)) = some t →
        let left :=
          { s with
            shd :=
              { s.shd with
                credit := s.shd.credit.filter fun c => decide (c.feeder ≠ f)
                targets := s.shd.targets.filter fun t => decide (t.feeder ≠ f) } }
        let u := deliver (.feeder .shd f before (.failed .trip) .failed origin turn) s
        let fs := selection s t.snapshot
        let short := ((rocofCandidates s).map (effectiveLoad s)).sum < t.snapshot ∨ rocofCandidates s = []
        (s.lnk.mode = .monitor ∨ s.fmon.bus ≠ .live ∨ listed s f = false → u = journal .shedSupplement f (-1) left)
          ∧ (s.lnk.mode = .auto → s.fmon.bus = .live →
              ∀ (below above : List Entry) (e : Entry), s.rst.entries = below ++ e :: above →
                (∀ d ∈ below, d.lists f = false) → e.lists f = true →
                FeedersTripped .autoShed fs { s with shd := u.shd, rst := u.rst, evr := u.evr } u
                  ∧ u.rst =
                      { s.rst with entries := below ++ { e with items := e.items ++ tripItems s fs } :: above }
                  ∧ u.shd = { left.shd with credit := creditWith left fs, targets := targetsWith left fs }
                  ∧ (short →
                      u.evr = (journal .shedSupplement f fs.length (setProt .shedShort (setProt .rocofShed s))).evr)
                  ∧ (¬ short → u.evr = (journal .shedSupplement f fs.length (setProt .rocofShed s)).evr)))

/-- SHED trips the named CLOSED feeders, each at its first place in the list, with the origin MANUAL_SHED, and
pushes one entry that holds them; credit and target-trip lists stand; with no named feeder CLOSED it is refused
WRONG_STATE, and with a feeder above 15 BAD_INDEX (R87). -/
def Obligations.ShedTripsTheNamedFeeders : Prop :=
  ∀ (fr : Frame) (s : State), Accepts .operate fr (shedLength fr) s →
    let h := superviseFrame fr.link s
    ((∃ k < fr.byte 0, 16 ≤ fr.byte (1 + k)) → exec (.shed fr) s = .next (withReply 0x21 fr .badIndex [] (conclude h)))
      ∧ (∀ named : List (Fin 16), shedFeeders fr = some named →
          let closed := named.filter fun k => decide (s.feeders[k].state = .closed)
          (closed = [] → exec (.shed fr) s = .next (withReply 0x21 fr .wrongState [] (conclude h)))
            ∧ (closed ≠ [] →
                ∃ v u : State, exec (.shed fr) s =
                    .next (withReply 0x21 fr .ok (leBytes 1 closed.length ++ topPlace u) (conclude u))
                  ∧ FeedersTripped .manualShed closed h v
                  ∧ u = journal .manualShed fr.link.code closed.length
                      (push .manualShed fr.link.code ((presentFreq s).getD 0) (tripItems s closed) v)
                  ∧ u.shd = s.shd))

/-! ### The restore stack -/

/-- A push onto a stack of fewer than 8 entries places a new entry at the top; onto 8 entries it merges into the top
entry. The entry takes the next tag, which increments; the restore delay restarts, running while the mode is AUTO, the
bus LIVE, the present frequency within the band and no stage count above 0, and paused else; BLK and GEN learn of the
change, BLK before every other notice (R171); then the restorer re-establishes its target (R94, R95, R101). The place of
GEN's notice among those that wait is free (log 2), and a requested target that the push leaves standing is examined too
(the model's choice, log 45). -/
def Obligations.PushJoinsOrMergesAtTheTop : Prop :=
  ∀ (kind : EntryKind) (trigger : Int) (freq : Nat) (items : List StackItem) (s : State),
    ∃ v, push kind trigger freq items s = restorerTurn v
      ∧ v.rst.nextTag = s.rst.nextTag + 1
      ∧ v.rst.delay =
          (if s.lnk.mode = .auto ∧ s.fmon.bus = .live ∧ presentInBand s = true ∧ stageCountStands s = false then
             .running (1000 * s.settings.sys.restoreDelayS)
           else .paused (1000 * s.settings.sys.restoreDelayS))
      ∧ v.rst.interval = s.rst.interval ∧ v.rst.startDelay = s.rst.startDelay
      ∧ StackAnnounced s v
      ∧ SameBut [.rst, .evr, .notices, .draws] s v
      ∧ (s.rst.entries.length < 8 →
          v.rst.entries = s.rst.entries ++
              [{ tag := s.rst.nextTag, kind := kind, trigger := trigger, freq := freq, pushTime := s.time.part
                 items := items }]
            ∧ v.evr = s.evr)
      ∧ (∀ (below : List Entry) (top : Entry), s.rst.entries = below ++ [top] → below.length = 7 →
          v.rst.entries = below ++
              [{ top with
                  tag := s.rst.nextTag, kind := kind, trigger := trigger, freq := freq, pushTime := s.time.part
                  items := top.items ++ items, merged := true, requested := false }]
            ∧ v.evr = (journal .stackMerged s.rst.nextTag.toNat items.length (setProt .stackMerged s)).evr)

/-- The restorer with no interval running and no blocked episode. A due feeder whose generation has changed, which is
inhibited (automatic target only) or FAILED is skipped with its record and the first of these causes as code (log 13),
and the target is examined again (R104). A due feeder that every step lets pass is closed with the origin RESTORE: the
interval timer starts, the record carries its snapshot load, the feeder leaves its entry, which is RESTORING, and an
entry that is left empty goes (R97, R98, R103; the order of the two records is log 11). An automatic target waits for an
OPENING feeder, a LIVE bus in the band and the stage counts, and begins a blocked episode for want of reserve (R103,
R105); a requested target waits for an OPENING feeder and a LIVE bus alone, in any mode (R108). -/
def Obligations.RestorerClosesTheDueFeeder : Prop :=
  ∀ (s : State) (below above : List Entry) (e : Entry) (init : List StackItem) (x : StackItem), ListingLaw s →
    s.rst.interval = .idle → s.rst.entries = below ++ e :: above → e.items = init ++ [x] →
    (∀ d ∈ s.rst.entries, d.blocked = false) →
    let u := restorerTurn s
    let calm := { s with rst := { s.rst with startDelay := .idle } }
    let f := s.feeders[x.feeder]
    let known := f.generation = x.generation
    let inhibited := s.settings.feeders[x.feeder].autoInhibit = true
    let failed := f.state = .failed .trip ∨ f.state = .failed .close
    let skipped := fun code : Nat =>
      ∃ v, LeftTheStack x.feeder (journal .feederSkipped x.feeder code calm) v
        ∧ SameBut [.rst, .evr, .notices, .draws] s v ∧ u = restorerTurn v
    let closed :=
      OperationBegun (effectiveStyle s.settings x.feeder) s.settings.feeders[x.feeder] true .restore f
          u.feeders[x.feeder]
        ∧ (∀ k : Fin 16, k ≠ x.feeder → u.feeders[k] = s.feeders[k])
        ∧ u.rst.interval = .running s.settings.sys.restoreIntervalMs ∧ u.rst.startDelay = .idle
        ∧ (let noted := journal .feederRestored x.feeder x.snapshot s
           (init = [] → u.rst.entries = below ++ above
              ∧ u.evr = (journal .entryRemoved e.tag.toNat 0 (setAdv .entryRestored noted)).evr)
            ∧ (init ≠ [] → u.rst.entries = below ++ { e with restoring := true, items := init } :: above
                ∧ u.evr = noted.evr))
    let waits := u = calm
    (above = [] → s.lnk.mode = .auto → s.rst.delay = .expired → e.isHeader = false → e.hold = false →
        (∀ d ∈ s.rst.entries, d.requested = false) →
        (¬ known → skipped 1)
          ∧ (known → inhibited → skipped 2)
          ∧ (known → ¬ inhibited → failed → skipped 3)
          ∧ (known → ¬ inhibited → f.state = .opening → waits)
          ∧ (known → ¬ inhibited → f.state = .opened →
              s.fmon.bus ≠ .live ∨ presentInBand s = false ∨ stageCountStands s = true → waits)
          ∧ (known → ¬ inhibited → f.state = .opened → s.fmon.bus = .live → presentInBand s = true →
              stageCountStands s = false →
              (x.snapshot + s.settings.sys.srMin ≤ spinningReserve s → closed)
                ∧ (spinningReserve s < x.snapshot + s.settings.sys.srMin →
                    u.feeders = s.feeders
                      ∧ u.rst =
                          { s.rst with
                            startDelay := .running (1000 * s.settings.sys.restoreStartDelayS)
                            entries := below ++ [{ e with blocked := true }] }
                      ∧ u.evr =
                          (journal .restoreBlocked x.feeder (spinningReserve s) (setAdv .restoreBlocked s)).evr)))
      ∧ (e.requested = true → (∀ d ∈ below, d.requested = false) →
          (¬ known → skipped 1)
            ∧ (known → failed → skipped 3)
            ∧ (known → f.state = .opening → waits)
            ∧ (known → f.state = .opened → s.fmon.bus ≠ .live → waits)
            ∧ (known → f.state = .opened → s.fmon.bus = .live → closed))

/-- The expiries of the restore stack: the restore delay timer becomes expired and the interval timer idle, and the
restorer turns to its target (R101 to R103); the start-delay timer of a blocked episode delivers a start demand, adds
its record and restarts (R105). The notices to the restore stack: an entry into DEAD discards every entry but the
header, with its record, and idles the timers (R111), and its two stack notices take some place among those that wait
(R171; the order is free, log 2); another bus notice or a mode notice tests the delay conditions, and a value, a change
of bus state, a mode notice, an update, a stale notice and a feeder notice of the due feeder give the restorer its turn
(R101, R102, R106, R112). The turn at the notice of a feeder that has left the stack is log 9, and that a mode notice
examines a standing target too is the model's choice (log 45). -/
def Obligations.RestoreTimersExpire : Prop :=
  (∀ s : State, s.phase = .running → s.rst.delay.isRunning = true →
    exec .restoreDelayExpiry s
      = .next (conclude (restorerTurn { s with rst := { s.rst with delay := .expired } })))
    ∧ (∀ s : State, s.phase = .running → s.rst.interval.isRunning = true →
        exec .intervalTimerExpiry s
          = .next (conclude (restorerTurn { s with rst := { s.rst with interval := .idle } })))
    ∧ (∀ (s : State) (x : StackItem), s.phase = .running → s.rst.startDelay.isRunning = true →
        episodeStands s = true → dueItem s = some x →
        ∃ u, exec .startDelayTimerExpiry s = .next (conclude u)
          ∧ u.rst = { s.rst with startDelay := .running (1000 * s.settings.sys.restoreStartDelayS) }
          ∧ u.gen = (serveDemand 3 s).gen
          ∧ u.evr = (journal .restoreStartDemand x.feeder (spinningReserve s) (serveDemand 3 s)).evr
          ∧ SameBut [.rst, .gen, .evr, .notices, .draws] s u)
    ∧ (∀ (s : State),
        let conditions := s.lnk.mode = .auto ∧ s.fmon.bus = .live ∧ presentInBand s = true ∧ stageCountStands s = false
        let tested :=
          { s with rst := { s.rst with delay := if conditions then s.rst.delay.resume else s.rst.delay.pause } }
        (∀ n : BusNotice, n.reset = false →
            let u := deliver (.bus .rst n) s
            (n.bus = .dead ∧ n.prev ≠ .dead →
                u.rst =
                    { s.rst with
                      entries := s.rst.entries.filter Entry.isHeader, delay := .idle, interval := .idle
                      startDelay := .idle }
                  ∧ ((∀ e ∈ s.rst.entries, e.isHeader = true) → u.evr = s.evr ∧ u.notices = s.notices)
                  ∧ ((∃ e ∈ s.rst.entries, e.isHeader = false) →
                      u.evr = (journal .stackDiscarded 0 (s.rst.entries.countP fun e => !e.isHeader) s).evr
                        ∧ u.notices.Perm (.stack .blk :: .stack .gen :: s.notices)
                        ∧ s.notices.Sublist u.notices)
                  ∧ SameBut [.rst, .evr, .notices, .draws] s u)
              ∧ (n.bus ≠ .dead ∨ n.prev = .dead →
                  u = (if n.value.isSome ∨ n.bus ≠ n.prev then restorerTurn tested else tested)))
          ∧ (∀ m : Mode, deliver (.mode .rst m) s = restorerTurn tested)
          ∧ (∀ names : PointNames,
              deliver (.update .rst names) s = restorerTurn s ∧ deliver (.stale .rst names) s = restorerTurn s)
          ∧ (∀ (f : Fin 16) (before after : FeederState) (cause : FeederCause) (origin : Option OpOrigin) (turn : Bool),
              let u := deliver (.feeder .rst f before after cause origin turn) s
              (turn = true ∨ (∃ x, dueItem s = some x ∧ x.feeder = f) → u = restorerTurn s)
                ∧ (turn = false → (∀ x, dueItem s = some x → x.feeder ≠ f) → u = s)))

/-- The requests on entries. The entry checks of section 6.5: a position above 7 or above the top is BAD_INDEX, another
tag STALE with position and tag of the entry that stands there, an empty stack STACK_EMPTY; and the header is
WRONG_STATE. RESTORE_ENTRY makes its entry the requested target, and is refused WRONG_STATE while one stands, HELD for a
held entry and NO_BUS off a LIVE bus; HOLD_ENTRY and RELEASE_ENTRY change the hold flag, and change nothing when it
already stands so; DISCARD_ENTRY takes the entry out; each adds its record, and the restorer then re-establishes its
target, but for a hold of an entry below the top that is not the requested target, which has no effect until the entry
becomes the top (R107 to R110). That the request's record comes before those of the restorer is log 11, and that a
target which a request leaves standing is examined at it is the model's choice (log 45). The reply carries the entry's
position and tag after the request; the position of an entry that has itself left is the model's reading (log 30). -/
def Obligations.EntryRequestsActOnTheNamedEntry : Prop :=
  (∀ (fr : Frame) (pos : Nat) (e : Entry) (s : State), Accepts .operate fr (fr.len == 2) s →
    fr.byte 0 = pos → pos ≤ 7 → s.rst.entries[pos]? = some e → fr.byte 1 = e.tag.toNat → e.isHeader = false →
    let h := superviseFrame fr.link s
    let refused := fun st : Status => Host.Outcome.next (withReply 0x22 fr st [] (conclude h))
    let place := fun u : State => entryPlace pos e (conclude u)
    ((∃ d ∈ s.rst.entries, d.requested = true) → exec (.restoreEntry fr) s = refused .wrongState)
      ∧ ((∀ d ∈ s.rst.entries, d.requested = false) → e.hold = true → exec (.restoreEntry fr) s = refused .held)
      ∧ ((∀ d ∈ s.rst.entries, d.requested = false) → e.hold = false → s.fmon.bus ≠ .live →
          exec (.restoreEntry fr) s = refused .noBus)
      ∧ (e.hold = false → (∀ d ∈ s.rst.entries, d.requested = false) → s.fmon.bus = .live →
          ∃ v, exec (.restoreEntry fr) s =
              .next (withReply 0x22 fr .ok (place (restorerTurn v)) (conclude (restorerTurn v)))
            ∧ v.rst = { s.rst with entries := s.rst.entries.set pos { e with requested := true } }
            ∧ v.evr = (journal .restoreRequested e.tag.toNat fr.link.code h).evr ∧ SameBut [.rst, .evr] h v)
      ∧ (e.hold = false →
          ∃ v, (pos + 1 = s.rst.entries.length ∨ e.requested = true → exec (.holdEntry fr) s =
                .next (withReply 0x23 fr .ok (place (restorerTurn v)) (conclude (restorerTurn v))))
            ∧ (pos + 1 ≠ s.rst.entries.length → e.requested = false → exec (.holdEntry fr) s =
                .next (withReply 0x23 fr .ok (place v) (conclude v)))
            ∧ v.rst = { s.rst with entries := s.rst.entries.set pos { e with hold := true, requested := false } }
            ∧ v.evr = (journal .entryHeld e.tag.toNat fr.link.code h).evr ∧ SameBut [.rst, .evr] h v)
      ∧ (e.hold = true → exec (.holdEntry fr) s = .next (withReply 0x23 fr .ok (place h) (conclude h)))
      ∧ (e.hold = true →
          ∃ v, exec (.releaseEntry fr) s =
              .next (withReply 0x24 fr .ok (place (restorerTurn v)) (conclude (restorerTurn v)))
            ∧ v.rst = { s.rst with entries := s.rst.entries.set pos { e with hold := false } }
            ∧ v.evr = (journal .entryReleased e.tag.toNat fr.link.code h).evr ∧ SameBut [.rst, .evr] h v)
      ∧ (e.hold = false → exec (.releaseEntry fr) s = .next (withReply 0x24 fr .ok (place h) (conclude h)))
      ∧ ∃ v, exec (.discardEntry fr) s =
            .next (withReply 0x25 fr .ok [BitVec.ofNat 8 pos, e.tag] (conclude (restorerTurn v)))
          ∧ v.rst = { s.rst with entries := s.rst.entries.eraseIdx pos }
          ∧ v.evr = (journal .entryRemoved e.tag.toNat 1 h).evr
          ∧ StackAnnounced h v ∧ SameBut [.rst, .evr, .notices, .draws] h v)
    ∧ (∀ (c : Instr) (kind : Byte) (fr : Frame) (s : State), Accepts .operate fr (fr.len == 2) s →
        (c, kind) ∈ [(Instr.restoreEntry fr, (0x22 : Byte)), (.holdEntry fr, 0x23), (.releaseEntry fr, 0x24),
          (.discardEntry fr, 0x25)] →
        let h := superviseFrame fr.link s
        let refused := fun (st : Status) (body : List Byte) => Host.Outcome.next (withReply kind fr st body (conclude h))
        (7 < fr.byte 0 → exec c s = refused .badIndex [])
          ∧ (fr.byte 0 ≤ 7 → s.rst.entries = [] → exec c s = refused .stackEmpty [])
          ∧ (s.rst.entries ≠ [] → s.rst.entries.length ≤ fr.byte 0 → exec c s = refused .badIndex [])
          ∧ (∀ e, fr.byte 0 ≤ 7 → s.rst.entries[fr.byte 0]? = some e →
              (fr.byte 1 ≠ e.tag.toNat → exec c s = refused .stale [BitVec.ofNat 8 (fr.byte 0), e.tag])
                ∧ (fr.byte 1 = e.tag.toNat → e.isHeader = true → exec c s = refused .wrongState [])))

/-! ### Generating sets -/

/-- START_GENSET on a set in STANDBY: attempt count and lockout cause are cleared and the origin becomes HOST; a set
whose RUNNING reads true runs up, another takes the free permit and cranks, or joins the back of the queue while the
permit is held; its RUN line is asserted, and CRANK while it cranks. In any other state it is refused WRONG_STATE, and
a set above 3 is refused BAD_INDEX (R117, R119, R120, R138). -/
def Obligations.StartGensetStartsAStandbySet : Prop :=
  (∀ (fr : Frame) (s : State), Accepts .operate fr (fr.len == 1) s → 4 ≤ fr.byte 0 →
    exec (.startGenset fr) s = .next (withReply 0x26 fr .badIndex [] (conclude (superviseFrame fr.link s))))
  ∧ ∀ (fr : Frame) (g : Fin 4) (s : State), Accepts .operate fr (fr.len == 1) s → fr.byte 0 = g → CrankLaw s →
    let h := superviseFrame fr.link s
    (s.gen.sets[g].state ≠ .standby →
        exec (.startGenset fr) s = .next (withReply 0x26 fr .wrongState (setReply g (conclude h)) (conclude h)))
      ∧ (s.gen.sets[g].state = .standby →
          ∃ u, exec (.startGenset fr) s = .next (withReply 0x26 fr .ok (setReply g (conclude u)) (conclude u))
            ∧ (let c := u.gen.sets[g]
               let t := s.settings.sets[g]
               c.origin = .host ∧ c.lockout = 0 ∧ c.run = true
                ∧ (setRunning s g = true →
                    c.attempts = 0 ∧ c.crank = false
                      ∧ (t.runupMs = 0 → c.state = .syncing ∧ c.timer = .running t.syncTimeoutMs)
                      ∧ (t.runupMs ≠ 0 → c.state = .runUp ∧ c.timer = .running t.runupMs))
                ∧ (setRunning s g = false ∧ s.gen.permit = none →
                    c.attempts = 1 ∧ c.state = .cranking ∧ c.timer = .running t.crankOnMs ∧ c.crank = true
                      ∧ u.gen.permit = some g ∧ u.gen.queue = [])
                ∧ (setRunning s g = false ∧ s.gen.permit ≠ none →
                    c.attempts = 0 ∧ c.state = .waitCrank ∧ c.crank = false
                      ∧ u.gen.permit = s.gen.permit ∧ u.gen.queue = s.gen.queue ++ [g]))
            ∧ (∀ k : Fin 4, k ≠ g → u.gen.sets[k] = s.gen.sets[k])
            ∧ u.evr = (journal .setStart g 2 (setAdv .genState h)).evr
            ∧ SameBut [.gen, .evr, .notices, .draws] h u)

/-- STOP_GENSET by the state of the set: an ONLINE set unloads with OPEN_REQ asserted and the unload timer started,
a starting set is stopped into STANDBY or UNAVAILABLE with its lines released, an UNLOADING or COOLDOWN set only
takes the origin, and a resting or locked-out set is refused WRONG_STATE, a set above 3 BAD_INDEX (R123, R127,
R138). -/
def Obligations.StopGensetStopsBySetState : Prop :=
  (∀ (fr : Frame) (s : State), Accepts .operate fr (fr.len == 1) s → 4 ≤ fr.byte 0 →
    exec (.stopGenset fr) s = .next (withReply 0x27 fr .badIndex [] (conclude (superviseFrame fr.link s))))
  ∧ ∀ (fr : Frame) (g : Fin 4) (s : State), Accepts .operate fr (fr.len == 1) s → fr.byte 0 = g →
    let h := superviseFrame fr.link s
    (s.gen.sets[g].state.stoppable = false →
        exec (.stopGenset fr) s = .next (withReply 0x27 fr .wrongState (setReply g (conclude h)) (conclude h)))
      ∧ (s.gen.sets[g].state.stoppable = true →
          ∃ u, exec (.stopGenset fr) s = .next (withReply 0x27 fr .ok (setReply g (conclude u)) (conclude u))
            ∧ (s.gen.sets[g].state = .online →
                u.gen.sets[g].state = .unloading ∧ u.gen.sets[g].origin = .host
                  ∧ u.gen.sets[g].timer = .running s.settings.sets[g].unloadTimeoutMs
                  ∧ u.gen.sets[g].openReq = true ∧ u.gen.sets[g].run = true
                  ∧ u.evr = (journal .setStop g 2 (setAdv .genState h)).evr)
            ∧ (s.gen.sets[g].state.starting = true →
                u.gen.sets[g].state =
                    (if setReady s g && s.settings.sets[g].inService then .standby else .unavailable)
                  ∧ u.gen.sets[g].origin = .none ∧ u.gen.sets[g].timer = .idle
                  ∧ u.gen.sets[g].run = false ∧ u.gen.sets[g].crank = false ∧ u.gen.sets[g].syncPermit = false
                  ∧ g ∉ u.gen.queue ∧ u.gen.permit ≠ some g)
            ∧ (s.gen.sets[g].state = .unloading ∨ s.gen.sets[g].state = .cooldown →
                u.gen.sets[g] = { s.gen.sets[g] with origin := .host } ∧ u.evr = h.evr
                  ∧ u.notices = s.notices)
            ∧ SameBut [.gen, .evr, .notices, .draws] h u)

/-- RESET_LOCKOUT on a set in LOCKED_OUT clears the cause; a set whose breaker reads closed comes ONLINE with the
origin HOST, another rests in STANDBY or UNAVAILABLE with RUN, CRANK, SYNC_PERMIT and OPEN_REQ released, as Table 7-4
has them in ONLINE too but for RUN; in any other state it is refused WRONG_STATE, and a set above 3 is refused
BAD_INDEX (R117, R130). -/
def Obligations.ResetLockoutReleasesTheSet : Prop :=
  (∀ (fr : Frame) (s : State), Accepts .operate fr (fr.len == 1) s → 4 ≤ fr.byte 0 →
    exec (.resetLockout fr) s = .next (withReply 0x28 fr .badIndex [] (conclude (superviseFrame fr.link s))))
  ∧ ∀ (fr : Frame) (g : Fin 4) (s : State), Accepts .operate fr (fr.len == 1) s → fr.byte 0 = g →
    let h := superviseFrame fr.link s
    (s.gen.sets[g].state ≠ .lockedOut →
        exec (.resetLockout fr) s = .next (withReply 0x28 fr .wrongState [] (conclude h)))
      ∧ (s.gen.sets[g].state = .lockedOut →
          ∃ u, exec (.resetLockout fr) s = .next (withReply 0x28 fr .ok (setReply g (conclude u)) (conclude u))
            ∧ u.gen.sets[g].lockout = 0 ∧ u.gen.sets[g].timer = .idle
            ∧ u.gen.sets[g].crank = false ∧ u.gen.sets[g].syncPermit = false ∧ u.gen.sets[g].openReq = false
            ∧ (setBreaker s g = true →
                u.gen.sets[g].state = .online ∧ u.gen.sets[g].origin = .host ∧ u.gen.sets[g].run = true)
            ∧ (setBreaker s g = false →
                u.gen.sets[g].state =
                    (if setReady s g && s.settings.sets[g].inService then .standby else .unavailable)
                  ∧ u.gen.sets[g].origin = .none ∧ u.gen.sets[g].run = false)
            ∧ (∀ k : Fin 4, k ≠ g → u.gen.sets[k] = s.gen.sets[k])
            ∧ SameBut [.gen, .evr, .notices, .draws] h u)

/-- The crank timers: a pulse that runs out without RUNNING locks the set out with cause 1 at its last attempt and
else rests it, the permit going to the head of the queue; a rest that runs out puts the set back into the queue, or
straight to a free permit (R120 to R122). -/
def Obligations.CrankTimersExpire : Prop :=
  (∀ (g : Fin 4) (s : State), s.phase = .running → CrankLaw s → s.gen.sets[g].state = .cranking →
    ∃ u, exec (.crankOnTimeExpiry g) s = .next (conclude u)
      ∧ (s.settings.sets[g].crankAttempts ≤ s.gen.sets[g].attempts →
          u.gen.sets[g].state = .lockedOut ∧ u.gen.sets[g].lockout = 1 ∧ u.gen.sets[g].timer = .idle)
      ∧ (s.gen.sets[g].attempts < s.settings.sets[g].crankAttempts →
          u.gen.sets[g].state = .crankRest
            ∧ u.gen.sets[g].timer = .running s.settings.sets[g].crankRestMs)
      ∧ u.gen.permit = s.gen.queue.head? ∧ u.gen.queue = s.gen.queue.tail
      ∧ (∀ k : Fin 4, s.gen.queue.head? = some k →
          u.gen.sets[k].state = .cranking ∧ u.gen.sets[k].attempts = s.gen.sets[k].attempts + 1
            ∧ u.gen.sets[k].timer = .running s.settings.sets[k].crankOnMs)
      ∧ SameBut [.gen, .evr, .notices, .draws] s u)
    ∧ (∀ (g : Fin 4) (s : State), s.phase = .running → CrankLaw s → s.gen.sets[g].state = .crankRest →
        ∃ u, exec (.crankRestExpiry g) s = .next (conclude u)
          ∧ (s.gen.permit = none →
              u.gen.sets[g].state = .cranking ∧ u.gen.sets[g].attempts = s.gen.sets[g].attempts + 1
                ∧ u.gen.permit = some g ∧ u.gen.queue = [])
          ∧ (s.gen.permit ≠ none →
              u.gen.sets[g].state = .waitCrank ∧ u.gen.permit = s.gen.permit
                ∧ u.gen.queue = s.gen.queue ++ [g])
          ∧ SameBut [.gen, .evr, .notices, .draws] s u)

/-- The other expiries of a set: a run-up ends in SYNCING, a sync timeout in LOCKED_OUT with cause 3, an unload
timeout in LOCKED_OUT with cause 6, a cooldown in STANDBY or UNAVAILABLE; and each tenth of an hour run adds one to
the runtime, held at 999,999 (R124, R128, R130, R132). That RUNTIME_TENTH_HOUR acts without a test of the part-hour
count is the model's choice (log 3). -/
def Obligations.SetTimersExpire : Prop :=
  ∀ (g : Fin 4) (s : State), s.phase = .running →
    (s.gen.sets[g].state = .runUp →
        ∃ u, exec (.runUpExpiry g) s = .next (conclude u)
          ∧ u.gen.sets[g].state = .syncing ∧ u.gen.sets[g].timer = .running s.settings.sets[g].syncTimeoutMs
          ∧ SameBut [.gen, .notices, .draws] s u)
      ∧ (s.gen.sets[g].state = .syncing →
          ∃ u, exec (.syncTimeout g) s = .next (conclude u)
            ∧ u.gen.sets[g].state = .lockedOut ∧ u.gen.sets[g].lockout = 3 ∧ u.gen.grant ≠ some g
            ∧ SameBut [.gen, .evr, .notices, .draws] s u)
      ∧ (s.gen.sets[g].state = .unloading →
          ∃ u, exec (.unloadTimeout g) s = .next (conclude u)
            ∧ u.gen.sets[g].state = .lockedOut ∧ u.gen.sets[g].lockout = 6
            ∧ SameBut [.gen, .evr, .notices, .draws] s u)
      ∧ (s.gen.sets[g].state = .cooldown →
          ∃ u, exec (.cooldownExpiry g) s = .next (conclude u)
            ∧ u.gen.sets[g].state =
                (if setReady s g && s.settings.sets[g].inService then .standby else .unavailable)
            ∧ u.gen.sets[g].timer = .idle ∧ u.gen.sets[g].origin = .none
            ∧ u.evr = (journal .setStopped g 0 (setAdv .genState s)).evr
            ∧ SameBut [.gen, .evr, .notices, .draws] s u)
      ∧ ∃ u, exec (.runtimeTenthHour g) s = .next (conclude u)
          ∧ u.settings.sets[g] =
              { s.settings.sets[g] with runtime := min 999999 (s.settings.sets[g].runtime + 1) }
          ∧ (∀ k : Fin 4, k ≠ g → u.settings.sets[k] = s.settings.sets[k])
          ∧ u.settings = { s.settings with sets := u.settings.sets }
          ∧ u.gen.sets[g] = { s.gen.sets[g] with partHour := 0 }
          ∧ (∀ k : Fin 4, k ≠ g → u.gen.sets[k] = s.gen.sets[k])
          ∧ SameBut [.settings, .gen] s u

/-- The inputs of a set: RUNNING ends a crank, a rest or a wait with a run-up and its fall locks a set out with cause
2 or 5; the breaker's closing brings a set ONLINE, its opening locks an ONLINE set out with cause 4 and ends an
unloading; READY admits a resting set, and its fall withdraws it or aborts its start (R118, R121 to R124, R126,
R128, R130). -/
def Obligations.SetInputsMoveTheSet : Prop :=
  ∀ (g : Fin 4) (s : State), s.phase = .running →
    let st := s.gen.sets[g].state
    let t := s.settings.sets[g]
    (∀ level : Bool, setRunning s g ≠ level →
        ∃ u, exec (.debouncedChange ⟨20 + g.val, by omega⟩ level) s = .next (conclude u)
          ∧ (level = true → st = .waitCrank ∨ st = .cranking ∨ st = .crankRest →
              u.gen.sets[g].state = (if t.runupMs = 0 then .syncing else .runUp) ∧ g ∉ u.gen.queue
                ∧ u.gen.permit ≠ some g)
          ∧ (level = false → st = .runUp ∨ st = .syncing →
              u.gen.sets[g].state = .lockedOut ∧ u.gen.sets[g].lockout = 2)
          ∧ (level = false → st = .online ∨ st = .unloading →
              u.gen.sets[g].state = .lockedOut ∧ u.gen.sets[g].lockout = 5)
          ∧ (level = false → st = .cooldown →
              u.gen.sets[g].state = (if setReady s g && t.inService then .standby else .unavailable)))
      ∧ (∀ level : Bool, setBreaker s g ≠ level →
          ∃ u, exec (.debouncedChange ⟨24 + g.val, by omega⟩ level) s = .next (conclude u)
            ∧ (level = true → st ≠ .online → st ≠ .unloading →
                u.gen.sets[g].state = .online ∧ u.gen.sets[g].timer = .idle)
            ∧ (level = false → st = .online →
                u.gen.sets[g].state = .lockedOut ∧ u.gen.sets[g].lockout = 4)
            ∧ (level = false → st = .unloading →
                u.gen.sets[g].state =
                  (if t.cooldownMs = 0 then
                     (if setReady s g && t.inService then .standby else .unavailable)
                   else .cooldown)))
      ∧ (∀ level : Bool, setReady s g ≠ level →
          ∃ u, exec (.debouncedChange ⟨16 + g.val, by omega⟩ level) s = .next (conclude u)
            ∧ (level = true → st = .unavailable → t.inService = true → u.gen.sets[g].state = .standby)
            ∧ (level = false → st = .standby → u.gen.sets[g].state = .unavailable)
            ∧ (level = false → st = .waitCrank ∨ st = .cranking ∨ st = .crankRest →
                u.gen.sets[g].state = .unavailable ∧ g ∉ u.gen.queue ∧ u.gen.permit ≠ some g)
            ∧ (st = .runUp ∨ st = .syncing ∨ st = .online ∨ st = .unloading ∨ st = .cooldown
                ∨ st = .lockedOut → u.gen = s.gen))

/-- Automatic dispatch: the expiry of the low-reserve timer serves a demand and restarts the timer, the expiry of the
stop timer stops the lag set and leaves the timer idle; while the black-start sequencer is RUNNING or HELD, a demand
starts nothing and both timers stand idle (R135 to R137). The dispatcher tests the conditions of both timers at a bus
notice with a change of bus state, at every set and stack notice, at an update or stale notice that names a set point,
and at a mode notice; a timer starts when an idle one finds its condition, and goes idle when a running one misses it
(R136, R137). A change to MONITOR first aborts every automatic start and releases its lines (R129). -/
def Obligations.DispatchTimersExpire : Prop :=
  (∀ s : State, s.phase = .running → s.gen.lowReserve.isRunning = true →
    ∃ u, exec .lowReserveTimerExpiry s = .next (conclude u)
      ∧ u.gen = { (serveDemand 1 s).gen with lowReserve := .running (1000 * s.settings.sys.startDelayS) }
      ∧ SameBut [.gen] (serveDemand 1 s) u)
    ∧ (∀ (s : State) (g : Fin 4), s.phase = .running → s.gen.stopTimer.isRunning = true → lagSet s = some g →
        ∃ u, exec .stopTimerExpiry s = .next (conclude u)
          ∧ u.gen.stopTimer = .idle ∧ u.gen.sets[g].state = .unloading ∧ u.gen.sets[g].origin = .auto
          ∧ u.evr = (journal .setStop g 1 (setAdv .genState s)).evr
          ∧ (∀ k : Fin 4, k ≠ g → u.gen.sets[k] = s.gen.sets[k])
          ∧ SameBut [.gen, .evr, .notices, .draws] s u)
    ∧ (∀ (s : State) (g : Fin 4), dispatchActive s = true → autoStart s = none → dispatchLead s = some g →
        s.gen.sets[g].state = .standby ∧ ∀ source, serveDemand source s = (startSet g .auto s).1)
    ∧ (∀ s : State, blkActive s = true →
        (∀ source, serveDemand source s = s)
          ∧ (evalDispatch s).gen.lowReserve = .idle ∧ (evalDispatch s).gen.stopTimer = .idle
          ∧ SameBut [.gen] s (evalDispatch s))
    ∧ (∀ s : State,
        let u := evalDispatch s
        let active := s.lnk.mode = .auto ∧ blkActive s = false ∧ s.fmon.bus = .live
        let low := active ∧ spinningReserve s < s.settings.sys.srMin
        let stop := active ∧ 2 ≤ ((List.finRange 4).filter fun g =>
            decide (s.gen.sets[g].state = .online) && s.settings.sets[g].inService).length
          ∧ s.rst.entries = []
          ∧ (∀ g : Fin 4, s.gen.sets[g].state.starting = false ∧ s.gen.sets[g].state ≠ .unloading)
          ∧ ∃ g, lagSet s = some g
            ∧ (s.settings.sys.srMin + s.settings.sys.stopMargin : Int) ≤ spinningReserve s - s.settings.sets[g].ratedKw
        u.gen = { s.gen with lowReserve := u.gen.lowReserve, stopTimer := u.gen.stopTimer } ∧ SameBut [.gen] s u
          ∧ (low → u.gen.lowReserve =
              if s.gen.lowReserve.isRunning then s.gen.lowReserve else .running (1000 * s.settings.sys.startDelayS))
          ∧ (¬ low → u.gen.lowReserve = .idle)
          ∧ (stop → u.gen.stopTimer =
              if s.gen.stopTimer.isRunning then s.gen.stopTimer else .running (1000 * s.settings.sys.stopDelayS))
          ∧ (¬ stop → u.gen.stopTimer = .idle))
    ∧ (∀ s : State,
        (∀ n : BusNotice, deliver (.bus .gen n) s = if n.bus = n.prev then s else evalDispatch s)
          ∧ (∀ (g : Fin 4) (before after : SetState) (cause : SetCause) (origin : SetOrigin),
              deliver (.set .gen g before after cause origin) s = evalDispatch s)
          ∧ deliver (.stack .gen) s = evalDispatch s
          ∧ (∀ names : PointNames,
              deliver (.update .gen names) s = (if names.sets = [] then s else evalDispatch s)
                ∧ deliver (.stale .gen names) s = (if names.sets = [] then s else evalDispatch s))
          ∧ deliver (.mode .gen .auto) s = evalDispatch s)
    ∧ (∀ s : State, CrankLaw s →
        let u := deliver (.mode .gen .monitor) s
        (∀ g : Fin 4, s.gen.sets[g].origin = .auto → s.gen.sets[g].state.starting = true →
            u.gen.sets[g].state =
                (if setReady s g && s.settings.sets[g].inService then .standby else .unavailable)
              ∧ u.gen.sets[g].origin = .none ∧ u.gen.sets[g].crank = false ∧ u.gen.sets[g].run = false
              ∧ u.gen.sets[g].syncPermit = false ∧ u.gen.sets[g].openReq = false)
          ∧ ((∀ g : Fin 4, s.gen.sets[g].origin = .auto → s.gen.sets[g].state.starting = false) → u = evalDispatch s)
          ∧ SameBut [.gen, .evr, .notices, .draws] s u)

/-! ### Photovoltaic channels -/

/-- The ramp tick: in AUTO an in-service channel whose target stands above its limit rises by the whole kilowatts of
its ramp sum, the tenths being kept, and stops at the target; every other channel stands, and in MONITOR all do
(R151, R153). -/
def Obligations.RampTickRaisesTheLimits : Prop :=
  ∀ s : State, s.phase = .running →
    ∃ u, exec .rampTick s = .next (conclude u)
      ∧ (∀ j : Fin 6,
          let c := s.cur.channels[j]
          let t := s.settings.channels[j]
          let target := pvTarget s j
          let sum := c.remainder + t.rampUp
          (s.lnk.mode = .monitor ∨ t.inService = false ∨ target ≤ c.limit → u.cur.channels[j] = c)
            ∧ (s.lnk.mode = .auto → t.inService = true → c.limit < target →
                (target < c.limit + (sum / 10 : Nat) →
                    u.cur.channels[j].limit = target ∧ u.cur.channels[j].remainder = 0)
                  ∧ (c.limit + (sum / 10 : Nat) ≤ target →
                      u.cur.channels[j].limit = c.limit + (sum / 10 : Nat)
                        ∧ u.cur.channels[j].remainder = sum % 10)
                  ∧ u.cur.channels[j].pwm =
                      { c.pwm with pending := dutyOf u.cur.channels[j].limit t.ratedKw }))
      ∧ SameBut [.cur] s u

/-- The PWM generator: a period start takes the pending duty, the period length and the polarity of the settings,
and the active level begins unless the duty is 0; the active level ends after present duty × pwm_period_ms × 10
ticks, but not within the period at a duty of 1,000; the duty is the limit in per mille of the rating, truncated and
held to 0..1,000 (R154, R155). -/
def Obligations.PwmPeriodsFollowTheDuty : Prop :=
  (∀ (j : Fin 6) (s : State), s.phase = .running →
    let p := s.cur.channels[j].pwm
    let t := s.settings.channels[j]
    (∃ u, exec (.pwmPeriodStart j) s = .next (conclude u)
        ∧ u.cur.channels[j] =
            { s.cur.channels[j] with
              pwm :=
                { present := p.pending, pending := p.pending, pos := 0, periodMs := t.pwmPeriodMs,
                  inverted := t.inverted, active := decide (0 < p.pending) } }
        ∧ (∀ k : Fin 6, k ≠ j → u.cur.channels[k] = s.cur.channels[k])
        ∧ SameBut [.cur] s u)
      ∧ ∃ u, exec (.pwmActiveLevelEnd j) s = .next (conclude u)
          ∧ (p.present < 1000 →
              u.cur.channels[j] = { s.cur.channels[j] with pwm := { p with active := false } })
          ∧ (1000 ≤ p.present → u = s)
          ∧ (∀ k : Fin 6, k ≠ j → u.cur.channels[k] = s.cur.channels[k])
          ∧ SameBut [.cur] s u)
    ∧ (∀ (j : Fin 6) (s : State),
        (Instr.pwmActiveLevelEnd j ∈ dueOfChannel s j ↔
          s.cur.channels[j].pwm.active = true ∧ s.cur.channels[j].pwm.present < 1000
            ∧ s.cur.channels[j].pwm.present * s.cur.channels[j].pwm.periodMs * 10 ≤ s.cur.channels[j].pwm.pos)
          ∧ (Instr.pwmPeriodStart j ∈ dueOfChannel s j ↔
              s.cur.channels[j].pwm.periodMs * 10000 ≤ s.cur.channels[j].pwm.pos))
    ∧ (∀ limit rated : Nat, 0 < rated → limit ≤ rated →
        dutyOf limit rated = limit * 1000 / rated ∧ dutyOf limit rated ≤ 1000)

/-- At every recomputation of the targets, a target at or below the limit applies at once in AUTO and a higher one
leaves the limit to the ramp; in MONITOR the limit is the effective ceiling, and 0 on a DEAD bus. The target is 0 for
a channel out of service and, in AUTO, while the zero hold stands; else it is the smallest of the ceiling and, in
AUTO, the droop limit and the share that are present (R142, R150, R152, R153). A change of ceilings or shares reaches
each channel of which an input of the ceiling or the share has changed, and no other (log 41); a bus notice that
changes a droop limit, begins or ends an episode, or moves the zero hold reaches every channel (R146, R147, R152). The
figures of the constraints: a droop limit lies between 0 and its reference, equals it up to the onset and is 0 from
the full band on; the minimum-load shares of all channels together never exceed max(0, A), and there is none while no
set is ONLINE (R146, R148). The curtailment unit's answers: a value begins a droop episode above the onset, freezing
the references, and ends it 50 mHz below; an entry into DEAD ends it and sets the zero hold, one into LIVE clears the
hold (R145, R147, R152); a set notice into or out of ONLINE and an update of a set or channel point recompute the
shares, which are frozen while the output of an ONLINE set is stale (R148, R149). -/
def Obligations.ConstraintsGiveTheTargetsAndLimits : Prop :=
  (∀ (old s : State) (j : Fin 6),
      let c := s.cur.channels[j]
      let t := s.settings.channels[j]
      let base : Int := if c.latch then t.fallbackCeiling else t.hostCeiling
      let ceiling : Int :=
        if t.inService then
          (if s.cur.seqActive then min base (t.ratedKw * c.release / 100 : Nat) else base)
        else 0
      let d := (applyTargets s).cur.channels[j]
      effectiveCeiling s j = ceiling
        ∧ (t.inService = false → pvTarget s j = 0)
        ∧ (t.inService = true → s.lnk.mode = .monitor → pvTarget s j = ceiling)
        ∧ (t.inService = true → s.lnk.mode = .auto → s.cur.zeroHold = true → pvTarget s j = 0)
        ∧ (t.inService = true → s.lnk.mode = .auto → s.cur.zeroHold = false →
            pvTarget s j = min (min ceiling (c.droopLimit.getD ceiling)) (c.share.getD ceiling))
        ∧ (s.lnk.mode = .auto → pvTarget s j ≤ c.limit → d.limit = pvTarget s j ∧ d.remainder = 0)
        ∧ (s.lnk.mode = .auto → c.limit < pvTarget s j → d.limit = c.limit ∧ d.remainder = c.remainder)
        ∧ (s.lnk.mode = .monitor →
            d.limit = (if s.fmon.bus = .dead then 0 else ceiling) ∧ d.remainder = 0)
        ∧ d.pwm.pending = dutyOf d.limit t.ratedKw
        ∧ SameBut [.cur] s (applyTargets s)
        ∧ (let same := t.inService = old.settings.channels[j].inService ∧ base = baseCeiling old j
              ∧ s.cur.seqActive = old.cur.seqActive
              ∧ (s.cur.seqActive = true → releaseLimit s j = releaseLimit old j)
              ∧ c.share = old.cur.channels[j].share
           (same → (retarget old s).cur.channels[j] = c) ∧ (¬ same → (retarget old s).cur.channels[j] = d))
        ∧ SameBut [.cur] s (retarget old s))
    ∧ ((∀ (s : State) (f : Nat) (r : Int), 0 ≤ r → 0 < s.settings.sys.droopBand →
        0 ≤ droopLimitAt s f r ∧ droopLimitAt s f r ≤ r
          ∧ (f ≤ fNom s + s.settings.sys.droopOffset → droopLimitAt s f r = r)
          ∧ (fNom s + s.settings.sys.droopOffset + s.settings.sys.droopBand ≤ f → droopLimitAt s f r = 0))
        ∧ (∀ (s : State) (a : Int),
            ((List.finRange 6).map fun j => (shareFor s a j).getD 0).sum ≤ max 0 a
              ∧ (noneOnline s = true → ∀ j : Fin 6, shareFor s a j = none)))
    ∧ (∀ (n : BusNotice) (v : PresentValue) (s : State), n.value = some v → n.bus = .live → n.prev = .live →
        let onset := fNom s + s.settings.sys.droopOffset
        let u := deliver (.bus .cur n) s
        (s.cur.droopActive = false → v.f ≤ onset → u = s)
          ∧ (s.cur.droopActive = false → onset < v.f →
              u.cur.droopActive = true ∧ u.evr = (journal .droopBegins 0 v.f (setAdv .droop s)).evr
                ∧ ∀ j : Fin 6,
                    u.cur.channels[j].reference =
                        (if s.settings.channels[j].inService then some (channelOutput s j) else none)
                      ∧ u.cur.channels[j].droopLimit =
                          u.cur.channels[j].reference.map (droopLimitAt s v.f))
          ∧ (s.cur.droopActive = true → v.f + 50 ≤ onset →
              u.cur.droopActive = false ∧ u.evr = (journal .droopEnds 0 v.f (setAdv .droop s)).evr
                ∧ ∀ j : Fin 6, u.cur.channels[j].reference = none ∧ u.cur.channels[j].droopLimit = none)
          ∧ (s.cur.droopActive = true → onset < v.f + 50 →
              u.cur.droopActive = true ∧ u.evr = s.evr
                ∧ ∀ j : Fin 6, u.cur.channels[j].reference = s.cur.channels[j].reference
                    ∧ u.cur.channels[j].droopLimit = s.cur.channels[j].reference.map (droopLimitAt s v.f))
          ∧ (let moved := u.cur.droopActive ≠ s.cur.droopActive
                ∨ ∃ i : Fin 6, u.cur.channels[i].droopLimit ≠ s.cur.channels[i].droopLimit
             (¬ moved → u.cur.channels.map (fun c => (c.limit, c.remainder)) =
                  s.cur.channels.map fun c => (c.limit, c.remainder))
              ∧ (moved → s.lnk.mode = .auto → ∀ j : Fin 6,
                  let a := s.cur.channels[j]
                  let b := u.cur.channels[j]
                  (pvTarget u j ≤ a.limit → b.limit = pvTarget u j ∧ b.remainder = 0)
                    ∧ (a.limit < pvTarget u j → b.limit = a.limit ∧ b.remainder = a.remainder)))
          ∧ (∀ j : Fin 6, u.cur.channels[j].share = s.cur.channels[j].share)
          ∧ u.cur.zeroHold = s.cur.zeroHold ∧ SameBut [.cur, .evr] s u)
    ∧ (∀ (n : BusNotice) (s : State), n.value = none → n.bus = .dead → n.prev ≠ .dead →
        let u := deliver (.bus .cur n) s
        u.cur.zeroHold = true ∧ u.cur.droopActive = false
          ∧ (s.lnk.mode = .auto → s.cur.zeroHold = false ∨ s.cur.droopActive = true →
              ∀ j : Fin 6, 0 ≤ s.cur.channels[j].limit → u.cur.channels[j].limit = 0 ∧ u.cur.channels[j].remainder = 0)
          ∧ (s.cur.droopActive = true →
              u.evr = (journal .droopEnds 0 0 (setAdv .droop s)).evr
                ∧ ∀ j : Fin 6, u.cur.channels[j].reference = none ∧ u.cur.channels[j].droopLimit = none)
          ∧ (s.cur.droopActive = false → u.evr = s.evr
              ∧ ∀ j : Fin 6, u.cur.channels[j].reference = s.cur.channels[j].reference
                ∧ u.cur.channels[j].droopLimit = s.cur.channels[j].droopLimit)
          ∧ SameBut [.cur, .evr] s u)
    ∧ (∀ (n : BusNotice) (s : State), n.bus = .live → n.prev ≠ .live → (deliver (.bus .cur n) s).cur.zeroHold = false)
    ∧ (∀ s : State,
        let stale := ∃ g : Fin 4, s.gen.sets[g].state = .online ∧ s.meas.sets[g].stale = true
        let served := (List.finRange 6).filter fun j => s.settings.channels[j].inService
        let amount : Int := (served.map (channelOutput s)).sum
          + ((onlineSets s).map fun g => s.meas.sets[g].value - (s.settings.sets[g].minLoadKw : Int)).sum
          - s.settings.sys.mlMargin
        let v := newShares s
        (stale → v = { s with cur := { s.cur with freeze := true } })
          ∧ (¬ stale → v.cur.freeze = false ∧ v.cur.absorbable = some amount
              ∧ (∀ j : Fin 6, v.cur.channels[j] = { s.cur.channels[j] with share := shareFor s amount j })
              ∧ v.cur = { s.cur with freeze := false, absorbable := some amount, channels := v.cur.channels }
              ∧ SameBut [.cur] s v)
          ∧ (∀ (g : Fin 4) (before after : SetState) (cause : SetCause) (origin : SetOrigin),
              deliver (.set .cur g before after cause origin) s =
                if (before = .online ∧ after ≠ .online) ∨ (before ≠ .online ∧ after = .online) then retarget s v else s)
          ∧ (∀ names : PointNames,
              deliver (.update .cur names) s = (if names.sets = [] ∧ names.channels = [] then s else retarget s v)
                ∧ deliver (.stale .cur names) s =
                    (if ∃ g ∈ names.sets, s.gen.sets[g].state = .online then
                       { s with cur := { s.cur with freeze := true } }
                     else s)))

/-- SET_PV_CEILING writes the host ceiling of its channel, clamped to the rating with OK_CLAMPED, and clears the
channel's fallback latch when supervision is PRESENT; the reply carries ceiling, latch, effective ceiling and limit;
a channel above 5 is refused BAD_INDEX (R143). -/
def Obligations.SetPvCeilingWritesTheHostCeiling : Prop :=
  ∀ (fr : Frame) (s : State), Accepts .operate fr (fr.len == 3) s →
    let h := superviseFrame fr.link s
    (6 ≤ fr.byte 0 → exec (.setPvCeiling fr) s = .next (withReply 0x29 fr .badIndex [] (conclude h)))
      ∧ (∀ j : Fin 6, fr.byte 0 = j →
          ∃ u, exec (.setPvCeiling fr) s =
              .next (withReply 0x29 fr (if s.settings.channels[j].ratedKw < fr.field 1 2 then .okClamped else .ok)
                (ceilingReply j (conclude u)) (conclude u))
            ∧ u.settings =
                { s.settings with
                  channels := s.settings.channels.set j
                    ({ s.settings.channels[j] with
                        hostCeiling := min s.settings.channels[j].ratedKw (fr.field 1 2) }) }
            ∧ (u.cur.channels[j].latch = true ↔ s.cur.channels[j].latch = true ∧ h.lnk.supervised = false)
            ∧ (∀ k : Fin 6, k ≠ j → u.cur.channels[k].latch = s.cur.channels[k].latch)
            ∧ SameBut [.settings, .cur] h u)

/-! ### The black-start sequencer -/

/-- The confirmation of a dead bus. In IDLE, an entry into DEAD with no set ONLINE, and a set notice that takes the
last set out of ONLINE on a DEAD bus, lead to CONFIRMING with its timer and record; an entry into LIVE or a set that
enters ONLINE ends CONFIRMING and WAITING in IDLE (R161, R162). The confirmation timer expires in CONFIRMING: with the
bus DEAD, BLK goes to WAITING with its record, or, in AUTO with auto_blackstart, begins a run as BLACKSTART BEGIN
does; with the bus not DEAD the timer stands expired, and the next entry into DEAD does the same at once (R161). -/
def Obligations.ConfirmationTimerExpires : Prop :=
  (∀ s : State, s.phase = .running → s.blk.state = .confirming → s.blk.confirm.isRunning = true →
    (s.fmon.bus ≠ .dead →
        exec .confirmationTimerExpiry s
          = .next (conclude { s with blk := { s.blk with confirm := .expired } }))
      ∧ (s.fmon.bus = .dead → s.lnk.mode = .auto → s.settings.sys.autoBlackstart = true →
          exec .confirmationTimerExpiry s = .next (conclude (beginRun .timer s)))
      ∧ (s.fmon.bus = .dead → s.lnk.mode = .monitor ∨ s.settings.sys.autoBlackstart = false →
          ∃ u, exec .confirmationTimerExpiry s = .next (conclude u)
            ∧ u.blk = { s.blk with state := .waiting, confirm := .idle }
            ∧ u.evr = (journal .blkWaiting 0 0 (setProt .bsState s)).evr
            ∧ SameBut [.gen, .cur, .blk, .evr] s u))
    ∧ (∀ s : State,
        let confirming := fun u : State =>
          u.blk = { state := .confirming, confirm := .running s.settings.sys.deadConfirmMs, run := {} }
            ∧ u.evr = (journal .blkConfirming 0 0 (setProt .bsState s)).evr ∧ SameBut [.gen, .cur, .blk, .evr] s u
        let idle := fun u : State =>
          u.blk = { state := .idle, confirm := .idle, run := {} } ∧ u.evr = (setProt .bsState s).evr
            ∧ SameBut [.gen, .cur, .blk, .evr] s u
        (∀ n : BusNotice, n.reset = false →
            let u := deliver (.bus .blk n) s
            (s.blk.state = .idle → n.bus = .dead → n.prev ≠ .dead → noneOnline s = true → confirming u)
              ∧ (s.blk.state = .idle → n.bus = .dead → n.prev ≠ .dead → noneOnline s = false → u = s)
              ∧ (s.blk.state = .confirming ∨ s.blk.state = .waiting → n.bus = .live → n.prev ≠ .live → idle u)
              ∧ (s.blk.state = .confirming → s.blk.confirm = .expired → n.bus = .dead → n.prev ≠ .dead →
                  (s.lnk.mode = .auto → s.settings.sys.autoBlackstart = true → u = beginRun .timer s)
                    ∧ (s.lnk.mode = .monitor ∨ s.settings.sys.autoBlackstart = false →
                        u.blk = { s.blk with state := .waiting, confirm := .idle }
                          ∧ u.evr = (journal .blkWaiting 0 0 (setProt .bsState s)).evr
                          ∧ SameBut [.gen, .cur, .blk, .evr] s u)))
          ∧ (∀ (g : Fin 4) (before after : SetState) (cause : SetCause) (origin : SetOrigin),
              let u := deliver (.set .blk g before after cause origin) s
              (s.blk.state = .idle → before = .online → after ≠ .online → s.fmon.bus = .dead → noneOnline s = true →
                  confirming u)
                ∧ (s.blk.state = .idle → before ≠ .online ∨ after = .online ∨ s.fmon.bus ≠ .dead ∨ noneOnline s = false →
                    u = s)
                ∧ (s.blk.state = .confirming ∨ s.blk.state = .waiting → after = .online → idle u)
                ∧ (s.blk.state = .confirming ∨ s.blk.state = .waiting → after ≠ .online → u = s)))

/-- The beginning of a run: every CLOSED feeder and every one that failed to trip is asked to open with the origin
BLACKSTART, the feeders in flight go on the clearing list, and the first STANDBY set in lead order whose directory
entry names a plan that is not empty becomes the lead; its plan and the plan's instance are latched and written into
the header, the only entry of the stack; with no such set the run fails with cause 1 and pushes no header (R163,
R172). BLACKSTART BEGIN begins a run on a DEAD bus from IDLE, CONFIRMING or WAITING, and is else refused (R162); that
its reply carries BLK's state before step 1 begins is the model's choice (log 52). A feeder of the clearing list
leaves it at the notice that ends its operation, and is opened when it ended CLOSED; an entry into LIVE empties the
list, in RUNNING as in HELD (R164). That the feeder is judged by the state that stands, and not by the one that the
notice carries, is the model's reading (log 27). The beginning of a step: the step timer starts for a kind that uses
one, and the action of the kind follows, which the step awaits or which completes or fails it at once (R165 to
R170). -/
def Obligations.RunBeginsWithClearingAndLead : Prop :=
  (∀ (how : RunStart) (s : State), StackShape s → blkActive s = false → s.blk.state ≠ .failed →
    let u := beginRun how s
    let lead := ((leadOrder s).filter fun g =>
      decide (s.gen.sets[g].state = .standby) && (leadPlan s g).isSome).head?
    u.blk.run.begunBy = some how ∧ u.blk.confirm = .idle
      ∧ (∀ k : Fin 16, s.feeders[k].state = .closed ∨ s.feeders[k].state = .failed .trip →
          OperationBegun (effectiveStyle s.settings k) s.settings.feeders[k] false .blackstart s.feeders[k]
            u.feeders[k])
      ∧ (∀ k : Fin 16, s.feeders[k].state ≠ .closed → s.feeders[k].state ≠ .failed .trip →
          u.feeders[k] = s.feeders[k])
      ∧ (lead = none → u.blk.state = .failed ∧ u.blk.run.failure = 1
          ∧ (∀ e ∈ u.rst.entries, e.isHeader = false))
      ∧ (∀ g : Fin 4, lead = some g →
          u.blk.state = .running ∧ u.blk.run.lead = some g ∧ u.blk.run.plan = leadPlan s g
            ∧ u.blk.run.attempt = 1 ∧ u.blk.run.tried = [g] ∧ u.blk.run.started = [] ∧ u.blk.run.step = 1
            ∧ (∀ k : Fin 16, k ∈ u.blk.run.clearing ↔
                s.feeders[k].state = .opening ∨ s.feeders[k].state = .closing)
            ∧ (∀ p : Fin 4, leadPlan s g = some p →
                u.blk.run.inst = s.settings.plans[p].inst
                  ∧ u.blk.run.kind = s.settings.plans[p].steps.head?.map (·.kind)
                  ∧ u.rst.entries.map (fun e => (e.kind, e.tag, e.run, e.items)) =
                      [(.header, s.rst.nextTag, some ⟨p, s.settings.plans[p].inst, g⟩, [])])
            ∧ u.notices.getLast? = some .step))
    ∧ (∀ (fr : Frame) (s : State), Accepts .operate fr (fr.len == 1) s → fr.byte 0 = 0 →
        let h := superviseFrame fr.link s
        ((s.blk.state = .idle ∨ s.blk.state = .confirming ∨ s.blk.state = .waiting) ∧ s.fmon.bus = .dead →
            exec (.blackstartBegin fr) s =
              .next (withReply 0x2B fr .ok (leBytes 1 (beginRun .begin h).blk.state.code)
                (conclude (beginRun .begin h))))
          ∧ (¬ ((s.blk.state = .idle ∨ s.blk.state = .confirming ∨ s.blk.state = .waiting) ∧ s.fmon.bus = .dead) →
              exec (.blackstartBegin fr) s = .next (withReply 0x2B fr .wrongState [] (conclude h))))
    ∧ (∀ (f : Fin 16) (before after : FeederState) (cause : FeederCause) (origin : Option OpOrigin) (turn : Bool)
        (s : State), blkActive s = true → f ∈ s.blk.run.clearing →
        (∀ st, runningStep s = some st → st.kind ≠ .closeFeeder ∨ st.object ≠ f.val) →
        let u := deliver (.feeder .blk f before after cause origin turn) s
        (s.feeders[f].state = .opening ∨ s.feeders[f].state = .closing → u = s)
          ∧ (s.feeders[f].state ≠ .opening → s.feeders[f].state ≠ .closing →
              u.blk = { s.blk with run := { s.blk.run with clearing := s.blk.run.clearing.filter fun k => decide (k ≠ f) } }
                ∧ (s.feeders[f].state = .closed → FeedersTripped .blackstart [f] { s with blk := u.blk } u)
                ∧ (s.feeders[f].state ≠ .closed → SameBut [.blk] s u)))
    ∧ (∀ (n : BusNotice) (s : State), s.blk.state = .held → n.reset = false → n.bus = .live → n.prev ≠ .live →
        deliver (.bus .blk n) s = { s with blk := { s.blk with run := { s.blk.run with clearing := [] } } })
    ∧ (∀ (n : BusNotice) (s : State), s.blk.state = .running → s.fmon.bus = .live → n.reset = false → n.bus = .live →
        n.prev ≠ .live → (deliver (.bus .blk n) s).blk.run.clearing = [])
    ∧ (∀ (s : State), s.blk.state = .running → s.blk.run.begun = false →
        let u := deliver .step s
        (currentStep s = none →
            u.blk = { state := .idle, confirm := .idle, run := {} } ∧ u.gen.grant = none ∧ headerStands u = false)
          ∧ (∀ st, currentStep s = some st →
              let timed := st.kind = .startLead ∨ st.kind = .closeFeeder ∨ st.kind = .waitStable ∨ st.kind = .startNext
              let b := modRun (fun r =>
                { r with
                  begun := true, waitTimer := .idle, stepTimer := if timed then .running st.timeout else .idle }) s
              let started := fun (g : Fin 4) (chosen : Option (Fin 4)) =>
                ∃ a : State, startSet g .blackstart b = (a, true)
                  ∧ u = modRun (fun r =>
                      { r with
                        started := if g ∈ r.started then r.started else r.started ++ [g], nextSet := chosen }) a
              (st.kind = .startLead → ∀ g, s.blk.run.lead = some g →
                  (s.gen.sets[g].state = .online ∧ s.fmon.bus = .live → StepCompleted st b u)
                    ∧ (s.gen.sets[g].state = .standby → started g s.blk.run.nextSet)
                    ∧ (s.gen.sets[g].state ≠ .standby → s.gen.sets[g].state ≠ .online ∨ s.fmon.bus ≠ .live →
                        StepEnded st 1 3 b u))
                ∧ (st.kind = .closeFeeder → ∀ f : Fin 16, st.object = f.val →
                    (s.feeders[f].state = .closed → StepCompleted st b u)
                      ∧ (s.feeders[f].state = .opened ∨ s.feeders[f].state = .failed .close →
                          OperationBegun (effectiveStyle s.settings f) s.settings.feeders[f] true .blackstart
                              s.feeders[f] u.feeders[f]
                            ∧ u.blk = b.blk ∧ (∀ k : Fin 16, k ≠ f → u.feeders[k] = s.feeders[k])
                            ∧ SameBut [.feeders, .rst, .evr, .blk, .notices, .draws] s u)
                      ∧ (s.feeders[f].state = .failed .trip → u.feeders[f].state = .closed
                          ∧ ∃ x, StepCompleted st x u ∧ x.blk = b.blk
                            ∧ SameBut [.feeders, .rst, .evr, .blk, .notices, .draws] s x)
                      ∧ (s.feeders[f].state = .opening ∨ s.feeders[f].state = .closing
                            ∨ s.feeders[f].state = .outOfService → StepEnded st 1 3 b u))
                ∧ (st.kind = .closeFeeder → 16 ≤ st.object → StepEnded st 1 3 b u)
                ∧ (st.kind = .wait → (st.param = 0 → StepCompleted st b u)
                    ∧ (st.param ≠ 0 → u = modRun (fun r => { r with waitTimer := .running st.param }) b))
                ∧ (st.kind = .waitStable → u = b)
                ∧ (st.kind = .startNext → (dispatchLead s = none → StepEnded st 1 3 b u)
                    ∧ (∀ g, dispatchLead s = some g → started g (some g)))
                ∧ (st.kind = .releasePv → ∀ j : Fin 6, st.object = j.val →
                    (s.settings.channels[j].inService = true →
                        ∃ x, StepCompleted st x u ∧ x.blk = b.blk ∧ x.cur.channels[j].release = st.param
                          ∧ (∀ k : Fin 6, k ≠ j → x.cur.channels[k].release = s.cur.channels[k].release)
                          ∧ SameBut [.cur, .blk] s x)
                      ∧ (s.settings.channels[j].inService = false → StepEnded st 1 3 b u))
                ∧ (st.kind = .releasePv → 6 ≤ st.object → StepEnded st 1 3 b u)
                ∧ (st.kind = .stop →
                    u.blk = { state := .idle, confirm := .idle, run := {} } ∧ u.gen.grant = none
                      ∧ headerStands u = false)))

/-- The timers of a step: at the expiry of the wait timer the step is done with its record and the next one begins; at
the expiry of the step timer a skippable step is skipped with its record and the next one begins, and one that is not
skippable fails the attempt with code 2 (R165, R168, R172). The notices that a RUNNING step awaits complete it, fail
it at once with code 3, grant DEAD_CLOSE to the lead in SYNCING, or start and stop the wait timer of WAIT_STABLE (R166
to R169). That BLK reads the states that stand, that a skipped START_LEAD leaves its grant standing, and that a step
which begins at a bus notice takes that notice too are the model's readings (logs 27, 28 and 29). An entry into DEAD
fails the attempt with code 4 (R172). The failure of an attempt: the grant is withdrawn, the record of the failure
carries attempt and code, and on a DEAD bus the sets that the run has started are stopped. With the code 5, off a DEAD
bus or with the last attempt used, the run fails: BLK is FAILED with the code as cause, the header has gone, and the
record of the failed run follows; else the bus is cleared again and the first set not yet tried takes the run on as
its next attempt, or, with none, the run fails with cause 1 (R172, R173). Which fields of the run record a FAILED run
keeps, and the object of the record of a run without a lead, are the model's reading (logs 24 and 16). -/
def Obligations.StepTimersEndTheStepOrTheAttempt : Prop :=
  (∀ (s : State) (st : PlanStep), s.phase = .running → s.blk.state = .running → s.blk.run.begun = true →
      currentStep s = some st →
      (s.blk.run.waitTimer.isRunning = true →
          ∃ u, exec .waitTimerExpiry s = .next (conclude u) ∧ StepCompleted st s u)
        ∧ (s.blk.run.stepTimer.isRunning = true →
            ∃ u, exec .stepTimerExpiry s = .next (conclude u) ∧ StepEnded st 0 2 s u))
    ∧ (∀ (s : State) (st : PlanStep), s.blk.state = .running → s.blk.run.begun = true → currentStep s = some st →
        let u := examineStep st s
        let fallen := fun g : Fin 4 =>
          s.gen.sets[g].state = .lockedOut ∨ s.gen.sets[g].state = .standby ∨ s.gen.sets[g].state = .unavailable
        (st.kind = .startLead → ∀ g, s.blk.run.lead = some g →
            (s.gen.sets[g].state = .online → s.fmon.bus = .live → StepCompleted st s u)
              ∧ (s.gen.sets[g].state = .syncing → u = { s with gen := { s.gen with grant := some g } })
              ∧ (fallen g → StepEnded st 1 3 s u)
              ∧ (s.gen.sets[g].state = .online → s.fmon.bus ≠ .live → u = s)
              ∧ (s.gen.sets[g].state.atCrank = true ∨ s.gen.sets[g].state = .runUp ∨ s.gen.sets[g].state = .unloading
                  ∨ s.gen.sets[g].state = .cooldown → u = s)
              ∧ (∀ (before after : SetState) (cause : SetCause) (origin : SetOrigin),
                  deliver (.set .blk g before after cause origin) s = u)
              ∧ (∀ n : BusNotice, n.reset = false →
                  (n.value = none → n.bus = .settling → deliver (.bus .blk n) s = u)
                    ∧ (n.value.isSome = true → n.bus = .live → n.prev = .live →
                        deliver (.bus .blk n) s = followOn 13 n u
                          ∧ (u.blk.run.begun = true → deliver (.bus .blk n) s = u))))
          ∧ (st.kind = .closeFeeder → ∀ f : Fin 16, st.object = f.val →
              (s.feeders[f].state = .closed → StepCompleted st s u)
                ∧ (s.feeders[f].state = .closing → u = s)
                ∧ (s.feeders[f].state ≠ .closed → s.feeders[f].state ≠ .closing → StepEnded st 1 3 s u)
                ∧ (f ∉ s.blk.run.clearing →
                    ∀ (before after : FeederState) (cause : FeederCause) (origin : Option OpOrigin) (turn : Bool),
                      deliver (.feeder .blk f before after cause origin turn) s = u))
          ∧ (st.kind = .startNext → ∀ g, s.blk.run.nextSet = some g →
              (s.gen.sets[g].state = .online → StepCompleted st s u)
                ∧ (fallen g → StepEnded st 1 3 s u)
                ∧ (s.gen.sets[g].state ≠ .online → ¬ fallen g → u = s)
                ∧ (∀ (before after : SetState) (cause : SetCause) (origin : SetOrigin),
                    deliver (.set .blk g before after cause origin) s = u))
          ∧ (st.kind = .wait ∨ st.kind = .waitStable → u = s)
          ∧ (st.kind = .waitStable →
              (∀ (n : BusNotice) (v : PresentValue), n.reset = false → n.value = some v → n.bus = .live → n.prev = .live →
                  let w := deliver (.bus .blk n) s
                  (inBand s v.f = true → s.blk.run.waitTimer.isRunning = true → w = s)
                    ∧ (inBand s v.f = true → s.blk.run.waitTimer.isRunning = false → st.param ≠ 0 →
                        w = modRun (fun r => { r with waitTimer := .running st.param }) s)
                    ∧ (inBand s v.f = false → w = modRun (fun r => { r with waitTimer := .idle }) s))
                ∧ (∀ n : BusNotice, n.reset = false → n.value = none → n.bus = .settling →
                    deliver (.bus .blk n) s = modRun (fun r => { r with waitTimer := .idle }) s)))
    ∧ (∀ (n : BusNotice) (s : State), blkActive s = true → n.reset = false → n.bus = .dead → n.prev ≠ .dead →
        deliver (.bus .blk n) s = attemptFail 4 s)
    ∧ (∀ (code : Nat) (s : State), blkActive s = true →
        let u := attemptFail code s
        let noted := journal .attemptFailed s.blk.run.attempt code
          { s with
            gen := { s.gen with grant := none }
            blk := { s.blk with run := { s.blk.run with begun := false, stepTimer := .idle, waitTimer := .idle } } }
        let stopped :=
          if s.fmon.bus = .dead then s.blk.run.started.foldl (fun x g => stopSet false g .blackstart x) noted else noted
        let failed := fun cause : Nat =>
          u.blk.state = .failed ∧ u.blk.run.failure = cause ∧ u.gen.grant = none ∧ headerStands u = false
            ∧ u.blk.run.stepTimer = .idle ∧ u.blk.run.waitTimer = .idle ∧ u.blk.run.clearing = []
            ∧ u.blk.run.holdStack = false ∧ u.blk.run.holdManual = false
            ∧ u.blk.run.lead = s.blk.run.lead ∧ u.blk.run.attempt = s.blk.run.attempt
            ∧ u.blk.run.kind = s.blk.run.kind
        let lead := ((leadOrder s).filter fun g =>
          decide (stopped.gen.sets[g].state = .standby) && (leadPlan s g).isSome
            && decide (g ∉ s.blk.run.tried)).head?
        SameBut [.feeders, .rst, .gen, .cur, .blk, .evr, .notices, .draws] s u
          ∧ u.gen.sets = stopped.gen.sets
          ∧ (code = 5 ∨ s.fmon.bus ≠ .dead ∨ s.settings.sys.maxAttempts ≤ s.blk.run.attempt →
              failed code
                ∧ u.evr = (setProt .bsState (journal .blkFailed (leadObject s) code (removeHeader stopped))).evr)
          ∧ (code ≠ 5 → s.fmon.bus = .dead → s.blk.run.attempt < s.settings.sys.maxAttempts →
              (∀ k : Fin 16, s.feeders[k].state = .closed ∨ s.feeders[k].state = .failed .trip →
                  OperationBegun (effectiveStyle s.settings k) s.settings.feeders[k] false .blackstart s.feeders[k]
                    u.feeders[k])
                ∧ (∀ j : Fin 6, u.cur.channels[j].release = 0)
                ∧ (lead = none → failed 1)
                ∧ (∀ (g p : Fin 4), lead = some g → leadPlan s g = some p →
                    u.blk.run =
                        { s.blk.run with
                          plan := some p, inst := s.settings.plans[p].inst, lead := some g
                          attempt := s.blk.run.attempt + 1, tried := s.blk.run.tried ++ [g], started := []
                          step := 1, kind := s.settings.plans[p].steps.head?.map (·.kind), begun := false
                          stepTimer := .idle, waitTimer := .idle, nextSet := none, holdStack := false
                          clearing := u.blk.run.clearing }
                      ∧ (∀ k : Fin 16, k ∈ u.blk.run.clearing ↔
                          s.feeders[k].state = .opening ∨ s.feeders[k].state = .closing)
                      ∧ (s.blk.run.holdManual = false → u.blk.state = .running ∧ u.notices.getLast? = some .step)
                      ∧ (s.blk.run.holdManual = true → u.blk.state = .held)
                      ∧ (s.blk.state = .running → s.blk.run.holdManual = false →
                          u.evr = (journal .blkRetry g p.val stopped).evr))))

/-- The other commands of BLACKSTART: HOLD sets the manual cause and takes a RUNNING run to HELD with its timers
paused, the wait timer of a WAIT_STABLE step going idle, RESUME clears it and takes the run back to RUNNING when no
stack cause stands, with its record, its timers running on and its step examined afresh, ABORT fails the run with code
5, ACK takes FAILED to IDLE with the run record cleared; each is else refused WRONG_STATE (R171, R173). A change of
the stack sets the stack cause while an entry stands above the header, taking a RUNNING run to HELD, and clears it
when none does, a run held by nothing else going on as at RESUME (R171). That a return to RUNNING which comes before
the dead bus of the same event leaves the failure of the attempt to that bus is the model's reading (log 49). -/
def Obligations.BlackstartCommandsActByState : Prop :=
  (∀ (fr : Frame) (s : State), Accepts .operate fr (fr.len == 1) s →
    let h := superviseFrame fr.link s
    let refused := fun st : State => withReply 0x2B fr .wrongState [] (conclude st)
    (fr.byte 0 = 1 →
        (s.blk.state = .running →
            ∃ u, exec (.blackstartHold fr) s = .next (withReply 0x2B fr .ok [] (conclude u))
              ∧ RunHeld 2 { s.blk.run with holdManual := true } h u)
          ∧ (s.blk.state = .held →
              ∃ u, exec (.blackstartHold fr) s = .next (withReply 0x2B fr .ok [] (conclude u))
                ∧ u.blk = { s.blk with run := { s.blk.run with holdManual := true } } ∧ SameBut [.blk] h u)
          ∧ (blkActive s = false → exec (.blackstartHold fr) s = .next (refused h)))
      ∧ (fr.byte 0 = 2 →
          (s.blk.state = .held → s.blk.run.holdManual = true →
              let cleared := { h with blk := { s.blk with run := { s.blk.run with holdManual := false } } }
              (s.blk.run.holdStack = true →
                  exec (.blackstartResume fr) s = .next (withReply 0x2B fr .ok [] (conclude cleared)))
                ∧ (s.blk.run.holdStack = false →
                    ∃ u, exec (.blackstartResume fr) s = .next (withReply 0x2B fr .ok [] (conclude u))
                      ∧ RunResumed cleared u))
            ∧ (s.blk.state ≠ .held ∨ s.blk.run.holdManual = false →
                exec (.blackstartResume fr) s = .next (refused h)))
      ∧ (fr.byte 0 = 3 →
          (blkActive s = true →
              exec (.blackstartAbort fr) s = .next (withReply 0x2B fr .ok [] (conclude (attemptFail 5 h))))
            ∧ (blkActive s = false → exec (.blackstartAbort fr) s = .next (refused h)))
      ∧ (fr.byte 0 = 4 →
          (s.blk.state = .failed →
              ∃ u, exec (.blackstartAck fr) s = .next (withReply 0x2B fr .ok [] (conclude u))
                ∧ u.blk = { state := .idle, confirm := .idle, run := {} }
                ∧ u.evr = (journal .blkAcknowledged 0 0 (setProt .bsState h)).evr
                ∧ SameBut [.gen, .cur, .blk, .evr] h u)
            ∧ (s.blk.state ≠ .failed → exec (.blackstartAck fr) s = .next (refused h))))
    ∧ (∀ s : State,
        let above := ∃ e ∈ s.rst.entries, e.isHeader = false
        let u := deliver (.stack .blk) s
        let caused := { s.blk.run with holdStack := true }
        let cleared := { s with blk := { s.blk with run := { s.blk.run with holdStack := false } } }
        (blkActive s = false → u = s)
          ∧ (s.blk.state = .running → above → RunHeld 1 caused s u)
          ∧ (s.blk.state = .held → above → u = { s with blk := { s.blk with run := caused } })
          ∧ (s.blk.state = .running → ¬ above → u = cleared)
          ∧ (s.blk.state = .held → ¬ above → s.blk.run.holdManual = true → u = cleared)
          ∧ (s.blk.state = .held → ¬ above → s.blk.run.holdManual = false → RunResumed cleared u))

/-! ### Links, events, store -/

/-- The events of a link: an error of R177 abandons the frame and sets its flag, with LINK_ERROR when link errors are
reported, and a disabled link records none; when the reply being sent has gone, the next waiting one is sent, the line
settings that its request changed take effect with the values it wrote, a changed link hunting afresh and a disabled
one sending nothing, and the reply to RESET lets the soft reset wait; when the supervision timer expires, supervision
is LOST with its flag and record, and every fallback latch is set (R143, R176 to R180, R183, R185). That an error
command acts whatever the receiver's condition, and that an expiry while supervision is LOST already is reported too,
are the model's choices (logs 25 and 44); that a disabled link drops its waiting replies, and that each reply puts the
values of its own request into force, are its readings (logs 32 and 42). -/
def Obligations.LinkEventsAct : Prop :=
  (∀ (l : Link) (c : Instr) (e : LinkError) (s : State), s.phase = .running →
    (c, e) ∈ [(Instr.lengthError l, LinkError.length), (.checkError l, .check), (.gapError l, .gap)] →
    ∃ u, exec c s = .next (conclude u)
      ∧ ((s.link l).enabled = false → u = s)
      ∧ ((s.link l).enabled = true →
          u.link l = ({ s.link l with receiver := .hunting, gap := .idle }).withError e
            ∧ u.evr = (if s.settings.sys.linkErrorReport then (setAdv .linkError s).evr else s.evr)
            ∧ (∀ k : Link, k ≠ l → u.link k = s.link k) ∧ SameBut [.lnk, .evr] s u))
    ∧ (∀ (l : Link) (s : State) (r : Reply), s.phase = .running → (s.link l).current = .sending r →
        ∃ u, exec (.replyTransmitted l) s = .next (conclude u)
          ∧ (r.lines = none →
              u.link l =
                  { s.link l with
                    current := (match (s.link l).waiting with | [] => .none | next :: _ => .sending next)
                    waiting := (s.link l).waiting.tail }
                ∧ (∀ k : Link, k ≠ l → u.link k = s.link k))
          ∧ (∀ p, r.lines = some p →
              let sent := fun k : Link =>
                if k = l then
                  { s.link k with
                    current := (match (s.link k).waiting with | [] => .none | next :: _ => .sending next)
                    waiting := (s.link k).waiting.tail }
                else s.link k
              let taken := fun (c : LinkCtl) (rate : LineRate) (enabled : Bool) =>
                let c := if rate = c.rate ∧ enabled = c.enabled then c else { c with receiver := .hunting, gap := .idle }
                if enabled then { c with rate := rate, enabled := true }
                else { c with rate := rate, enabled := false, current := .none, waiting := [] }
              u.link .a = taken (sent .a) (p.rateA.getD (sent .a).rate) (sent .a).enabled
                ∧ u.link .b = taken (sent .b) (p.rateB.getD (sent .b).rate) (p.linkB.getD (sent .b).enabled))
          ∧ u.lnk =
              { s.lnk with
                linkA := u.lnk.linkA, linkB := u.lnk.linkB
                reset := if r.isReset then .draining else s.lnk.reset }
          ∧ SameBut [.lnk] s u)
    ∧ (∀ s : State, s.phase = .running → s.lnk.supTimer.isRunning = true →
        ∃ u, exec .supervisionTimerExpiry s = .next (conclude u)
          ∧ u.lnk = { s.lnk with supervised := false, supTimer := .idle }
          ∧ u.evr = (journal .supervisionLost 0 s.settings.sys.supervision (setAdv .supervision s)).evr
          ∧ u.cur.supervised = false ∧ (∀ j : Fin 6, u.cur.channels[j].latch = true)
          ∧ SameBut [.lnk, .cur, .evr] s u)

/-- Every request on an enabled link passes the checks of LNK in their order: an unknown kind, a payload of another
length, a busy link (or, for a configuring kind, a settings write), and an operating or configuring kind from the
query link are refused with the status alone and nothing done but what the frame itself does for supervision; a full
reply list drops the request with OVERRUN; and while a soft reset waits, the request is dropped without a trace (R179
to R183, R185). That a dropped frame still counts for supervision is the model's reading (log 23). -/
def Obligations.LinkChecksRefuseInOrder : Prop :=
  (∀ (kind : Byte) (f : Frame) (s : State), s.phase = .running → (s.link f.link).enabled = true →
    s.lnk.reset ≠ .draining → (s.link f.link).waiting.length < 8 →
    exec (.unknownKind kind f) s
      = .next (withReply kind f .unknownKind [] (conclude (superviseFrame f.link s))))
    ∧ (∀ (c : Instr) (kind : Byte) (g : Group) (f : Frame) (lengthOk : Bool) (s : State),
        requestOf c = some (kind, g, f, lengthOk) → s.phase = .running →
        let h := superviseFrame f.link s
        let busy := (s.link f.link).current ≠ .none ∨ g = .configure ∧ s.sto.write ≠ none
        ((s.link f.link).enabled = false → exec c s = .next s)
          ∧ ((s.link f.link).enabled = true → s.lnk.reset = .draining → exec c s = .next (conclude h))
          ∧ ((s.link f.link).enabled = true → s.lnk.reset ≠ .draining →
              (8 ≤ (s.link f.link).waiting.length →
                  exec c s = .next (conclude (setLinkError .overrun f.link h)))
                ∧ ((s.link f.link).waiting.length < 8 →
                    (lengthOk = false → exec c s = .next (withReply kind f .badLength [] (conclude h)))
                      ∧ (lengthOk = true → busy → exec c s = .next (withReply kind f .busy [] (conclude h)))
                      ∧ (lengthOk = true → ¬ busy → g ≠ .either → f.link ≠ operateLink s →
                          exec c s = .next (withReply kind f .notPermitted [] (conclude h))))))

/-- The queries reply OK with their figures as they stand when the request is taken, and change nothing; a first
feeder above 15, a set above 3 and a section above 7 are refused BAD_INDEX (R18, R30, R64, R113, R138, R156, R187,
R188, R191). Some placings inside the replies are the model's reading (log 20). -/
def Obligations.QueriesReplyAndChangeNothing : Prop :=
  ∀ (f : Frame) (s : State),
    let h := superviseFrame f.link s
    let answered := fun (kind : Byte) (st : Status) (body : List Byte) => withReply kind f st body (conclude h)
    (Accepts .either f (f.len == 0) s →
        exec (.identify f) s = .next (answered 0x01 .ok (identifyBody f.link h))
          ∧ exec (.getStatus f) s = .next (answered 0x02 .ok (statusBody h))
          ∧ exec (.readFrequency f) s = .next (answered 0x03 .ok (frequencyBody h))
          ∧ exec (.readPv f) s = .next (answered 0x06 .ok (pvBody h))
          ∧ exec (.readStack f) s = .next (answered 0x07 .ok (stackBody h))
          ∧ exec (.readEvents f) s = .next (answered 0x09 .ok (eventsBody h))
          ∧ exec (.peekInputs f) s = .next (answered 0x0B .ok (peekInputsBody h)))
      ∧ (Accepts .either f (f.len == 2 && decide (1 ≤ f.byte 1 ∧ f.byte 1 ≤ 16)) s →
          (∀ first : Fin 16, f.byte 0 = first →
              exec (.readFeeders f) s = .next (answered 0x04 .ok (feedersBody first (f.byte 1) h)))
            ∧ (16 ≤ f.byte 0 → exec (.readFeeders f) s = .next (answered 0x04 .badIndex [])))
      ∧ (Accepts .either f (f.len == 1) s →
          (∀ g : Fin 4, f.byte 0 = g →
              exec (.readGensets f) s = .next (answered 0x05 .ok (gensetsBody g h)))
            ∧ (4 ≤ f.byte 0 → exec (.readGensets f) s = .next (answered 0x05 .badIndex []))
            ∧ (f.byte 0 ≤ 7 →
                ∃ body, configBody (f.byte 0) h = some body
                  ∧ exec (.readConfig f) s = .next (answered 0x0A .ok body))
            ∧ (8 ≤ f.byte 0 → exec (.readConfig f) s = .next (answered 0x0A .badIndex [])))

/-- The requests on flags, masks, marks and the journal: CLEAR_EVENTS clears the named flags and replies with the
words left, SET_EVENT_MASK takes both masks, CLEAR_LINK_ERRORS clears the flags of the selected links, COLLECT_MARKS
returns and clears both marks of every feeder, READ_JOURNAL returns and removes records from the head; a bit or
selector that names nothing is refused BAD_INDEX (R66, R178, R191, R192, R196). -/
def Obligations.FlagMaskMarkAndJournalRequests : Prop :=
  ∀ (fr : Frame) (s : State),
    let h := superviseFrame fr.link s
    (Accepts .operate fr (fr.len == 8) s →
        (2 ^ 15 ≤ fr.field 0 2 ∨ 2 ^ 11 ≤ fr.field 2 2 →
            exec (.clearEvents fr) s = .next (withReply 0x2C fr .badIndex [] (conclude h)))
          ∧ (fr.field 0 2 < 2 ^ 15 → fr.field 2 2 < 2 ^ 11 →
              ∃ u, exec (.clearEvents fr) s = .next (withReply 0x2C fr .ok (eventWords u) (conclude u))
                ∧ u.evr =
                    { h.evr with
                      protection := h.evr.protection &&& ~~~BitVec.ofNat 16 (fr.field 0 2)
                      advisory := h.evr.advisory &&& ~~~BitVec.ofNat 16 (fr.field 2 2) }
                ∧ (∀ k : Fin 32, u.inputs[k] =
                    { s.inputs[k] with flag := s.inputs[k].flag && !(fr.field 4 4).testBit k.val })
                ∧ SameBut [.inputs, .evr] h u))
      ∧ (Accepts .operate fr (fr.len == 1) s →
          (4 ≤ fr.byte 0 → exec (.setEventMask fr) s = .next (withReply 0x2D fr .badIndex [] (conclude h)))
            ∧ (fr.byte 0 ≤ 3 →
                ∃ u, exec (.setEventMask fr) s = .next (withReply 0x2D fr .ok (maskByte (conclude u)) (conclude u))
                  ∧ u.evr =
                      { h.evr with
                        maskProtection := (fr.byte 0).testBit 0, maskAdvisory := (fr.byte 0).testBit 1 }
                  ∧ SameBut [.evr] h u)
            ∧ (fr.byte 0 = 0 ∨ 4 ≤ fr.byte 0 →
                exec (.clearLinkErrors fr) s = .next (withReply 0x2E fr .badIndex [] (conclude h)))
            ∧ (1 ≤ fr.byte 0 → fr.byte 0 ≤ 3 →
                ∃ u, exec (.clearLinkErrors fr) s = .next (withReply 0x2E fr .ok [] (conclude u))
                  ∧ u.lnk.linkA =
                      (if (fr.byte 0).testBit 0 then
                        { h.lnk.linkA with
                          errCheck := false, errGap := false, errLength := false, errOverrun := false }
                       else h.lnk.linkA)
                  ∧ u.lnk.linkB =
                      (if (fr.byte 0).testBit 1 then
                        { h.lnk.linkB with
                          errCheck := false, errGap := false, errLength := false, errOverrun := false }
                       else h.lnk.linkB)
                  ∧ u.lnk = { h.lnk with linkA := u.lnk.linkA, linkB := u.lnk.linkB } ∧ SameBut [.lnk] h u))
      ∧ (Accepts .either fr (fr.len == 0) s →
          ∃ u, exec (.collectMarks fr) s = .next (withReply 0x0D fr .ok (marksBody s) (conclude u))
            ∧ (∀ f : Fin 16, u.feeders[f] = { s.feeders[f] with operated := false, shed := false })
            ∧ SameBut [.feeders] h u)
      ∧ (Accepts .either fr (fr.len == 1 && decide (1 ≤ fr.byte 0 ∧ fr.byte 0 ≤ 16)) s →
          ∃ u, exec (.readJournal fr) s =
              .next (withReply 0x08 fr .ok
                (leBytes 1 (min (fr.byte 0) h.evr.journal.length)
                  ++ (h.evr.journal.take (fr.byte 0)).flatMap JournalRecord.bytes) (conclude u))
            ∧ u.evr = { h.evr with journal := h.evr.journal.drop (fr.byte 0) } ∧ SameBut [.evr] h u)

/-- SET_MODE changes the mode with its record and the mode notice to five blocks, does nothing for the mode in force,
and is refused BAD_INDEX for another code (R184). RESET is answered OK, the soft reset being asked for (R185).
STORE_SETTINGS begins the write of the working settings' image, at most 300 ms long, and its reply waits; at the end
of the write the reply carries OK and the image length, or WRITE_FAILED, with the record of the outcome (R199). What is
read back is compared over the length of the image that was written: the model's reading (log 31). -/
def Obligations.ModeResetAndStoreRequests : Prop :=
  (∀ (fr : Frame) (s : State), Accepts .operate fr (fr.len == 1) s →
    let h := superviseFrame fr.link s
    (2 ≤ fr.byte 0 → exec (.setMode fr) s = .next (withReply 0x2A fr .badIndex [] (conclude h)))
      ∧ (∀ m : Mode, fr.byte 0 = m.code →
          ∃ u, exec (.setMode fr) s = .next (withReply 0x2A fr .ok (leBytes 1 m.code) (conclude u))
            ∧ (s.lnk.mode = m → u = h)
            ∧ (s.lnk.mode ≠ m →
                u.lnk = { h.lnk with mode := m }
                  ∧ u.evr = (journal .modeChanged fr.link.code m.code h).evr
                  ∧ Announced [.shd, .rst, .gen, .cur, .blk] (fun c => .mode c m) h u
                  ∧ SameBut [.lnk, .evr, .notices, .draws] h u)))
    ∧ (∀ (fr : Frame) (s : State), Accepts .operate fr (fr.len == 0) s →
        let h := superviseFrame fr.link s
        exec (.reset fr) s =
          .next (modLink fr.link
            (LinkCtl.enqueue { kind := 0xAF, tag := fr.tag, payload := [0], isReset := true })
            (conclude { h with lnk := { h.lnk with reset := .answering } })))
    ∧ (∀ (fr : Frame) (s : State), Accepts .configure fr (fr.len == 0) s →
        let h := superviseFrame fr.link s
        ∃ u, exec (.storeSettings fr) s = .next (conclude u)
          ∧ u.sto =
              { s.sto with
                write := some { image := imageOf s.settings, link := fr.link, tag := fr.tag, left := .running 300 } }
          ∧ u.link fr.link = { h.link fr.link with current := .forming }
          ∧ (∀ k : Link, k ≠ fr.link → u.link k = h.link k)
          ∧ SameBut [.lnk, .sto] h u)
    ∧ (∀ (readBack : List Byte) (s : State) (w : StoreWrite), s.phase = .running → s.sto.write = some w →
        ∃ u, exec (.storeWriteEnd readBack) s = .next (conclude u)
          ∧ u.sto = { s.sto with write := none }
          ∧ (let matched := readBack.take w.image.length = w.image
             (matched → u.evr = (journal .settingsStored 0 0 s).evr)
              ∧ (¬ matched → u.evr = (journal .settingsStored 0 1 s).evr)
              ∧ ((s.link w.link).current = .forming →
                  (matched →
                      u.link w.link =
                        { s.link w.link with
                          current := .sending
                            { kind := 0xC8, tag := w.tag, payload := 0x00 :: leBytes 2 w.image.length } })
                    ∧ (¬ matched →
                        u.link w.link =
                          { s.link w.link with
                            current := .sending { kind := 0xC8, tag := w.tag, payload := [0x1C] } })))
          ∧ (∀ k : Link, k ≠ w.link → u.link k = s.link k)
          ∧ SameBut [.lnk, .evr, .sto] s u)

/-! ### Configuring requests -/

/-- CONFIGURE_SYSTEM and CONFIGURE_STAGES are refused WRONG_MODE in AUTO; in MONITOR the items or the whole record are
written in their ranges, with OK_CLAMPED when a value was clamped, and an item that names nothing refuses the whole
request. A changed f_nom breaks the run of the monitor, a LIVE bus becoming SETTLING, and enters DEAD when the time
since the last accepted crossing has reached the new length of the dead-bus timer (R17), before the notice of the
break is delivered (the model's choice, log 50); a changed style takes the lines of its feeders to the debounced
status (R37); the reply carries the line settings that the request has changed, with the values it wrote (R176). A
changed threshold zeroes its stage's count. CONFIGURE_PLAN replaces the steps of a plan and increases its instance,
but is refused IN_USE for the plan of a run and BAD_INDEX for a plan above 3 or steps that none is;
CONFIGURE_DIRECTORY writes the four entries (R69, R160, R182, R189; logs 17, 18 and 42). That a yes/no value other
than 0 and 1, as a step's skippable byte or as a setting, is refused BAD_INDEX is log 21. -/
def Obligations.ConfigureSystemStagesAndPlans : Prop :=
  ∀ (fr : Frame) (s : State),
    let h := superviseFrame fr.link s
    (Accepts .configure fr (systemLength fr) s →
        (s.lnk.mode = .auto → exec (.configureSystem fr) s = .next (withReply 0x40 fr .wrongMode [] (conclude h)))
          ∧ (s.lnk.mode = .monitor → systemItems (systemItemsOf fr) s.settings.sys = none →
              exec (.configureSystem fr) s = .next (withReply 0x40 fr .badIndex [] (conclude h)))
          ∧ (∀ (t : SystemSettings) (clamped : Bool), s.lnk.mode = .monitor →
              systemItems (systemItemsOf fr) s.settings.sys = some (t, clamped) →
              ∃ u, exec (.configureSystem fr) s =
                  .next (modLink fr.link
                    (LinkCtl.enqueue
                      { kind := 0xC0, tag := fr.tag, payload := [if clamped then 0x01 else 0x00]
                        lines := lineChange s.settings.sys t }) (conclude u))
                ∧ u.settings =
                    { s.settings with
                      sys := t
                      stages :=
                        if t.fNom = s.settings.sys.fNom then s.settings.stages
                        else { s.settings.stages with
                          threshold := s.settings.stages.threshold.map (clampThreshold t.fNom) } }
                ∧ (∀ p : LineChange, lineChange s.settings.sys t = some p ↔
                    (t.rateA ≠ s.settings.sys.rateA ∨ t.rateB ≠ s.settings.sys.rateB
                        ∨ t.linkBEnabled ≠ s.settings.sys.linkBEnabled)
                      ∧ p.rateA = (if t.rateA = s.settings.sys.rateA then none else some t.rateA)
                      ∧ p.rateB = (if t.rateB = s.settings.sys.rateB then none else some t.rateB)
                      ∧ p.linkB =
                          (if t.linkBEnabled = s.settings.sys.linkBEnabled then none else some t.linkBEnabled))
                ∧ (t.fNom = s.settings.sys.fNom → u.fmon = s.fmon)
                ∧ (t.fNom ≠ s.settings.sys.fNom →
                    let elapsed := s.fmon.bus ≠ .dead
                      ∧ ∃ r, s.fmon.reference = some r ∧ deadBusTicks t.fNom ≤ (s.time.capture - r).toNat
                    let broken := { s.fmon with periodRing := [], freqRing := [], present := none }
                    let left : BusState := if s.fmon.bus = .live then .settling else s.fmon.bus
                    u.fmon =
                        (if elapsed then { broken with bus := .dead, origin := .none, reference := none }
                         else if s.fmon.bus = .live then { broken with bus := .settling, origin := .fromBreak }
                         else broken)
                      ∧ (∀ c ∈ [Consumer.shd, .rst, .cur, .blk],
                          Notice.bus c { bus := left, prev := s.fmon.bus, brk := true } ∈ u.notices
                            ∧ (elapsed → Notice.bus c { bus := .dead, prev := left, brk := true } ∈ u.notices)))
                ∧ (∀ f : Fin 16,
                    let style := effectiveStyle u.settings f
                    let c := s.feeders[f]
                    u.feeders[f] =
                      (if style = effectiveStyle s.settings f then c
                       else if style = .maintained then
                         { c with
                           trip := false, close := feederStatus s f, commanded := feederStatus s f, pulse := .idle }
                       else { c with trip := false, close := false, pulse := .idle }))
                ∧ u.lnk.mode = .monitor ∧ u.lnk.isLocal = s.lnk.isLocal))
      ∧ (Accepts .configure fr (fr.len == 27) s →
          (s.lnk.mode = .auto → exec (.configureStages fr) s = .next (withReply 0x41 fr .wrongMode [] (conclude h)))
            ∧ (s.lnk.mode = .monitor →
                let raw := ShedSettings.ofBytes fr.payload
                let t := raw.clamped s.settings.sys.fNom
                ∃ u, exec (.configureStages fr) s =
                    .next (withReply 0x41 fr (if t = raw then .ok else .okClamped) [] (conclude u))
                  ∧ u.settings = { s.settings with stages := t }
                  ∧ (∀ i : Fin 4, u.shd.counts[i] =
                      (if t.threshold[i] = s.settings.stages.threshold[i] then s.shd.counts[i] else 0))
                  ∧ u.shd.qual = min s.shd.qual t.qr ∧ u.shd.armed = s.shd.armed
                  ∧ SameBut [.settings, .shd] h u))
      ∧ (Accepts .configure fr (planLength fr) s →
          4 ≤ fr.byte 0 ∨ stepsOf (fr.byte 1) (fr.payload.drop 2) = none →
          exec (.configurePlan fr) s = .next (withReply 0x46 fr .badIndex [] (conclude h)))
      ∧ (Accepts .configure fr (planLength fr) s →
          ∀ (p : Fin 4) (raw : List PlanStep), fr.byte 0 = p →
            stepsOf (fr.byte 1) (fr.payload.drop 2) = some raw →
            (blkActive s = true → s.blk.run.plan = some p →
                exec (.configurePlan fr) s = .next (withReply 0x46 fr .inUse [] (conclude h)))
              ∧ (blkActive s = false ∨ s.blk.run.plan ≠ some p →
                  ∃ u, exec (.configurePlan fr) s =
                      .next (withReply 0x46 fr (if raw.map PlanStep.clamped = raw then .ok else .okClamped)
                        [s.settings.plans[p].inst + 1] (conclude u))
                    ∧ u.settings =
                        { s.settings with
                          plans := s.settings.plans.set p
                            ({ steps := raw.map PlanStep.clamped, inst := s.settings.plans[p].inst + 1 }) }
                    ∧ SameBut [.settings] h u))
      ∧ (Accepts .configure fr (fr.len == 4) s →
          (directoryOf fr.payload = none →
              exec (.configureDirectory fr) s = .next (withReply 0x47 fr .badIndex [] (conclude h)))
            ∧ (∀ d, directoryOf fr.payload = some d →
                ∃ u, exec (.configureDirectory fr) s = .next (withReply 0x47 fr .ok [] (conclude u))
                  ∧ u.settings = { s.settings with directory := d } ∧ SameBut [.settings] h u))

/-- The configuring requests of one object write its whole record in its ranges: CONFIGURE_FEEDER increases the
generation, and a changed in_service takes the feeder out of service, and out of the stack with the record of its
skip, or returns it by its status; CONFIGURE_GENSET moves a resting set with its in_service, and is refused while the
set is in use, with the status alone (log 37), and in AUTO for a set whose rank_override or energy_kws it would
change, a rank_override above 4 counting as 4 (log 36); CONFIGURE_PV recomputes the limits, 0 for a channel out of
service, which loses its droop limit with its reference (the model's choice, log 46), and, where in_service, rated_kw
or a ceiling changes, the targets of every channel; CONFIGURE_INPUT re-derives view and flag. A number above the last
object, and a field with a code that names nothing, is refused BAD_INDEX (R25, R28, R52, R53, R60, R97, R104, R115,
R118, R140, R155, R182; logs 19 and 21). -/
def Obligations.ConfigureObjectsWriteTheirRecords : Prop :=
  ∀ (fr : Frame) (s : State),
    let h := superviseFrame fr.link s
    (Accepts .configure fr (fr.len == 10) s → 16 ≤ fr.byte 0 →
        exec (.configureFeeder fr) s = .next (withReply 0x42 fr .badIndex [] (conclude h)))
      ∧ (Accepts .configure fr (fr.len == 37) s → 4 ≤ fr.byte 0 ∨ gensetWrongMode fr s = false →
          4 ≤ fr.byte 0 ∨ SetSettings.ofBytes (fr.payload.drop 1) = none →
          exec (.configureGenset fr) s = .next (withReply 0x43 fr .badIndex [] (conclude h)))
      ∧ (Accepts .configure fr (fr.len == 11) s → 6 ≤ fr.byte 0 →
          exec (.configurePv fr) s = .next (withReply 0x44 fr .badIndex [] (conclude h)))
      ∧ (Accepts .configure fr (fr.len == 5) s →
          32 ≤ fr.byte 0 ∨ InputSettings.ofBytes (fr.payload.drop 1) = none →
          exec (.configureInput fr) s = .next (withReply 0x45 fr .badIndex [] (conclude h)))
      ∧ (Accepts .configure fr (fr.len == 10) s → ∀ f : Fin 16, fr.byte 0 = f →
        let raw := FeederSettings.ofBytes (fr.payload.drop 1)
        ∃ u, exec (.configureFeeder fr) s =
            .next (withReply 0x42 fr (if raw.clamped = raw then .ok else .okClamped) (feederReply f (conclude u))
              (conclude u))
          ∧ u.settings = { s.settings with feeders := s.settings.feeders.set f raw.clamped }
          ∧ u.feeders[f].generation = s.feeders[f].generation + 1
          ∧ u.feeders[f].state =
              (if s.settings.feeders[f].inService = raw.inService then s.feeders[f].state
               else if raw.inService then stateOfStatus (feederStatus s f) else .outOfService)
          ∧ (∀ k : Fin 16, k ≠ f → u.feeders[k] = s.feeders[k])
          ∧ (listed s f = false ∨ s.settings.feeders[f].inService = raw.inService → u.rst = s.rst ∧ u.evr = h.evr)
          ∧ (listed s f = true → s.settings.feeders[f].inService = true → raw.inService = false →
              s.feeders[f].state ≠ .outOfService → LeftTheStack f (journal .feederSkipped f 4 h) u)
          ∧ SameBut [.settings, .feeders, .rst, .evr, .notices, .draws] h u)
      ∧ (Accepts .configure fr (fr.len == 37) s → ∀ g : Fin 4, fr.byte 0 = g →
          (gensetWrongMode fr s = true ↔ s.lnk.mode = .auto
              ∧ (min 4 (fr.byte 32) ≠ s.settings.sets[g].rankOverride
                ∨ fr.field 8 2 ≠ s.settings.sets[g].energyKws))
            ∧ (gensetWrongMode fr s = true →
                exec (.configureGenset fr) s = .next (withReply 0x43 fr .wrongMode [] (conclude h))))
      ∧ (Accepts .configure fr (fr.len == 37) s → gensetWrongMode fr s = false →
          ∀ (g : Fin 4) (raw : SetSettings), fr.byte 0 = g → SetSettings.ofBytes (fr.payload.drop 1) = some raw →
            (s.settings.sets[g].inService = true → raw.inService = false →
                s.gen.sets[g].state.stoppable = true →
                exec (.configureGenset fr) s = .next (withReply 0x43 fr .wrongState [] (conclude h)))
              ∧ (s.settings.sets[g].inService = false ∨ raw.inService = true
                    ∨ s.gen.sets[g].state.stoppable = false →
                  ∃ u, exec (.configureGenset fr) s =
                      .next (withReply 0x43 fr (if raw.clamped = raw then .ok else .okClamped)
                        (setReply g (conclude u)) (conclude u))
                    ∧ u.settings = { s.settings with sets := s.settings.sets.set g raw.clamped }
                    ∧ (s.gen.sets[g].state = .standby → s.settings.sets[g].inService = true →
                        raw.inService = false → u.gen.sets[g].state = .unavailable)
                    ∧ (s.gen.sets[g].state = .unavailable → s.settings.sets[g].inService = false →
                        raw.inService = true → setReady s g = true → u.gen.sets[g].state = .standby)
                    ∧ (∀ k : Fin 4, k ≠ g → u.gen.sets[k] = s.gen.sets[k])
                    ∧ SameBut [.settings, .meas, .gen, .cur, .evr, .notices, .draws] h u))
      ∧ (Accepts .configure fr (fr.len == 11) s → ∀ j : Fin 6, fr.byte 0 = j →
          let raw := PvSettings.ofBytes (fr.payload.drop 1)
          ∃ u, exec (.configurePv fr) s =
              .next (withReply 0x44 fr (if raw.clamped = raw then .ok else .okClamped)
                (unsigned 2 (effectiveCeiling (conclude u) j) ++ unsigned 2 (conclude u).cur.channels[j].limit)
                (conclude u))
            ∧ u.settings = { s.settings with channels := s.settings.channels.set j raw.clamped }
            ∧ (LimitLaw s → raw.inService = false → u.cur.channels[j].limit = 0)
            ∧ (let old := s.settings.channels[j]
               let t := raw.clamped
               old.inService ≠ t.inService ∨ old.ratedKw ≠ t.ratedKw ∨ old.hostCeiling ≠ t.hostCeiling
                  ∨ old.fallbackCeiling ≠ t.fallbackCeiling →
                s.lnk.mode = .auto → ∀ k : Fin 6, k ≠ j ∨ t.inService = true →
                  let a := s.cur.channels[k]
                  let b := u.cur.channels[k]
                  (pvTarget u k ≤ a.limit → b.limit = pvTarget u k ∧ b.remainder = 0)
                    ∧ (a.limit < pvTarget u k → b.limit = a.limit ∧ b.remainder = a.remainder))
            ∧ (s.settings.channels[j].inService = true → raw.inService = false →
                u.cur.channels[j].reference = none ∧ u.cur.channels[j].droopLimit = none)
            ∧ SameBut [.settings, .meas, .cur, .notices, .draws] h u)
      ∧ (Accepts .configure fr (fr.len == 5) s → ∀ (i : Fin 32) (t : InputSettings), fr.byte 0 = i →
          InputSettings.ofBytes (fr.payload.drop 1) = some t →
          ∃ u, exec (.configureInput fr) s = .next (withReply 0x45 fr .ok [] (conclude u))
            ∧ u.settings = { s.settings with inputs := s.settings.inputs.set i t }
            ∧ (let a := s.inputs[i]
               let b := u.inputs[i]
               let old := s.settings.inputs[i]
               b.debounced = a.debounced ∧ b.counter = a.counter ∧ b.prev = a.prev ∧ b.lastRead = a.lastRead
                ∧ b.view = (if old.latch = true ∧ t.latch = false then a.debounced else a.view)
                ∧ (old.mode ≠ t.mode → b.flag = false)
                ∧ (old.mode = t.mode → t.mode = .level → old.latch = true → t.latch = false →
                    b.flag = (b.view != a.lastRead))
                ∧ (old.mode = t.mode → old.latch = t.latch → b.flag = a.flag))
            ∧ (∀ k : Fin 32, k ≠ i → u.inputs[k] = s.inputs[k])
            ∧ SameBut [.settings, .inputs] h u)
end

