-- ==== Sys2Proof/Laws/State.lean ====
section
/-! SUPPORT. One lemma per field for every named update of State. -/

namespace Sys2Proof.Machine

/-! ### modFeeder -/

@[simp] theorem modFeeder_phase (f : Fin 16) (h : FeederCtl → FeederCtl) (s : State) : (modFeeder f h s).phase = s.phase := rfl
@[simp] theorem modFeeder_time (f : Fin 16) (h : FeederCtl → FeederCtl) (s : State) : (modFeeder f h s).time = s.time := rfl
@[simp] theorem modFeeder_settings (f : Fin 16) (h : FeederCtl → FeederCtl) (s : State) : (modFeeder f h s).settings = s.settings := rfl
@[simp] theorem modFeeder_fmon (f : Fin 16) (h : FeederCtl → FeederCtl) (s : State) : (modFeeder f h s).fmon = s.fmon := rfl
@[simp] theorem modFeeder_inputs (f : Fin 16) (h : FeederCtl → FeederCtl) (s : State) : (modFeeder f h s).inputs = s.inputs := rfl
@[simp] theorem modFeeder_meas (f : Fin 16) (h : FeederCtl → FeederCtl) (s : State) : (modFeeder f h s).meas = s.meas := rfl
@[simp] theorem modFeeder_feeders (f : Fin 16) (h : FeederCtl → FeederCtl) (s : State) : (modFeeder f h s).feeders = s.feeders.set f (h s.feeders[f]) := rfl
@[simp] theorem modFeeder_shd (f : Fin 16) (h : FeederCtl → FeederCtl) (s : State) : (modFeeder f h s).shd = s.shd := rfl
@[simp] theorem modFeeder_rst (f : Fin 16) (h : FeederCtl → FeederCtl) (s : State) : (modFeeder f h s).rst = s.rst := rfl
@[simp] theorem modFeeder_gen (f : Fin 16) (h : FeederCtl → FeederCtl) (s : State) : (modFeeder f h s).gen = s.gen := rfl
@[simp] theorem modFeeder_cur (f : Fin 16) (h : FeederCtl → FeederCtl) (s : State) : (modFeeder f h s).cur = s.cur := rfl
@[simp] theorem modFeeder_blk (f : Fin 16) (h : FeederCtl → FeederCtl) (s : State) : (modFeeder f h s).blk = s.blk := rfl
@[simp] theorem modFeeder_lnk (f : Fin 16) (h : FeederCtl → FeederCtl) (s : State) : (modFeeder f h s).lnk = s.lnk := rfl
@[simp] theorem modFeeder_evr (f : Fin 16) (h : FeederCtl → FeederCtl) (s : State) : (modFeeder f h s).evr = s.evr := rfl
@[simp] theorem modFeeder_sto (f : Fin 16) (h : FeederCtl → FeederCtl) (s : State) : (modFeeder f h s).sto = s.sto := rfl
@[simp] theorem modFeeder_notices (f : Fin 16) (h : FeederCtl → FeederCtl) (s : State) : (modFeeder f h s).notices = s.notices := rfl
@[simp] theorem modFeeder_draws (f : Fin 16) (h : FeederCtl → FeederCtl) (s : State) : (modFeeder f h s).draws = s.draws := rfl
@[simp] theorem modFeeder_pending (f : Fin 16) (h : FeederCtl → FeederCtl) (s : State) : (modFeeder f h s).pending = s.pending := rfl

/-! ### modSet -/

@[simp] theorem modSet_phase (g : Fin 4) (h : SetCtl → SetCtl) (s : State) : (modSet g h s).phase = s.phase := rfl
@[simp] theorem modSet_time (g : Fin 4) (h : SetCtl → SetCtl) (s : State) : (modSet g h s).time = s.time := rfl
@[simp] theorem modSet_settings (g : Fin 4) (h : SetCtl → SetCtl) (s : State) : (modSet g h s).settings = s.settings := rfl
@[simp] theorem modSet_fmon (g : Fin 4) (h : SetCtl → SetCtl) (s : State) : (modSet g h s).fmon = s.fmon := rfl
@[simp] theorem modSet_inputs (g : Fin 4) (h : SetCtl → SetCtl) (s : State) : (modSet g h s).inputs = s.inputs := rfl
@[simp] theorem modSet_meas (g : Fin 4) (h : SetCtl → SetCtl) (s : State) : (modSet g h s).meas = s.meas := rfl
@[simp] theorem modSet_feeders (g : Fin 4) (h : SetCtl → SetCtl) (s : State) : (modSet g h s).feeders = s.feeders := rfl
@[simp] theorem modSet_shd (g : Fin 4) (h : SetCtl → SetCtl) (s : State) : (modSet g h s).shd = s.shd := rfl
@[simp] theorem modSet_rst (g : Fin 4) (h : SetCtl → SetCtl) (s : State) : (modSet g h s).rst = s.rst := rfl
@[simp] theorem modSet_gen (g : Fin 4) (h : SetCtl → SetCtl) (s : State) : (modSet g h s).gen = { s.gen with sets := s.gen.sets.set g (h s.gen.sets[g]) } := rfl
@[simp] theorem modSet_cur (g : Fin 4) (h : SetCtl → SetCtl) (s : State) : (modSet g h s).cur = s.cur := rfl
@[simp] theorem modSet_blk (g : Fin 4) (h : SetCtl → SetCtl) (s : State) : (modSet g h s).blk = s.blk := rfl
@[simp] theorem modSet_lnk (g : Fin 4) (h : SetCtl → SetCtl) (s : State) : (modSet g h s).lnk = s.lnk := rfl
@[simp] theorem modSet_evr (g : Fin 4) (h : SetCtl → SetCtl) (s : State) : (modSet g h s).evr = s.evr := rfl
@[simp] theorem modSet_sto (g : Fin 4) (h : SetCtl → SetCtl) (s : State) : (modSet g h s).sto = s.sto := rfl
@[simp] theorem modSet_notices (g : Fin 4) (h : SetCtl → SetCtl) (s : State) : (modSet g h s).notices = s.notices := rfl
@[simp] theorem modSet_draws (g : Fin 4) (h : SetCtl → SetCtl) (s : State) : (modSet g h s).draws = s.draws := rfl
@[simp] theorem modSet_pending (g : Fin 4) (h : SetCtl → SetCtl) (s : State) : (modSet g h s).pending = s.pending := rfl

/-! ### modChannel -/

@[simp] theorem modChannel_phase (j : Fin 6) (h : ChannelCtl → ChannelCtl) (s : State) : (modChannel j h s).phase = s.phase := rfl
@[simp] theorem modChannel_time (j : Fin 6) (h : ChannelCtl → ChannelCtl) (s : State) : (modChannel j h s).time = s.time := rfl
@[simp] theorem modChannel_settings (j : Fin 6) (h : ChannelCtl → ChannelCtl) (s : State) : (modChannel j h s).settings = s.settings := rfl
@[simp] theorem modChannel_fmon (j : Fin 6) (h : ChannelCtl → ChannelCtl) (s : State) : (modChannel j h s).fmon = s.fmon := rfl
@[simp] theorem modChannel_inputs (j : Fin 6) (h : ChannelCtl → ChannelCtl) (s : State) : (modChannel j h s).inputs = s.inputs := rfl
@[simp] theorem modChannel_meas (j : Fin 6) (h : ChannelCtl → ChannelCtl) (s : State) : (modChannel j h s).meas = s.meas := rfl
@[simp] theorem modChannel_feeders (j : Fin 6) (h : ChannelCtl → ChannelCtl) (s : State) : (modChannel j h s).feeders = s.feeders := rfl
@[simp] theorem modChannel_shd (j : Fin 6) (h : ChannelCtl → ChannelCtl) (s : State) : (modChannel j h s).shd = s.shd := rfl
@[simp] theorem modChannel_rst (j : Fin 6) (h : ChannelCtl → ChannelCtl) (s : State) : (modChannel j h s).rst = s.rst := rfl
@[simp] theorem modChannel_gen (j : Fin 6) (h : ChannelCtl → ChannelCtl) (s : State) : (modChannel j h s).gen = s.gen := rfl
@[simp] theorem modChannel_cur (j : Fin 6) (h : ChannelCtl → ChannelCtl) (s : State) : (modChannel j h s).cur = { s.cur with channels := s.cur.channels.set j (h s.cur.channels[j]) } := rfl
@[simp] theorem modChannel_blk (j : Fin 6) (h : ChannelCtl → ChannelCtl) (s : State) : (modChannel j h s).blk = s.blk := rfl
@[simp] theorem modChannel_lnk (j : Fin 6) (h : ChannelCtl → ChannelCtl) (s : State) : (modChannel j h s).lnk = s.lnk := rfl
@[simp] theorem modChannel_evr (j : Fin 6) (h : ChannelCtl → ChannelCtl) (s : State) : (modChannel j h s).evr = s.evr := rfl
@[simp] theorem modChannel_sto (j : Fin 6) (h : ChannelCtl → ChannelCtl) (s : State) : (modChannel j h s).sto = s.sto := rfl
@[simp] theorem modChannel_notices (j : Fin 6) (h : ChannelCtl → ChannelCtl) (s : State) : (modChannel j h s).notices = s.notices := rfl
@[simp] theorem modChannel_draws (j : Fin 6) (h : ChannelCtl → ChannelCtl) (s : State) : (modChannel j h s).draws = s.draws := rfl
@[simp] theorem modChannel_pending (j : Fin 6) (h : ChannelCtl → ChannelCtl) (s : State) : (modChannel j h s).pending = s.pending := rfl

/-! ### modInput -/

@[simp] theorem modInput_phase (i : Fin 32) (h : InputCtl → InputCtl) (s : State) : (modInput i h s).phase = s.phase := rfl
@[simp] theorem modInput_time (i : Fin 32) (h : InputCtl → InputCtl) (s : State) : (modInput i h s).time = s.time := rfl
@[simp] theorem modInput_settings (i : Fin 32) (h : InputCtl → InputCtl) (s : State) : (modInput i h s).settings = s.settings := rfl
@[simp] theorem modInput_fmon (i : Fin 32) (h : InputCtl → InputCtl) (s : State) : (modInput i h s).fmon = s.fmon := rfl
@[simp] theorem modInput_inputs (i : Fin 32) (h : InputCtl → InputCtl) (s : State) : (modInput i h s).inputs = s.inputs.set i (h s.inputs[i]) := rfl
@[simp] theorem modInput_meas (i : Fin 32) (h : InputCtl → InputCtl) (s : State) : (modInput i h s).meas = s.meas := rfl
@[simp] theorem modInput_feeders (i : Fin 32) (h : InputCtl → InputCtl) (s : State) : (modInput i h s).feeders = s.feeders := rfl
@[simp] theorem modInput_shd (i : Fin 32) (h : InputCtl → InputCtl) (s : State) : (modInput i h s).shd = s.shd := rfl
@[simp] theorem modInput_rst (i : Fin 32) (h : InputCtl → InputCtl) (s : State) : (modInput i h s).rst = s.rst := rfl
@[simp] theorem modInput_gen (i : Fin 32) (h : InputCtl → InputCtl) (s : State) : (modInput i h s).gen = s.gen := rfl
@[simp] theorem modInput_cur (i : Fin 32) (h : InputCtl → InputCtl) (s : State) : (modInput i h s).cur = s.cur := rfl
@[simp] theorem modInput_blk (i : Fin 32) (h : InputCtl → InputCtl) (s : State) : (modInput i h s).blk = s.blk := rfl
@[simp] theorem modInput_lnk (i : Fin 32) (h : InputCtl → InputCtl) (s : State) : (modInput i h s).lnk = s.lnk := rfl
@[simp] theorem modInput_evr (i : Fin 32) (h : InputCtl → InputCtl) (s : State) : (modInput i h s).evr = s.evr := rfl
@[simp] theorem modInput_sto (i : Fin 32) (h : InputCtl → InputCtl) (s : State) : (modInput i h s).sto = s.sto := rfl
@[simp] theorem modInput_notices (i : Fin 32) (h : InputCtl → InputCtl) (s : State) : (modInput i h s).notices = s.notices := rfl
@[simp] theorem modInput_draws (i : Fin 32) (h : InputCtl → InputCtl) (s : State) : (modInput i h s).draws = s.draws := rfl
@[simp] theorem modInput_pending (i : Fin 32) (h : InputCtl → InputCtl) (s : State) : (modInput i h s).pending = s.pending := rfl

/-! ### modShd -/

@[simp] theorem modShd_phase (h : Shd → Shd) (s : State) : (modShd h s).phase = s.phase := rfl
@[simp] theorem modShd_time (h : Shd → Shd) (s : State) : (modShd h s).time = s.time := rfl
@[simp] theorem modShd_settings (h : Shd → Shd) (s : State) : (modShd h s).settings = s.settings := rfl
@[simp] theorem modShd_fmon (h : Shd → Shd) (s : State) : (modShd h s).fmon = s.fmon := rfl
@[simp] theorem modShd_inputs (h : Shd → Shd) (s : State) : (modShd h s).inputs = s.inputs := rfl
@[simp] theorem modShd_meas (h : Shd → Shd) (s : State) : (modShd h s).meas = s.meas := rfl
@[simp] theorem modShd_feeders (h : Shd → Shd) (s : State) : (modShd h s).feeders = s.feeders := rfl
@[simp] theorem modShd_shd (h : Shd → Shd) (s : State) : (modShd h s).shd = h s.shd := rfl
@[simp] theorem modShd_rst (h : Shd → Shd) (s : State) : (modShd h s).rst = s.rst := rfl
@[simp] theorem modShd_gen (h : Shd → Shd) (s : State) : (modShd h s).gen = s.gen := rfl
@[simp] theorem modShd_cur (h : Shd → Shd) (s : State) : (modShd h s).cur = s.cur := rfl
@[simp] theorem modShd_blk (h : Shd → Shd) (s : State) : (modShd h s).blk = s.blk := rfl
@[simp] theorem modShd_lnk (h : Shd → Shd) (s : State) : (modShd h s).lnk = s.lnk := rfl
@[simp] theorem modShd_evr (h : Shd → Shd) (s : State) : (modShd h s).evr = s.evr := rfl
@[simp] theorem modShd_sto (h : Shd → Shd) (s : State) : (modShd h s).sto = s.sto := rfl
@[simp] theorem modShd_notices (h : Shd → Shd) (s : State) : (modShd h s).notices = s.notices := rfl
@[simp] theorem modShd_draws (h : Shd → Shd) (s : State) : (modShd h s).draws = s.draws := rfl
@[simp] theorem modShd_pending (h : Shd → Shd) (s : State) : (modShd h s).pending = s.pending := rfl

/-! ### modRst -/

@[simp] theorem modRst_phase (h : Rst → Rst) (s : State) : (modRst h s).phase = s.phase := rfl
@[simp] theorem modRst_time (h : Rst → Rst) (s : State) : (modRst h s).time = s.time := rfl
@[simp] theorem modRst_settings (h : Rst → Rst) (s : State) : (modRst h s).settings = s.settings := rfl
@[simp] theorem modRst_fmon (h : Rst → Rst) (s : State) : (modRst h s).fmon = s.fmon := rfl
@[simp] theorem modRst_inputs (h : Rst → Rst) (s : State) : (modRst h s).inputs = s.inputs := rfl
@[simp] theorem modRst_meas (h : Rst → Rst) (s : State) : (modRst h s).meas = s.meas := rfl
@[simp] theorem modRst_feeders (h : Rst → Rst) (s : State) : (modRst h s).feeders = s.feeders := rfl
@[simp] theorem modRst_shd (h : Rst → Rst) (s : State) : (modRst h s).shd = s.shd := rfl
@[simp] theorem modRst_rst (h : Rst → Rst) (s : State) : (modRst h s).rst = h s.rst := rfl
@[simp] theorem modRst_gen (h : Rst → Rst) (s : State) : (modRst h s).gen = s.gen := rfl
@[simp] theorem modRst_cur (h : Rst → Rst) (s : State) : (modRst h s).cur = s.cur := rfl
@[simp] theorem modRst_blk (h : Rst → Rst) (s : State) : (modRst h s).blk = s.blk := rfl
@[simp] theorem modRst_lnk (h : Rst → Rst) (s : State) : (modRst h s).lnk = s.lnk := rfl
@[simp] theorem modRst_evr (h : Rst → Rst) (s : State) : (modRst h s).evr = s.evr := rfl
@[simp] theorem modRst_sto (h : Rst → Rst) (s : State) : (modRst h s).sto = s.sto := rfl
@[simp] theorem modRst_notices (h : Rst → Rst) (s : State) : (modRst h s).notices = s.notices := rfl
@[simp] theorem modRst_draws (h : Rst → Rst) (s : State) : (modRst h s).draws = s.draws := rfl
@[simp] theorem modRst_pending (h : Rst → Rst) (s : State) : (modRst h s).pending = s.pending := rfl

/-! ### modGen -/

@[simp] theorem modGen_phase (h : Gen → Gen) (s : State) : (modGen h s).phase = s.phase := rfl
@[simp] theorem modGen_time (h : Gen → Gen) (s : State) : (modGen h s).time = s.time := rfl
@[simp] theorem modGen_settings (h : Gen → Gen) (s : State) : (modGen h s).settings = s.settings := rfl
@[simp] theorem modGen_fmon (h : Gen → Gen) (s : State) : (modGen h s).fmon = s.fmon := rfl
@[simp] theorem modGen_inputs (h : Gen → Gen) (s : State) : (modGen h s).inputs = s.inputs := rfl
@[simp] theorem modGen_meas (h : Gen → Gen) (s : State) : (modGen h s).meas = s.meas := rfl
@[simp] theorem modGen_feeders (h : Gen → Gen) (s : State) : (modGen h s).feeders = s.feeders := rfl
@[simp] theorem modGen_shd (h : Gen → Gen) (s : State) : (modGen h s).shd = s.shd := rfl
@[simp] theorem modGen_rst (h : Gen → Gen) (s : State) : (modGen h s).rst = s.rst := rfl
@[simp] theorem modGen_gen (h : Gen → Gen) (s : State) : (modGen h s).gen = h s.gen := rfl
@[simp] theorem modGen_cur (h : Gen → Gen) (s : State) : (modGen h s).cur = s.cur := rfl
@[simp] theorem modGen_blk (h : Gen → Gen) (s : State) : (modGen h s).blk = s.blk := rfl
@[simp] theorem modGen_lnk (h : Gen → Gen) (s : State) : (modGen h s).lnk = s.lnk := rfl
@[simp] theorem modGen_evr (h : Gen → Gen) (s : State) : (modGen h s).evr = s.evr := rfl
@[simp] theorem modGen_sto (h : Gen → Gen) (s : State) : (modGen h s).sto = s.sto := rfl
@[simp] theorem modGen_notices (h : Gen → Gen) (s : State) : (modGen h s).notices = s.notices := rfl
@[simp] theorem modGen_draws (h : Gen → Gen) (s : State) : (modGen h s).draws = s.draws := rfl
@[simp] theorem modGen_pending (h : Gen → Gen) (s : State) : (modGen h s).pending = s.pending := rfl

/-! ### modCur -/

@[simp] theorem modCur_phase (h : Cur → Cur) (s : State) : (modCur h s).phase = s.phase := rfl
@[simp] theorem modCur_time (h : Cur → Cur) (s : State) : (modCur h s).time = s.time := rfl
@[simp] theorem modCur_settings (h : Cur → Cur) (s : State) : (modCur h s).settings = s.settings := rfl
@[simp] theorem modCur_fmon (h : Cur → Cur) (s : State) : (modCur h s).fmon = s.fmon := rfl
@[simp] theorem modCur_inputs (h : Cur → Cur) (s : State) : (modCur h s).inputs = s.inputs := rfl
@[simp] theorem modCur_meas (h : Cur → Cur) (s : State) : (modCur h s).meas = s.meas := rfl
@[simp] theorem modCur_feeders (h : Cur → Cur) (s : State) : (modCur h s).feeders = s.feeders := rfl
@[simp] theorem modCur_shd (h : Cur → Cur) (s : State) : (modCur h s).shd = s.shd := rfl
@[simp] theorem modCur_rst (h : Cur → Cur) (s : State) : (modCur h s).rst = s.rst := rfl
@[simp] theorem modCur_gen (h : Cur → Cur) (s : State) : (modCur h s).gen = s.gen := rfl
@[simp] theorem modCur_cur (h : Cur → Cur) (s : State) : (modCur h s).cur = h s.cur := rfl
@[simp] theorem modCur_blk (h : Cur → Cur) (s : State) : (modCur h s).blk = s.blk := rfl
@[simp] theorem modCur_lnk (h : Cur → Cur) (s : State) : (modCur h s).lnk = s.lnk := rfl
@[simp] theorem modCur_evr (h : Cur → Cur) (s : State) : (modCur h s).evr = s.evr := rfl
@[simp] theorem modCur_sto (h : Cur → Cur) (s : State) : (modCur h s).sto = s.sto := rfl
@[simp] theorem modCur_notices (h : Cur → Cur) (s : State) : (modCur h s).notices = s.notices := rfl
@[simp] theorem modCur_draws (h : Cur → Cur) (s : State) : (modCur h s).draws = s.draws := rfl
@[simp] theorem modCur_pending (h : Cur → Cur) (s : State) : (modCur h s).pending = s.pending := rfl

/-! ### modRun -/

@[simp] theorem modRun_phase (h : RunRecord → RunRecord) (s : State) : (modRun h s).phase = s.phase := rfl
@[simp] theorem modRun_time (h : RunRecord → RunRecord) (s : State) : (modRun h s).time = s.time := rfl
@[simp] theorem modRun_settings (h : RunRecord → RunRecord) (s : State) : (modRun h s).settings = s.settings := rfl
@[simp] theorem modRun_fmon (h : RunRecord → RunRecord) (s : State) : (modRun h s).fmon = s.fmon := rfl
@[simp] theorem modRun_inputs (h : RunRecord → RunRecord) (s : State) : (modRun h s).inputs = s.inputs := rfl
@[simp] theorem modRun_meas (h : RunRecord → RunRecord) (s : State) : (modRun h s).meas = s.meas := rfl
@[simp] theorem modRun_feeders (h : RunRecord → RunRecord) (s : State) : (modRun h s).feeders = s.feeders := rfl
@[simp] theorem modRun_shd (h : RunRecord → RunRecord) (s : State) : (modRun h s).shd = s.shd := rfl
@[simp] theorem modRun_rst (h : RunRecord → RunRecord) (s : State) : (modRun h s).rst = s.rst := rfl
@[simp] theorem modRun_gen (h : RunRecord → RunRecord) (s : State) : (modRun h s).gen = s.gen := rfl
@[simp] theorem modRun_cur (h : RunRecord → RunRecord) (s : State) : (modRun h s).cur = s.cur := rfl
@[simp] theorem modRun_blk (h : RunRecord → RunRecord) (s : State) : (modRun h s).blk = { s.blk with run := h s.blk.run } := rfl
@[simp] theorem modRun_lnk (h : RunRecord → RunRecord) (s : State) : (modRun h s).lnk = s.lnk := rfl
@[simp] theorem modRun_evr (h : RunRecord → RunRecord) (s : State) : (modRun h s).evr = s.evr := rfl
@[simp] theorem modRun_sto (h : RunRecord → RunRecord) (s : State) : (modRun h s).sto = s.sto := rfl
@[simp] theorem modRun_notices (h : RunRecord → RunRecord) (s : State) : (modRun h s).notices = s.notices := rfl
@[simp] theorem modRun_draws (h : RunRecord → RunRecord) (s : State) : (modRun h s).draws = s.draws := rfl
@[simp] theorem modRun_pending (h : RunRecord → RunRecord) (s : State) : (modRun h s).pending = s.pending := rfl

/-! ### modFmon -/

@[simp] theorem modFmon_phase (h : FMon → FMon) (s : State) : (modFmon h s).phase = s.phase := rfl
@[simp] theorem modFmon_time (h : FMon → FMon) (s : State) : (modFmon h s).time = s.time := rfl
@[simp] theorem modFmon_settings (h : FMon → FMon) (s : State) : (modFmon h s).settings = s.settings := rfl
@[simp] theorem modFmon_fmon (h : FMon → FMon) (s : State) : (modFmon h s).fmon = h s.fmon := rfl
@[simp] theorem modFmon_inputs (h : FMon → FMon) (s : State) : (modFmon h s).inputs = s.inputs := rfl
@[simp] theorem modFmon_meas (h : FMon → FMon) (s : State) : (modFmon h s).meas = s.meas := rfl
@[simp] theorem modFmon_feeders (h : FMon → FMon) (s : State) : (modFmon h s).feeders = s.feeders := rfl
@[simp] theorem modFmon_shd (h : FMon → FMon) (s : State) : (modFmon h s).shd = s.shd := rfl
@[simp] theorem modFmon_rst (h : FMon → FMon) (s : State) : (modFmon h s).rst = s.rst := rfl
@[simp] theorem modFmon_gen (h : FMon → FMon) (s : State) : (modFmon h s).gen = s.gen := rfl
@[simp] theorem modFmon_cur (h : FMon → FMon) (s : State) : (modFmon h s).cur = s.cur := rfl
@[simp] theorem modFmon_blk (h : FMon → FMon) (s : State) : (modFmon h s).blk = s.blk := rfl
@[simp] theorem modFmon_lnk (h : FMon → FMon) (s : State) : (modFmon h s).lnk = s.lnk := rfl
@[simp] theorem modFmon_evr (h : FMon → FMon) (s : State) : (modFmon h s).evr = s.evr := rfl
@[simp] theorem modFmon_sto (h : FMon → FMon) (s : State) : (modFmon h s).sto = s.sto := rfl
@[simp] theorem modFmon_notices (h : FMon → FMon) (s : State) : (modFmon h s).notices = s.notices := rfl
@[simp] theorem modFmon_draws (h : FMon → FMon) (s : State) : (modFmon h s).draws = s.draws := rfl
@[simp] theorem modFmon_pending (h : FMon → FMon) (s : State) : (modFmon h s).pending = s.pending := rfl

/-! ### modLnk -/

@[simp] theorem modLnk_phase (h : Lnk → Lnk) (s : State) : (modLnk h s).phase = s.phase := rfl
@[simp] theorem modLnk_time (h : Lnk → Lnk) (s : State) : (modLnk h s).time = s.time := rfl
@[simp] theorem modLnk_settings (h : Lnk → Lnk) (s : State) : (modLnk h s).settings = s.settings := rfl
@[simp] theorem modLnk_fmon (h : Lnk → Lnk) (s : State) : (modLnk h s).fmon = s.fmon := rfl
@[simp] theorem modLnk_inputs (h : Lnk → Lnk) (s : State) : (modLnk h s).inputs = s.inputs := rfl
@[simp] theorem modLnk_meas (h : Lnk → Lnk) (s : State) : (modLnk h s).meas = s.meas := rfl
@[simp] theorem modLnk_feeders (h : Lnk → Lnk) (s : State) : (modLnk h s).feeders = s.feeders := rfl
@[simp] theorem modLnk_shd (h : Lnk → Lnk) (s : State) : (modLnk h s).shd = s.shd := rfl
@[simp] theorem modLnk_rst (h : Lnk → Lnk) (s : State) : (modLnk h s).rst = s.rst := rfl
@[simp] theorem modLnk_gen (h : Lnk → Lnk) (s : State) : (modLnk h s).gen = s.gen := rfl
@[simp] theorem modLnk_cur (h : Lnk → Lnk) (s : State) : (modLnk h s).cur = s.cur := rfl
@[simp] theorem modLnk_blk (h : Lnk → Lnk) (s : State) : (modLnk h s).blk = s.blk := rfl
@[simp] theorem modLnk_lnk (h : Lnk → Lnk) (s : State) : (modLnk h s).lnk = h s.lnk := rfl
@[simp] theorem modLnk_evr (h : Lnk → Lnk) (s : State) : (modLnk h s).evr = s.evr := rfl
@[simp] theorem modLnk_sto (h : Lnk → Lnk) (s : State) : (modLnk h s).sto = s.sto := rfl
@[simp] theorem modLnk_notices (h : Lnk → Lnk) (s : State) : (modLnk h s).notices = s.notices := rfl
@[simp] theorem modLnk_draws (h : Lnk → Lnk) (s : State) : (modLnk h s).draws = s.draws := rfl
@[simp] theorem modLnk_pending (h : Lnk → Lnk) (s : State) : (modLnk h s).pending = s.pending := rfl

/-! ### setProt -/

@[simp] theorem setProt_phase (k : ProtFlag) (s : State) : (setProt k s).phase = s.phase := rfl
@[simp] theorem setProt_time (k : ProtFlag) (s : State) : (setProt k s).time = s.time := rfl
@[simp] theorem setProt_settings (k : ProtFlag) (s : State) : (setProt k s).settings = s.settings := rfl
@[simp] theorem setProt_fmon (k : ProtFlag) (s : State) : (setProt k s).fmon = s.fmon := rfl
@[simp] theorem setProt_inputs (k : ProtFlag) (s : State) : (setProt k s).inputs = s.inputs := rfl
@[simp] theorem setProt_meas (k : ProtFlag) (s : State) : (setProt k s).meas = s.meas := rfl
@[simp] theorem setProt_feeders (k : ProtFlag) (s : State) : (setProt k s).feeders = s.feeders := rfl
@[simp] theorem setProt_shd (k : ProtFlag) (s : State) : (setProt k s).shd = s.shd := rfl
@[simp] theorem setProt_rst (k : ProtFlag) (s : State) : (setProt k s).rst = s.rst := rfl
@[simp] theorem setProt_gen (k : ProtFlag) (s : State) : (setProt k s).gen = s.gen := rfl
@[simp] theorem setProt_cur (k : ProtFlag) (s : State) : (setProt k s).cur = s.cur := rfl
@[simp] theorem setProt_blk (k : ProtFlag) (s : State) : (setProt k s).blk = s.blk := rfl
@[simp] theorem setProt_lnk (k : ProtFlag) (s : State) : (setProt k s).lnk = s.lnk := rfl
@[simp] theorem setProt_evr (k : ProtFlag) (s : State) : (setProt k s).evr = { s.evr with protection := s.evr.protection ||| (1#16 <<< k.bit) } := rfl
@[simp] theorem setProt_sto (k : ProtFlag) (s : State) : (setProt k s).sto = s.sto := rfl
@[simp] theorem setProt_notices (k : ProtFlag) (s : State) : (setProt k s).notices = s.notices := rfl
@[simp] theorem setProt_draws (k : ProtFlag) (s : State) : (setProt k s).draws = s.draws := rfl
@[simp] theorem setProt_pending (k : ProtFlag) (s : State) : (setProt k s).pending = s.pending := rfl

/-! ### setAdv -/

@[simp] theorem setAdv_phase (k : AdvFlag) (s : State) : (setAdv k s).phase = s.phase := rfl
@[simp] theorem setAdv_time (k : AdvFlag) (s : State) : (setAdv k s).time = s.time := rfl
@[simp] theorem setAdv_settings (k : AdvFlag) (s : State) : (setAdv k s).settings = s.settings := rfl
@[simp] theorem setAdv_fmon (k : AdvFlag) (s : State) : (setAdv k s).fmon = s.fmon := rfl
@[simp] theorem setAdv_inputs (k : AdvFlag) (s : State) : (setAdv k s).inputs = s.inputs := rfl
@[simp] theorem setAdv_meas (k : AdvFlag) (s : State) : (setAdv k s).meas = s.meas := rfl
@[simp] theorem setAdv_feeders (k : AdvFlag) (s : State) : (setAdv k s).feeders = s.feeders := rfl
@[simp] theorem setAdv_shd (k : AdvFlag) (s : State) : (setAdv k s).shd = s.shd := rfl
@[simp] theorem setAdv_rst (k : AdvFlag) (s : State) : (setAdv k s).rst = s.rst := rfl
@[simp] theorem setAdv_gen (k : AdvFlag) (s : State) : (setAdv k s).gen = s.gen := rfl
@[simp] theorem setAdv_cur (k : AdvFlag) (s : State) : (setAdv k s).cur = s.cur := rfl
@[simp] theorem setAdv_blk (k : AdvFlag) (s : State) : (setAdv k s).blk = s.blk := rfl
@[simp] theorem setAdv_lnk (k : AdvFlag) (s : State) : (setAdv k s).lnk = s.lnk := rfl
@[simp] theorem setAdv_evr (k : AdvFlag) (s : State) : (setAdv k s).evr = { s.evr with advisory := s.evr.advisory ||| (1#16 <<< k.bit) } := rfl
@[simp] theorem setAdv_sto (k : AdvFlag) (s : State) : (setAdv k s).sto = s.sto := rfl
@[simp] theorem setAdv_notices (k : AdvFlag) (s : State) : (setAdv k s).notices = s.notices := rfl
@[simp] theorem setAdv_draws (k : AdvFlag) (s : State) : (setAdv k s).draws = s.draws := rfl
@[simp] theorem setAdv_pending (k : AdvFlag) (s : State) : (setAdv k s).pending = s.pending := rfl

/-! ### drawn -/

@[simp] theorem drawn_phase (s : State) : (drawn s).phase = s.phase := rfl
@[simp] theorem drawn_time (s : State) : (drawn s).time = s.time := rfl
@[simp] theorem drawn_settings (s : State) : (drawn s).settings = s.settings := rfl
@[simp] theorem drawn_fmon (s : State) : (drawn s).fmon = s.fmon := rfl
@[simp] theorem drawn_inputs (s : State) : (drawn s).inputs = s.inputs := rfl
@[simp] theorem drawn_meas (s : State) : (drawn s).meas = s.meas := rfl
@[simp] theorem drawn_feeders (s : State) : (drawn s).feeders = s.feeders := rfl
@[simp] theorem drawn_shd (s : State) : (drawn s).shd = s.shd := rfl
@[simp] theorem drawn_rst (s : State) : (drawn s).rst = s.rst := rfl
@[simp] theorem drawn_gen (s : State) : (drawn s).gen = s.gen := rfl
@[simp] theorem drawn_cur (s : State) : (drawn s).cur = s.cur := rfl
@[simp] theorem drawn_blk (s : State) : (drawn s).blk = s.blk := rfl
@[simp] theorem drawn_lnk (s : State) : (drawn s).lnk = s.lnk := rfl
@[simp] theorem drawn_evr (s : State) : (drawn s).evr = s.evr := rfl
@[simp] theorem drawn_sto (s : State) : (drawn s).sto = s.sto := rfl
@[simp] theorem drawn_notices (s : State) : (drawn s).notices = s.notices := rfl
@[simp] theorem drawn_draws (s : State) : (drawn s).draws = s.draws + 1 := rfl
@[simp] theorem drawn_pending (s : State) : (drawn s).pending = s.pending := rfl

/-! ### State.withEvr -/

@[simp] theorem withEvr_phase (h : Evr → Evr) (s : State) : (s.withEvr h).phase = s.phase := rfl
@[simp] theorem withEvr_time (h : Evr → Evr) (s : State) : (s.withEvr h).time = s.time := rfl
@[simp] theorem withEvr_settings (h : Evr → Evr) (s : State) : (s.withEvr h).settings = s.settings := rfl
@[simp] theorem withEvr_fmon (h : Evr → Evr) (s : State) : (s.withEvr h).fmon = s.fmon := rfl
@[simp] theorem withEvr_inputs (h : Evr → Evr) (s : State) : (s.withEvr h).inputs = s.inputs := rfl
@[simp] theorem withEvr_meas (h : Evr → Evr) (s : State) : (s.withEvr h).meas = s.meas := rfl
@[simp] theorem withEvr_feeders (h : Evr → Evr) (s : State) : (s.withEvr h).feeders = s.feeders := rfl
@[simp] theorem withEvr_shd (h : Evr → Evr) (s : State) : (s.withEvr h).shd = s.shd := rfl
@[simp] theorem withEvr_rst (h : Evr → Evr) (s : State) : (s.withEvr h).rst = s.rst := rfl
@[simp] theorem withEvr_gen (h : Evr → Evr) (s : State) : (s.withEvr h).gen = s.gen := rfl
@[simp] theorem withEvr_cur (h : Evr → Evr) (s : State) : (s.withEvr h).cur = s.cur := rfl
@[simp] theorem withEvr_blk (h : Evr → Evr) (s : State) : (s.withEvr h).blk = s.blk := rfl
@[simp] theorem withEvr_lnk (h : Evr → Evr) (s : State) : (s.withEvr h).lnk = s.lnk := rfl
@[simp] theorem withEvr_evr (h : Evr → Evr) (s : State) : (s.withEvr h).evr = h s.evr := rfl
@[simp] theorem withEvr_sto (h : Evr → Evr) (s : State) : (s.withEvr h).sto = s.sto := rfl
@[simp] theorem withEvr_notices (h : Evr → Evr) (s : State) : (s.withEvr h).notices = s.notices := rfl
@[simp] theorem withEvr_draws (h : Evr → Evr) (s : State) : (s.withEvr h).draws = s.draws := rfl
@[simp] theorem withEvr_pending (h : Evr → Evr) (s : State) : (s.withEvr h).pending = s.pending := rfl

/-! ### modLink -/

@[simp] theorem modLink_phase (l : Link) (h : LinkCtl → LinkCtl) (s : State) : (modLink l h s).phase = s.phase := by
  cases l <;> rfl
@[simp] theorem modLink_time (l : Link) (h : LinkCtl → LinkCtl) (s : State) : (modLink l h s).time = s.time := by
  cases l <;> rfl
@[simp] theorem modLink_settings (l : Link) (h : LinkCtl → LinkCtl) (s : State) : (modLink l h s).settings = s.settings := by
  cases l <;> rfl
@[simp] theorem modLink_fmon (l : Link) (h : LinkCtl → LinkCtl) (s : State) : (modLink l h s).fmon = s.fmon := by
  cases l <;> rfl
@[simp] theorem modLink_inputs (l : Link) (h : LinkCtl → LinkCtl) (s : State) : (modLink l h s).inputs = s.inputs := by
  cases l <;> rfl
@[simp] theorem modLink_meas (l : Link) (h : LinkCtl → LinkCtl) (s : State) : (modLink l h s).meas = s.meas := by
  cases l <;> rfl
@[simp] theorem modLink_feeders (l : Link) (h : LinkCtl → LinkCtl) (s : State) : (modLink l h s).feeders = s.feeders := by
  cases l <;> rfl
@[simp] theorem modLink_shd (l : Link) (h : LinkCtl → LinkCtl) (s : State) : (modLink l h s).shd = s.shd := by
  cases l <;> rfl
@[simp] theorem modLink_rst (l : Link) (h : LinkCtl → LinkCtl) (s : State) : (modLink l h s).rst = s.rst := by
  cases l <;> rfl
@[simp] theorem modLink_gen (l : Link) (h : LinkCtl → LinkCtl) (s : State) : (modLink l h s).gen = s.gen := by
  cases l <;> rfl
@[simp] theorem modLink_cur (l : Link) (h : LinkCtl → LinkCtl) (s : State) : (modLink l h s).cur = s.cur := by
  cases l <;> rfl
@[simp] theorem modLink_blk (l : Link) (h : LinkCtl → LinkCtl) (s : State) : (modLink l h s).blk = s.blk := by
  cases l <;> rfl
@[simp] theorem modLink_evr (l : Link) (h : LinkCtl → LinkCtl) (s : State) : (modLink l h s).evr = s.evr := by
  cases l <;> rfl
@[simp] theorem modLink_sto (l : Link) (h : LinkCtl → LinkCtl) (s : State) : (modLink l h s).sto = s.sto := by
  cases l <;> rfl
@[simp] theorem modLink_notices (l : Link) (h : LinkCtl → LinkCtl) (s : State) : (modLink l h s).notices = s.notices := by
  cases l <;> rfl
@[simp] theorem modLink_draws (l : Link) (h : LinkCtl → LinkCtl) (s : State) : (modLink l h s).draws = s.draws := by
  cases l <;> rfl
@[simp] theorem modLink_pending (l : Link) (h : LinkCtl → LinkCtl) (s : State) : (modLink l h s).pending = s.pending := by
  cases l <;> rfl

@[simp] theorem modLink_link (l : Link) (h : LinkCtl → LinkCtl) (s : State) : (modLink l h s).link l = h (s.link l) := by
  cases l <;> rfl

@[simp] theorem modLink_link_ne {l k : Link} (hk : k ≠ l) (h : LinkCtl → LinkCtl) (s : State) :
    (modLink l h s).link k = s.link k := by
  cases l <;> cases k <;> first | rfl | exact absurd rfl hk

/-! ### emit -/

@[simp] theorem emit_phase (d : List Consumer) (mk : Consumer → Notice) (s : State) : (emit d mk s).phase = s.phase := rfl
@[simp] theorem emit_time (d : List Consumer) (mk : Consumer → Notice) (s : State) : (emit d mk s).time = s.time := rfl
@[simp] theorem emit_settings (d : List Consumer) (mk : Consumer → Notice) (s : State) : (emit d mk s).settings = s.settings := rfl
@[simp] theorem emit_fmon (d : List Consumer) (mk : Consumer → Notice) (s : State) : (emit d mk s).fmon = s.fmon := rfl
@[simp] theorem emit_inputs (d : List Consumer) (mk : Consumer → Notice) (s : State) : (emit d mk s).inputs = s.inputs := rfl
@[simp] theorem emit_meas (d : List Consumer) (mk : Consumer → Notice) (s : State) : (emit d mk s).meas = s.meas := rfl
@[simp] theorem emit_feeders (d : List Consumer) (mk : Consumer → Notice) (s : State) : (emit d mk s).feeders = s.feeders := rfl
@[simp] theorem emit_shd (d : List Consumer) (mk : Consumer → Notice) (s : State) : (emit d mk s).shd = s.shd := rfl
@[simp] theorem emit_rst (d : List Consumer) (mk : Consumer → Notice) (s : State) : (emit d mk s).rst = s.rst := rfl
@[simp] theorem emit_gen (d : List Consumer) (mk : Consumer → Notice) (s : State) : (emit d mk s).gen = s.gen := rfl
@[simp] theorem emit_cur (d : List Consumer) (mk : Consumer → Notice) (s : State) : (emit d mk s).cur = s.cur := rfl
@[simp] theorem emit_blk (d : List Consumer) (mk : Consumer → Notice) (s : State) : (emit d mk s).blk = s.blk := rfl
@[simp] theorem emit_lnk (d : List Consumer) (mk : Consumer → Notice) (s : State) : (emit d mk s).lnk = s.lnk := rfl
@[simp] theorem emit_evr (d : List Consumer) (mk : Consumer → Notice) (s : State) : (emit d mk s).evr = s.evr := rfl
@[simp] theorem emit_sto (d : List Consumer) (mk : Consumer → Notice) (s : State) : (emit d mk s).sto = s.sto := rfl
@[simp] theorem emit_notices (d : List Consumer) (mk : Consumer → Notice) (s : State) :
    (emit d mk s).notices = s.notices ++ (permute (nextOrder s) d).map mk := rfl
@[simp] theorem emit_draws (d : List Consumer) (mk : Consumer → Notice) (s : State) : (emit d mk s).draws = s.draws + 1 := rfl
@[simp] theorem emit_pending (d : List Consumer) (mk : Consumer → Notice) (s : State) : (emit d mk s).pending = s.pending := rfl

/-! ### emitFirst -/

@[simp] theorem emitFirst_phase (n : Notice) (s : State) : (emitFirst n s).phase = s.phase := rfl
@[simp] theorem emitFirst_time (n : Notice) (s : State) : (emitFirst n s).time = s.time := rfl
@[simp] theorem emitFirst_settings (n : Notice) (s : State) : (emitFirst n s).settings = s.settings := rfl
@[simp] theorem emitFirst_fmon (n : Notice) (s : State) : (emitFirst n s).fmon = s.fmon := rfl
@[simp] theorem emitFirst_inputs (n : Notice) (s : State) : (emitFirst n s).inputs = s.inputs := rfl
@[simp] theorem emitFirst_meas (n : Notice) (s : State) : (emitFirst n s).meas = s.meas := rfl
@[simp] theorem emitFirst_feeders (n : Notice) (s : State) : (emitFirst n s).feeders = s.feeders := rfl
@[simp] theorem emitFirst_shd (n : Notice) (s : State) : (emitFirst n s).shd = s.shd := rfl
@[simp] theorem emitFirst_rst (n : Notice) (s : State) : (emitFirst n s).rst = s.rst := rfl
@[simp] theorem emitFirst_gen (n : Notice) (s : State) : (emitFirst n s).gen = s.gen := rfl
@[simp] theorem emitFirst_cur (n : Notice) (s : State) : (emitFirst n s).cur = s.cur := rfl
@[simp] theorem emitFirst_blk (n : Notice) (s : State) : (emitFirst n s).blk = s.blk := rfl
@[simp] theorem emitFirst_lnk (n : Notice) (s : State) : (emitFirst n s).lnk = s.lnk := rfl
@[simp] theorem emitFirst_evr (n : Notice) (s : State) : (emitFirst n s).evr = s.evr := rfl
@[simp] theorem emitFirst_sto (n : Notice) (s : State) : (emitFirst n s).sto = s.sto := rfl
@[simp] theorem emitFirst_notices (n : Notice) (s : State) : (emitFirst n s).notices = n :: s.notices := rfl
@[simp] theorem emitFirst_draws (n : Notice) (s : State) : (emitFirst n s).draws = s.draws := rfl
@[simp] theorem emitFirst_pending (n : Notice) (s : State) : (emitFirst n s).pending = s.pending := rfl

/-! ### emitAmong -/

@[simp] theorem emitAmong_phase (n : Notice) (s : State) : (emitAmong n s).phase = s.phase := rfl
@[simp] theorem emitAmong_time (n : Notice) (s : State) : (emitAmong n s).time = s.time := rfl
@[simp] theorem emitAmong_settings (n : Notice) (s : State) : (emitAmong n s).settings = s.settings := rfl
@[simp] theorem emitAmong_fmon (n : Notice) (s : State) : (emitAmong n s).fmon = s.fmon := rfl
@[simp] theorem emitAmong_inputs (n : Notice) (s : State) : (emitAmong n s).inputs = s.inputs := rfl
@[simp] theorem emitAmong_meas (n : Notice) (s : State) : (emitAmong n s).meas = s.meas := rfl
@[simp] theorem emitAmong_feeders (n : Notice) (s : State) : (emitAmong n s).feeders = s.feeders := rfl
@[simp] theorem emitAmong_shd (n : Notice) (s : State) : (emitAmong n s).shd = s.shd := rfl
@[simp] theorem emitAmong_rst (n : Notice) (s : State) : (emitAmong n s).rst = s.rst := rfl
@[simp] theorem emitAmong_gen (n : Notice) (s : State) : (emitAmong n s).gen = s.gen := rfl
@[simp] theorem emitAmong_cur (n : Notice) (s : State) : (emitAmong n s).cur = s.cur := rfl
@[simp] theorem emitAmong_blk (n : Notice) (s : State) : (emitAmong n s).blk = s.blk := rfl
@[simp] theorem emitAmong_lnk (n : Notice) (s : State) : (emitAmong n s).lnk = s.lnk := rfl
@[simp] theorem emitAmong_evr (n : Notice) (s : State) : (emitAmong n s).evr = s.evr := rfl
@[simp] theorem emitAmong_sto (n : Notice) (s : State) : (emitAmong n s).sto = s.sto := rfl
@[simp] theorem emitAmong_notices (n : Notice) (s : State) :
    (emitAmong n s).notices = insertAt (nextOrder s % (s.notices.length + 1)) n s.notices := rfl
@[simp] theorem emitAmong_draws (n : Notice) (s : State) : (emitAmong n s).draws = s.draws + 1 := rfl
@[simp] theorem emitAmong_pending (n : Notice) (s : State) : (emitAmong n s).pending = s.pending := rfl

/-! ### journal -/

@[simp] theorem journal_phase (k : JournalKind) (o : Nat) (v : Int) (s : State) : (journal k o v s).phase = s.phase := by
  unfold journal; dsimp only; split_ifs <;> rfl
@[simp] theorem journal_time (k : JournalKind) (o : Nat) (v : Int) (s : State) : (journal k o v s).time = s.time := by
  unfold journal; dsimp only; split_ifs <;> rfl
@[simp] theorem journal_settings (k : JournalKind) (o : Nat) (v : Int) (s : State) : (journal k o v s).settings = s.settings := by
  unfold journal; dsimp only; split_ifs <;> rfl
@[simp] theorem journal_fmon (k : JournalKind) (o : Nat) (v : Int) (s : State) : (journal k o v s).fmon = s.fmon := by
  unfold journal; dsimp only; split_ifs <;> rfl
@[simp] theorem journal_inputs (k : JournalKind) (o : Nat) (v : Int) (s : State) : (journal k o v s).inputs = s.inputs := by
  unfold journal; dsimp only; split_ifs <;> rfl
@[simp] theorem journal_meas (k : JournalKind) (o : Nat) (v : Int) (s : State) : (journal k o v s).meas = s.meas := by
  unfold journal; dsimp only; split_ifs <;> rfl
@[simp] theorem journal_feeders (k : JournalKind) (o : Nat) (v : Int) (s : State) : (journal k o v s).feeders = s.feeders := by
  unfold journal; dsimp only; split_ifs <;> rfl
@[simp] theorem journal_shd (k : JournalKind) (o : Nat) (v : Int) (s : State) : (journal k o v s).shd = s.shd := by
  unfold journal; dsimp only; split_ifs <;> rfl
@[simp] theorem journal_rst (k : JournalKind) (o : Nat) (v : Int) (s : State) : (journal k o v s).rst = s.rst := by
  unfold journal; dsimp only; split_ifs <;> rfl
@[simp] theorem journal_gen (k : JournalKind) (o : Nat) (v : Int) (s : State) : (journal k o v s).gen = s.gen := by
  unfold journal; dsimp only; split_ifs <;> rfl
@[simp] theorem journal_cur (k : JournalKind) (o : Nat) (v : Int) (s : State) : (journal k o v s).cur = s.cur := by
  unfold journal; dsimp only; split_ifs <;> rfl
@[simp] theorem journal_blk (k : JournalKind) (o : Nat) (v : Int) (s : State) : (journal k o v s).blk = s.blk := by
  unfold journal; dsimp only; split_ifs <;> rfl
@[simp] theorem journal_lnk (k : JournalKind) (o : Nat) (v : Int) (s : State) : (journal k o v s).lnk = s.lnk := by
  unfold journal; dsimp only; split_ifs <;> rfl
@[simp] theorem journal_sto (k : JournalKind) (o : Nat) (v : Int) (s : State) : (journal k o v s).sto = s.sto := by
  unfold journal; dsimp only; split_ifs <;> rfl
@[simp] theorem journal_notices (k : JournalKind) (o : Nat) (v : Int) (s : State) : (journal k o v s).notices = s.notices := by
  unfold journal; dsimp only; split_ifs <;> rfl
@[simp] theorem journal_draws (k : JournalKind) (o : Nat) (v : Int) (s : State) : (journal k o v s).draws = s.draws := by
  unfold journal; dsimp only; split_ifs <;> rfl
@[simp] theorem journal_pending (k : JournalKind) (o : Nat) (v : Int) (s : State) : (journal k o v s).pending = s.pending := by
  unfold journal; dsimp only; split_ifs <;> rfl

/-- What a record leaves of the journal: the rule of R195 for the list. -/
@[simp] theorem journal_evr_journal (k : JournalKind) (o : Nat) (v : Int) (s : State) :
    (journal k o v s).evr.journal = journalPush s.evr.journal ⟨s.time.part, k.code, o, v⟩ := by
  unfold journal; dsimp only; split_ifs <;> rfl

@[simp] theorem journal_evr_protection (k : JournalKind) (o : Nat) (v : Int) (s : State) :
    (journal k o v s).evr.protection = s.evr.protection := by
  unfold journal; dsimp only; split_ifs <;> rfl

@[simp] theorem journal_evr_maskProtection (k : JournalKind) (o : Nat) (v : Int) (s : State) :
    (journal k o v s).evr.maskProtection = s.evr.maskProtection := by
  unfold journal; dsimp only; split_ifs <;> rfl

@[simp] theorem journal_evr_maskAdvisory (k : JournalKind) (o : Nat) (v : Int) (s : State) :
    (journal k o v s).evr.maskAdvisory = s.evr.maskAdvisory := by
  unfold journal; dsimp only; split_ifs <;> rfl

/-- The flags that adding a record sets: JOURNAL_OVERRUN when a record is lost, JOURNAL_HALF at exactly 16. -/
theorem journal_evr_advisory (k : JournalKind) (o : Nat) (v : Int) (s : State) :
    (journal k o v s).evr.advisory =
      if Config.journalMax ≤ s.evr.journal.length then s.evr.advisory ||| (1#16 <<< AdvFlag.journalOverrun.bit)
      else if s.evr.journal.length + 1 = 16 then s.evr.advisory ||| (1#16 <<< AdvFlag.journalHalf.bit)
      else s.evr.advisory := by
  unfold journal; dsimp only; split_ifs <;> rfl

/-- The law of the journal holds after a record (R195). -/
theorem journalPush_length_le (j : List JournalRecord) (r : JournalRecord) :
    (journalPush j r).length ≤ Config.journalMax := by
  unfold journalPush Config.journalMax
  split_ifs <;> simp <;> omega

end Sys2Proof.Machine
end

