-- ==== Sys2Proof/Laws/Frames.lean ====
section
/-! SUPPORT. The frame of every shared operation: the parts of the state that it can change, said once. -/

namespace Sys2Proof.Machine

/-! ### Composing frames -/

@[simp] theorem SameBut.refl (ps : List Part) (s : State) : SameBut ps s s := by
  intro p _; cases p <;> rfl

theorem SameBut.trans {ps : List Part} {s t u : State} (a : SameBut ps s t) (b : SameBut ps t u) :
    SameBut ps s u := by
  intro p hp
  have h := a p hp
  have k := b p hp
  cases p <;> exact k.trans h

theorem SameBut.mono {ps qs : List Part} {s t : State} (h : SameBut ps s t) (sub : ∀ p ∈ ps, p ∈ qs) :
    SameBut qs s t := fun p hp => h p fun hq => hp (sub p hq)

/-- A frame read at a wider list of parts, the inclusion being decided. -/
theorem SameBut.widen {ps : List Part} (qs : List Part) {s t : State} (h : SameBut ps s t)
    (sub : ps.all (· ∈ qs) = true) : SameBut qs s t :=
  h.mono (by simpa using sub)

theorem SameBut.ite {ps : List Part} {s a b : State} {c : Prop} [Decidable c] (ha : SameBut ps s a)
    (hb : SameBut ps s b) : SameBut ps s (if c then a else b) := by
  split
  · exact ha
  · exact hb

theorem SameBut.foldl {α : Type} {ps : List Part} {f : State → α → State} (h : ∀ s x, SameBut ps s (f s x)) :
    ∀ (l : List α) (s : State), SameBut ps s (l.foldl f s)
  | [], s => SameBut.refl ps s
  | x :: l, s => (h s x).trans (SameBut.foldl h l (f s x))

/-! ### What a frame says of one part -/

section Fields

variable {ps : List Part} {s t : State}

theorem SameBut.phase (h : SameBut ps s t) (hp : Part.phase ∉ ps) : t.phase = s.phase := h .phase hp
theorem SameBut.time (h : SameBut ps s t) (hp : Part.time ∉ ps) : t.time = s.time := h .time hp
theorem SameBut.settings (h : SameBut ps s t) (hp : Part.settings ∉ ps) : t.settings = s.settings := h .settings hp
theorem SameBut.fmon (h : SameBut ps s t) (hp : Part.fmon ∉ ps) : t.fmon = s.fmon := h .fmon hp
theorem SameBut.inputs (h : SameBut ps s t) (hp : Part.inputs ∉ ps) : t.inputs = s.inputs := h .inputs hp
theorem SameBut.meas (h : SameBut ps s t) (hp : Part.meas ∉ ps) : t.meas = s.meas := h .meas hp
theorem SameBut.feeders (h : SameBut ps s t) (hp : Part.feeders ∉ ps) : t.feeders = s.feeders := h .feeders hp
theorem SameBut.shd (h : SameBut ps s t) (hp : Part.shd ∉ ps) : t.shd = s.shd := h .shd hp
theorem SameBut.rst (h : SameBut ps s t) (hp : Part.rst ∉ ps) : t.rst = s.rst := h .rst hp
theorem SameBut.gen (h : SameBut ps s t) (hp : Part.gen ∉ ps) : t.gen = s.gen := h .gen hp
theorem SameBut.cur (h : SameBut ps s t) (hp : Part.cur ∉ ps) : t.cur = s.cur := h .cur hp
theorem SameBut.blk (h : SameBut ps s t) (hp : Part.blk ∉ ps) : t.blk = s.blk := h .blk hp
theorem SameBut.lnk (h : SameBut ps s t) (hp : Part.lnk ∉ ps) : t.lnk = s.lnk := h .lnk hp
theorem SameBut.evr (h : SameBut ps s t) (hp : Part.evr ∉ ps) : t.evr = s.evr := h .evr hp
theorem SameBut.sto (h : SameBut ps s t) (hp : Part.sto ∉ ps) : t.sto = s.sto := h .sto hp
theorem SameBut.notices (h : SameBut ps s t) (hp : Part.notices ∉ ps) : t.notices = s.notices := h .notices hp
theorem SameBut.draws (h : SameBut ps s t) (hp : Part.draws ∉ ps) : t.draws = s.draws := h .draws hp
theorem SameBut.pending (h : SameBut ps s t) (hp : Part.pending ∉ ps) : t.pending = s.pending := h .pending hp

end Fields

/-! ### Frames as rewriting -/

theorem SameBut.symm {ps : List Part} {s t : State} (h : SameBut ps s t) : SameBut ps t s := by
  intro p hp
  have k := h p hp
  cases p <;> exact k.symm

/-- An operation that keeps every part outside `qs` does not matter to a frame at a list that holds `qs`. -/
theorem sameBut_iff {ps qs : List Part} {s t u : State} (h : SameBut qs t u) (sub : qs.all (· ∈ ps) = true) :
    SameBut ps s u ↔ SameBut ps s t :=
  ⟨fun k => k.trans (h.widen ps sub).symm, fun k => k.trans (h.widen ps sub)⟩

@[simp] theorem sameBut_ite {ps : List Part} {s a b : State} {c : Prop} {_ : Decidable c} :
    SameBut ps s (if c then a else b) ↔ if c then SameBut ps s a else SameBut ps s b := by
  split <;> rfl

@[simp] theorem sameBut_foldl {α : Type} {ps : List Part} {s t : State} {f : State → α → State} {l : List α}
    (h : ∀ s x, SameBut ps s (f s x)) : SameBut ps s (l.foldl f t) ↔ SameBut ps s t :=
  ⟨fun k => k.trans (SameBut.foldl h l t).symm, fun k => k.trans (SameBut.foldl h l t)⟩

/-- A frame of a state written out: the parts outside the list stand. -/
@[simp] theorem sameBut_mk {ps : List Part} {s : State} {x0 x1 x2 x3 x4 x5 x6 x7 x8 x9 x10 x11 x12 x13 x14 x15 x16 x17} :
    SameBut ps s ⟨x0, x1, x2, x3, x4, x5, x6, x7, x8, x9, x10, x11, x12, x13, x14, x15, x16, x17⟩ ↔
      (Part.phase ∉ ps → x0 = s.phase) ∧ (Part.time ∉ ps → x1 = s.time) ∧ (Part.settings ∉ ps → x2 = s.settings) ∧ (Part.fmon ∉ ps → x3 = s.fmon) ∧ (Part.inputs ∉ ps → x4 = s.inputs) ∧ (Part.meas ∉ ps → x5 = s.meas) ∧ (Part.feeders ∉ ps → x6 = s.feeders) ∧ (Part.shd ∉ ps → x7 = s.shd) ∧ (Part.rst ∉ ps → x8 = s.rst) ∧ (Part.gen ∉ ps → x9 = s.gen) ∧ (Part.cur ∉ ps → x10 = s.cur) ∧ (Part.blk ∉ ps → x11 = s.blk) ∧ (Part.lnk ∉ ps → x12 = s.lnk) ∧ (Part.evr ∉ ps → x13 = s.evr) ∧ (Part.sto ∉ ps → x14 = s.sto) ∧ (Part.notices ∉ ps → x15 = s.notices) ∧ (Part.draws ∉ ps → x16 = s.draws) ∧ (Part.pending ∉ ps → x17 = s.pending) :=
  ⟨fun h => ⟨h .phase, h .time, h .settings, h .fmon, h .inputs, h .meas, h .feeders, h .shd, h .rst, h .gen, h .cur, h .blk, h .lnk, h .evr, h .sto, h .notices, h .draws, h .pending⟩,
    fun ⟨h0, h1, h2, h3, h4, h5, h6, h7, h8, h9, h10, h11, h12, h13, h14, h15, h16, h17⟩ p hp => by
      cases p
      · exact h0 hp
      · exact h1 hp
      · exact h2 hp
      · exact h3 hp
      · exact h4 hp
      · exact h5 hp
      · exact h6 hp
      · exact h7 hp
      · exact h8 hp
      · exact h9 hp
      · exact h10 hp
      · exact h11 hp
      · exact h12 hp
      · exact h13 hp
      · exact h14 hp
      · exact h15 hp
      · exact h16 hp
      · exact h17 hp⟩

end Sys2Proof.Machine
end

