-- ==== Sys2Proof/Laws/OperationFrames.lean ====
section
/-! SUPPORT. For every shared operation, the parts of the state that it can change (`<operation>_frame`), and the same
as a rewriting of frames (`sameBut_<operation>`). -/

namespace Sys2Proof.Machine

/-! ### Records and reports -/

theorem modFeeder_frame (f : Fin 16) (h : FeederCtl → FeederCtl) (s : State) : SameBut [.feeders] s (modFeeder f h s) := by
  intro p hp; cases p <;> first | rfl | exact absurd (by decide) hp
@[simp] theorem sameBut_modFeeder {ps : List Part} (f : Fin 16) (h : FeederCtl → FeederCtl) {s t : State}
    (hp : [Part.feeders].all (· ∈ ps) = true) :
    SameBut ps s (modFeeder f h t) ↔ SameBut ps s t :=
  sameBut_iff (modFeeder_frame f h t) hp

theorem modSet_frame (g : Fin 4) (h : SetCtl → SetCtl) (s : State) : SameBut [.gen] s (modSet g h s) := by
  intro p hp; cases p <;> first | rfl | exact absurd (by decide) hp
@[simp] theorem sameBut_modSet {ps : List Part} (g : Fin 4) (h : SetCtl → SetCtl) {s t : State}
    (hp : [Part.gen].all (· ∈ ps) = true) :
    SameBut ps s (modSet g h t) ↔ SameBut ps s t :=
  sameBut_iff (modSet_frame g h t) hp

theorem modChannel_frame (j : Fin 6) (h : ChannelCtl → ChannelCtl) (s : State) : SameBut [.cur] s (modChannel j h s) := by
  intro p hp; cases p <;> first | rfl | exact absurd (by decide) hp
@[simp] theorem sameBut_modChannel {ps : List Part} (j : Fin 6) (h : ChannelCtl → ChannelCtl) {s t : State}
    (hp : [Part.cur].all (· ∈ ps) = true) :
    SameBut ps s (modChannel j h t) ↔ SameBut ps s t :=
  sameBut_iff (modChannel_frame j h t) hp

theorem modInput_frame (i : Fin 32) (h : InputCtl → InputCtl) (s : State) : SameBut [.inputs] s (modInput i h s) := by
  intro p hp; cases p <;> first | rfl | exact absurd (by decide) hp
@[simp] theorem sameBut_modInput {ps : List Part} (i : Fin 32) (h : InputCtl → InputCtl) {s t : State}
    (hp : [Part.inputs].all (· ∈ ps) = true) :
    SameBut ps s (modInput i h t) ↔ SameBut ps s t :=
  sameBut_iff (modInput_frame i h t) hp

theorem modLink_frame (l : Link) (h : LinkCtl → LinkCtl) (s : State) : SameBut [.lnk] s (modLink l h s) := by
  cases l <;> intro p hp <;> cases p <;> first | rfl | exact absurd (by decide) hp
@[simp] theorem sameBut_modLink {ps : List Part} (l : Link) (h : LinkCtl → LinkCtl) {s t : State}
    (hp : [Part.lnk].all (· ∈ ps) = true) :
    SameBut ps s (modLink l h t) ↔ SameBut ps s t :=
  sameBut_iff (modLink_frame l h t) hp

theorem modShd_frame (h : Shd → Shd) (s : State) : SameBut [.shd] s (modShd h s) := by
  intro p hp; cases p <;> first | rfl | exact absurd (by decide) hp
@[simp] theorem sameBut_modShd {ps : List Part} (h : Shd → Shd) {s t : State}
    (hp : [Part.shd].all (· ∈ ps) = true) :
    SameBut ps s (modShd h t) ↔ SameBut ps s t :=
  sameBut_iff (modShd_frame h t) hp

theorem modRst_frame (h : Rst → Rst) (s : State) : SameBut [.rst] s (modRst h s) := by
  intro p hp; cases p <;> first | rfl | exact absurd (by decide) hp
@[simp] theorem sameBut_modRst {ps : List Part} (h : Rst → Rst) {s t : State}
    (hp : [Part.rst].all (· ∈ ps) = true) :
    SameBut ps s (modRst h t) ↔ SameBut ps s t :=
  sameBut_iff (modRst_frame h t) hp

theorem modGen_frame (h : Gen → Gen) (s : State) : SameBut [.gen] s (modGen h s) := by
  intro p hp; cases p <;> first | rfl | exact absurd (by decide) hp
@[simp] theorem sameBut_modGen {ps : List Part} (h : Gen → Gen) {s t : State}
    (hp : [Part.gen].all (· ∈ ps) = true) :
    SameBut ps s (modGen h t) ↔ SameBut ps s t :=
  sameBut_iff (modGen_frame h t) hp

theorem modCur_frame (h : Cur → Cur) (s : State) : SameBut [.cur] s (modCur h s) := by
  intro p hp; cases p <;> first | rfl | exact absurd (by decide) hp
@[simp] theorem sameBut_modCur {ps : List Part} (h : Cur → Cur) {s t : State}
    (hp : [Part.cur].all (· ∈ ps) = true) :
    SameBut ps s (modCur h t) ↔ SameBut ps s t :=
  sameBut_iff (modCur_frame h t) hp

theorem modRun_frame (h : RunRecord → RunRecord) (s : State) : SameBut [.blk] s (modRun h s) := by
  intro p hp; cases p <;> first | rfl | exact absurd (by decide) hp
@[simp] theorem sameBut_modRun {ps : List Part} (h : RunRecord → RunRecord) {s t : State}
    (hp : [Part.blk].all (· ∈ ps) = true) :
    SameBut ps s (modRun h t) ↔ SameBut ps s t :=
  sameBut_iff (modRun_frame h t) hp

theorem modFmon_frame (h : FMon → FMon) (s : State) : SameBut [.fmon] s (modFmon h s) := by
  intro p hp; cases p <;> first | rfl | exact absurd (by decide) hp
@[simp] theorem sameBut_modFmon {ps : List Part} (h : FMon → FMon) {s t : State}
    (hp : [Part.fmon].all (· ∈ ps) = true) :
    SameBut ps s (modFmon h t) ↔ SameBut ps s t :=
  sameBut_iff (modFmon_frame h t) hp

theorem modLnk_frame (h : Lnk → Lnk) (s : State) : SameBut [.lnk] s (modLnk h s) := by
  intro p hp; cases p <;> first | rfl | exact absurd (by decide) hp
@[simp] theorem sameBut_modLnk {ps : List Part} (h : Lnk → Lnk) {s t : State}
    (hp : [Part.lnk].all (· ∈ ps) = true) :
    SameBut ps s (modLnk h t) ↔ SameBut ps s t :=
  sameBut_iff (modLnk_frame h t) hp

theorem drawn_frame (s : State) : SameBut [.draws] s (drawn s) := by
  intro p hp; cases p <;> first | rfl | exact absurd (by decide) hp
@[simp] theorem sameBut_drawn {ps : List Part} {s t : State}
    (hp : [Part.draws].all (· ∈ ps) = true) :
    SameBut ps s (drawn t) ↔ SameBut ps s t :=
  sameBut_iff (drawn_frame t) hp

theorem emit_frame (dests : List Consumer) (mk : Consumer → Notice) (s : State) : SameBut [.notices, .draws] s (emit dests mk s) := by
  intro p hp; cases p <;> first | rfl | exact absurd (by decide) hp
@[simp] theorem sameBut_emit {ps : List Part} (dests : List Consumer) (mk : Consumer → Notice) {s t : State}
    (hp : [Part.notices, .draws].all (· ∈ ps) = true) :
    SameBut ps s (emit dests mk t) ↔ SameBut ps s t :=
  sameBut_iff (emit_frame dests mk t) hp

theorem emitFirst_frame (n : Notice) (s : State) : SameBut [.notices] s (emitFirst n s) := by
  intro p hp; cases p <;> first | rfl | exact absurd (by decide) hp
@[simp] theorem sameBut_emitFirst {ps : List Part} (n : Notice) {s t : State}
    (hp : [Part.notices].all (· ∈ ps) = true) :
    SameBut ps s (emitFirst n t) ↔ SameBut ps s t :=
  sameBut_iff (emitFirst_frame n t) hp

theorem emitAmong_frame (n : Notice) (s : State) : SameBut [.notices, .draws] s (emitAmong n s) := by
  intro p hp; cases p <;> first | rfl | exact absurd (by decide) hp
@[simp] theorem sameBut_emitAmong {ps : List Part} (n : Notice) {s t : State}
    (hp : [Part.notices, .draws].all (· ∈ ps) = true) :
    SameBut ps s (emitAmong n t) ↔ SameBut ps s t :=
  sameBut_iff (emitAmong_frame n t) hp

theorem setProt_frame (k : ProtFlag) (s : State) : SameBut [.evr] s (setProt k s) := by
  intro p hp; cases p <;> first | rfl | exact absurd (by decide) hp
@[simp] theorem sameBut_setProt {ps : List Part} (k : ProtFlag) {s t : State}
    (hp : [Part.evr].all (· ∈ ps) = true) :
    SameBut ps s (setProt k t) ↔ SameBut ps s t :=
  sameBut_iff (setProt_frame k t) hp

theorem setAdv_frame (k : AdvFlag) (s : State) : SameBut [.evr] s (setAdv k s) := by
  intro p hp; cases p <;> first | rfl | exact absurd (by decide) hp
@[simp] theorem sameBut_setAdv {ps : List Part} (k : AdvFlag) {s t : State}
    (hp : [Part.evr].all (· ∈ ps) = true) :
    SameBut ps s (setAdv k t) ↔ SameBut ps s t :=
  sameBut_iff (setAdv_frame k t) hp

theorem journal_frame (k : JournalKind) (o : Nat) (v : Int) (s : State) : SameBut [.evr] s (journal k o v s) := by
  simp only [journal]
  split
  · (intro p hp; cases p <;> first | rfl | exact absurd (by decide) hp)
  · split <;> (intro p hp; cases p <;> first | rfl | exact absurd (by decide) hp)
@[simp] theorem sameBut_journal {ps : List Part} (k : JournalKind) (o : Nat) (v : Int) {s t : State}
    (hp : [Part.evr].all (· ∈ ps) = true) :
    SameBut ps s (journal k o v t) ↔ SameBut ps s t :=
  sameBut_iff (journal_frame k o v t) hp

theorem driveAlerts_frame (s : State) : SameBut [.evr] s (driveAlerts s) := by
  intro p hp; cases p <;> first | rfl | exact absurd (by decide) hp
@[simp] theorem sameBut_driveAlerts {ps : List Part} {s t : State}
    (hp : [Part.evr].all (· ∈ ps) = true) :
    SameBut ps s (driveAlerts t) ↔ SameBut ps s t :=
  sameBut_iff (driveAlerts_frame t) hp

/-! ### The ticks of the measurement table (R45) -/

theorem agePoints_frame (s : State) : SameBut [.meas] s (agePoints s) := by
  intro p hp; cases p <;> first | rfl | exact absurd (by decide) hp
@[simp] theorem sameBut_agePoints {ps : List Part} {s t : State}
    (hp : [Part.meas].all (· ∈ ps) = true) :
    SameBut ps s (agePoints t) ↔ SameBut ps s t :=
  sameBut_iff (agePoints_frame t) hp

theorem tableTick_frame (s : State) : SameBut [.meas, .pending] s (tableTick s) := by
  unfold tableTick
  split
  · simp
  · intro p hp; cases p <;> first | rfl | exact absurd (by decide) hp
@[simp] theorem sameBut_tableTick {ps : List Part} {s t : State}
    (hp : [Part.meas, .pending].all (· ∈ ps) = true) :
    SameBut ps s (tableTick t) ↔ SameBut ps s t :=
  sameBut_iff (tableTick_frame t) hp

theorem pointsGoStale_frame (s : State) : SameBut [.meas, .evr, .notices, .draws] s (pointsGoStale s) := by
  simp only [pointsGoStale]
  split
  · simp
  · intro p hp; cases p <;> first | rfl | exact absurd (by decide) hp
@[simp] theorem sameBut_pointsGoStale {ps : List Part} {s t : State}
    (hp : [Part.meas, .evr, .notices, .draws].all (· ∈ ps) = true) :
    SameBut ps s (pointsGoStale t) ↔ SameBut ps s t :=
  sameBut_iff (pointsGoStale_frame t) hp

theorem staleTick_frame (s : State) : SameBut [.meas, .evr, .notices, .draws] s (staleTick s) := by
  simp only [staleTick]
  split <;> simp
@[simp] theorem sameBut_staleTick {ps : List Part} {s t : State}
    (hp : [Part.meas, .evr, .notices, .draws].all (· ∈ ps) = true) :
    SameBut ps s (staleTick t) ↔ SameBut ps s t :=
  sameBut_iff (staleTick_frame t) hp

/-! ### The entries of the restore stack (chapter 6) -/

theorem modEntry_frame (i : Nat) (h : Entry → Entry) (s : State) : SameBut [.rst] s (modEntry i h s) := by
  simp [modEntry]
@[simp] theorem sameBut_modEntry {ps : List Part} (i : Nat) (h : Entry → Entry) {s t : State}
    (hp : [Part.rst].all (· ∈ ps) = true) :
    SameBut ps s (modEntry i h t) ↔ SameBut ps s t :=
  sameBut_iff (modEntry_frame i h t) hp

theorem emitStack_frame (s : State) : SameBut [.notices, .draws] s (emitStack s) := by
  simp [emitStack]
@[simp] theorem sameBut_emitStack {ps : List Part} {s t : State}
    (hp : [Part.notices, .draws].all (· ∈ ps) = true) :
    SameBut ps s (emitStack t) ↔ SameBut ps s t :=
  sameBut_iff (emitStack_frame t) hp

theorem emitDiscard_frame (s : State) : SameBut [.notices, .draws] s (emitDiscard s) := by
  simp [emitDiscard]
@[simp] theorem sameBut_emitDiscard {ps : List Part} {s t : State}
    (hp : [Part.notices, .draws].all (· ∈ ps) = true) :
    SameBut ps s (emitDiscard t) ↔ SameBut ps s t :=
  sameBut_iff (emitDiscard_frame t) hp

theorem removeEntry_frame (i : Nat) (s : State) : SameBut [.rst, .notices, .draws] s (removeEntry i s) := by
  simp [removeEntry]
@[simp] theorem sameBut_removeEntry {ps : List Part} (i : Nat) {s t : State}
    (hp : [Part.rst, .notices, .draws].all (· ∈ ps) = true) :
    SameBut ps s (removeEntry i t) ↔ SameBut ps s t :=
  sameBut_iff (removeEntry_frame i t) hp

theorem unlist_frame (f : Fin 16) (s : State) : SameBut [.rst, .evr, .notices, .draws] s (unlist f s) := by
  unfold unlist
  split
  · simp
  · split <;> simp
@[simp] theorem sameBut_unlist {ps : List Part} (f : Fin 16) {s t : State}
    (hp : [Part.rst, .evr, .notices, .draws].all (· ∈ ps) = true) :
    SameBut ps s (unlist f t) ↔ SameBut ps s t :=
  sameBut_iff (unlist_frame f t) hp

theorem leaveStack_frame (f : Fin 16) (new : FeederState) (s : State) : SameBut [.rst, .evr, .notices, .draws] s ((leaveStack f new s).1) := by
  unfold leaveStack
  split
  · dsimp only; split <;> simp
  · simp
@[simp] theorem sameBut_leaveStack {ps : List Part} (f : Fin 16) (new : FeederState) {s t : State}
    (hp : [Part.rst, .evr, .notices, .draws].all (· ∈ ps) = true) :
    SameBut ps s ((leaveStack f new t).1) ↔ SameBut ps s t :=
  sameBut_iff (leaveStack_frame f new t) hp

/-! ### Feeders (chapter 4) -/

theorem lineCommand_frame (f : Fin 16) (b : Bool) (s : State) : SameBut [.feeders] s (lineCommand f b s) := by
  unfold lineCommand; split <;> simp
@[simp] theorem sameBut_lineCommand {ps : List Part} (f : Fin 16) (b : Bool) {s t : State}
    (hp : [Part.feeders].all (· ∈ ps) = true) :
    SameBut ps s (lineCommand f b t) ↔ SameBut ps s t :=
  sameBut_iff (lineCommand_frame f b t) hp

theorem lineAlign_frame (f : Fin 16) (b : Bool) (s : State) : SameBut [.feeders] s (lineAlign f b s) := by
  unfold lineAlign; split <;> simp
@[simp] theorem sameBut_lineAlign {ps : List Part} (f : Fin 16) (b : Bool) {s t : State}
    (hp : [Part.feeders].all (· ∈ ps) = true) :
    SameBut ps s (lineAlign f b t) ↔ SameBut ps s t :=
  sameBut_iff (lineAlign_frame f b t) hp

theorem lineRestyle_frame (f : Fin 16) (s : State) : SameBut [.feeders] s (lineRestyle f s) := by
  unfold lineRestyle; split <;> simp
@[simp] theorem sameBut_lineRestyle {ps : List Part} (f : Fin 16) {s t : State}
    (hp : [Part.feeders].all (· ∈ ps) = true) :
    SameBut ps s (lineRestyle f t) ↔ SameBut ps s t :=
  sameBut_iff (lineRestyle_frame f t) hp

theorem linesRestyled_frame (old : Settings) (s : State) : SameBut [.feeders] s (linesRestyled old s) := by
  simp [linesRestyled]
@[simp] theorem sameBut_linesRestyled {ps : List Part} (old : Settings) {s t : State}
    (hp : [Part.feeders].all (· ∈ ps) = true) :
    SameBut ps s (linesRestyled old t) ↔ SameBut ps s t :=
  sameBut_iff (linesRestyled_frame old t) hp

theorem pulseEnds_frame (f : Fin 16) (s : State) : SameBut [.feeders] s (pulseEnds f s) := by
  simp [pulseEnds]
@[simp] theorem sameBut_pulseEnds {ps : List Part} (f : Fin 16) {s t : State}
    (hp : [Part.feeders].all (· ∈ ps) = true) :
    SameBut ps s (pulseEnds f t) ↔ SameBut ps s t :=
  sameBut_iff (pulseEnds_frame f t) hp

theorem changeFeeder_frame (f : Fin 16) (new : FeederState) (c : FeederCause) (s : State) : SameBut [.feeders, .rst, .evr, .notices, .draws] s (changeFeeder f new c s) := by
  simp [changeFeeder]
@[simp] theorem sameBut_changeFeeder {ps : List Part} (f : Fin 16) (new : FeederState) (c : FeederCause) {s t : State}
    (hp : [Part.feeders, .rst, .evr, .notices, .draws].all (· ∈ ps) = true) :
    SameBut ps s (changeFeeder f new c t) ↔ SameBut ps s t :=
  sameBut_iff (changeFeeder_frame f new c t) hp

theorem beginOperation_frame (f : Fin 16) (b : Bool) (o : OpOrigin) (s : State) : SameBut [.feeders, .rst, .evr, .notices, .draws] s (beginOperation f b o s) := by
  simp [beginOperation]
@[simp] theorem sameBut_beginOperation {ps : List Part} (f : Fin 16) (b : Bool) (o : OpOrigin) {s t : State}
    (hp : [Part.feeders, .rst, .evr, .notices, .draws].all (· ∈ ps) = true) :
    SameBut ps s (beginOperation f b o t) ↔ SameBut ps s t :=
  sameBut_iff (beginOperation_frame f b o t) hp

theorem acceptPosition_frame (f : Fin 16) (b : Bool) (s : State) : SameBut [.feeders, .rst, .evr, .notices, .draws] s (acceptPosition f b s) := by
  simp [acceptPosition]
@[simp] theorem sameBut_acceptPosition {ps : List Part} (f : Fin 16) (b : Bool) {s t : State}
    (hp : [Part.feeders, .rst, .evr, .notices, .draws].all (· ∈ ps) = true) :
    SameBut ps s (acceptPosition f b t) ↔ SameBut ps s t :=
  sameBut_iff (acceptPosition_frame f b t) hp

theorem operate_frame (f : Fin 16) (b : Bool) (o : OpOrigin) (s : State) : SameBut [.feeders, .rst, .evr, .notices, .draws] s ((operate f b o s).1) := by
  unfold operate
  repeat' split
  all_goals simp
@[simp] theorem sameBut_operate {ps : List Part} (f : Fin 16) (b : Bool) (o : OpOrigin) {s t : State}
    (hp : [Part.feeders, .rst, .evr, .notices, .draws].all (· ∈ ps) = true) :
    SameBut ps s ((operate f b o t).1) ↔ SameBut ps s t :=
  sameBut_iff (operate_frame f b o t) hp

theorem leaveStack_stays (f : Fin 16) {new : FeederState} (s : State) (h : new.unlists = false) :
    leaveStack f new s = (s, false) := by simp [leaveStack, h]

/-- A change into a state that takes no feeder out of the stack concerns the feeder and its notice alone. -/
theorem changeFeeder_stays_frame (f : Fin 16) {new : FeederState} (c : FeederCause) (s : State)
    (h : new.unlists = false) : SameBut [.feeders, .notices, .draws] s (changeFeeder f new c s) := by
  simp only [changeFeeder, leaveStack_stays f _ h]
  split <;> simp

/-- A request to open concerns the feeder and its notice alone. -/
theorem operate_open_frame (f : Fin 16) (o : OpOrigin) (s : State) :
    SameBut [.feeders, .notices, .draws] s (operate f false o s).1 := by
  unfold operate beginOperation acceptPosition
  repeat' split
  all_goals first
    | contradiction
    | exact SameBut.refl _ _
    | refine SameBut.trans ?_ (changeFeeder_stays_frame f _ _ rfl); simp
@[simp] theorem sameBut_operate_open {ps : List Part} (f : Fin 16) (o : OpOrigin) {s t : State}
    (hp : [Part.feeders, .notices, .draws].all (· ∈ ps) = true) :
    SameBut ps s (operate f false o t).1 ↔ SameBut ps s t :=
  sameBut_iff (operate_open_frame f o t) hp

theorem operateTimerExpires_frame (f : Fin 16) (s : State) :
    SameBut [.feeders, .evr, .notices, .draws] s (operateTimerExpires f s) := by
  simp only [operateTimerExpires]
  split
  · refine SameBut.trans ?_ ((changeFeeder_stays_frame f _ _ rfl).widen [.feeders, .evr, .notices, .draws] (by decide))
    simp
  · refine SameBut.trans ?_ ((changeFeeder_stays_frame f _ _ rfl).widen [.feeders, .evr, .notices, .draws] (by decide))
    simp
  · exact SameBut.refl _ _
@[simp] theorem sameBut_operateTimerExpires {ps : List Part} (f : Fin 16) {s t : State}
    (hp : [Part.feeders, .evr, .notices, .draws].all (· ∈ ps) = true) :
    SameBut ps s (operateTimerExpires f t) ↔ SameBut ps s t :=
  sameBut_iff (operateTimerExpires_frame f t) hp

theorem feederStatusChange_frame (f : Fin 16) (b : Bool) (s : State) : SameBut [.feeders, .rst, .evr, .notices, .draws] s (feederStatusChange f b s) := by
  simp only [feederStatusChange]
  split <;> simp
@[simp] theorem sameBut_feederStatusChange {ps : List Part} (f : Fin 16) (b : Bool) {s t : State}
    (hp : [Part.feeders, .rst, .evr, .notices, .draws].all (· ∈ ps) = true) :
    SameBut ps s (feederStatusChange f b t) ↔ SameBut ps s t :=
  sameBut_iff (feederStatusChange_frame f b t) hp

theorem feederServiceChange_frame (f : Fin 16) (s : State) : SameBut [.feeders, .rst, .evr, .notices, .draws] s (feederServiceChange f s) := by
  simp [feederServiceChange]
@[simp] theorem sameBut_feederServiceChange {ps : List Part} (f : Fin 16) {s t : State}
    (hp : [Part.feeders, .rst, .evr, .notices, .draws].all (· ∈ ps) = true) :
    SameBut ps s (feederServiceChange f t) ↔ SameBut ps s t :=
  sameBut_iff (feederServiceChange_frame f t) hp

/-! ### Sets (chapter 7) -/

theorem driveSet_frame (b : Bool) (g : Fin 4) (s : State) : SameBut [.gen] s (driveSet b g s) := by
  simp [driveSet]
@[simp] theorem sameBut_driveSet {ps : List Part} (b : Bool) (g : Fin 4) {s t : State}
    (hp : [Part.gen].all (· ∈ ps) = true) :
    SameBut ps s (driveSet b g t) ↔ SameBut ps s t :=
  sameBut_iff (driveSet_frame b g t) hp

theorem driveSets_frame (s : State) : SameBut [.gen] s (driveSets s) := by
  simp [driveSets]
@[simp] theorem sameBut_driveSets {ps : List Part} {s t : State}
    (hp : [Part.gen].all (· ∈ ps) = true) :
    SameBut ps s (driveSets t) ↔ SameBut ps s t :=
  sameBut_iff (driveSets_frame t) hp

theorem genRecord_frame (k : JournalKind) (g : Fin 4) (v : Int) (s : State) : SameBut [.evr] s (genRecord k g v s) := by
  simp [genRecord]
@[simp] theorem sameBut_genRecord {ps : List Part} (k : JournalKind) (g : Fin 4) (v : Int) {s t : State}
    (hp : [Part.evr].all (· ∈ ps) = true) :
    SameBut ps s (genRecord k g v t) ↔ SameBut ps s t :=
  sameBut_iff (genRecord_frame k g v t) hp

theorem enterSet_frame (b : Bool) (e : SetCause) (g : Fin 4) (new : SetState) (m : Timer) (s : State) : SameBut [.gen, .notices, .draws] s (enterSet b e g new m s) := by
  simp [enterSet]
@[simp] theorem sameBut_enterSet {ps : List Part} (b : Bool) (e : SetCause) (g : Fin 4) (new : SetState) (m : Timer) {s t : State}
    (hp : [Part.gen, .notices, .draws].all (· ∈ ps) = true) :
    SameBut ps s (enterSet b e g new m t) ↔ SameBut ps s t :=
  sameBut_iff (enterSet_frame b e g new m t) hp

theorem leaveCrank_frame (g : Fin 4) (s : State) : SameBut [.gen] s (leaveCrank g s) := by
  simp [leaveCrank]
@[simp] theorem sameBut_leaveCrank {ps : List Part} (g : Fin 4) {s t : State}
    (hp : [Part.gen].all (· ∈ ps) = true) :
    SameBut ps s (leaveCrank g t) ↔ SameBut ps s t :=
  sameBut_iff (leaveCrank_frame g t) hp

theorem servePermit_frame (s : State) : SameBut [.gen, .notices, .draws] s (servePermit s) := by
  unfold servePermit; split <;> simp
@[simp] theorem sameBut_servePermit {ps : List Part} {s t : State}
    (hp : [Part.gen, .notices, .draws].all (· ∈ ps) = true) :
    SameBut ps s (servePermit t) ↔ SameBut ps s t :=
  sameBut_iff (servePermit_frame t) hp

theorem enterSyncing_frame (e : SetCause) (g : Fin 4) (s : State) : SameBut [.gen, .notices, .draws] s (enterSyncing e g s) := by
  simp [enterSyncing]
@[simp] theorem sameBut_enterSyncing {ps : List Part} (e : SetCause) (g : Fin 4) {s t : State}
    (hp : [Part.gen, .notices, .draws].all (· ∈ ps) = true) :
    SameBut ps s (enterSyncing e g t) ↔ SameBut ps s t :=
  sameBut_iff (enterSyncing_frame e g t) hp

theorem enterRunUp_frame (e : SetCause) (g : Fin 4) (s : State) : SameBut [.gen, .notices, .draws] s (enterRunUp e g s) := by
  simp [enterRunUp]
@[simp] theorem sameBut_enterRunUp {ps : List Part} (e : SetCause) (g : Fin 4) {s t : State}
    (hp : [Part.gen, .notices, .draws].all (· ∈ ps) = true) :
    SameBut ps s (enterRunUp e g t) ↔ SameBut ps s t :=
  sameBut_iff (enterRunUp_frame e g t) hp

theorem enterOnline_frame (e : SetCause) (g : Fin 4) (s : State) : SameBut [.gen, .evr, .notices, .draws] s (enterOnline e g s) := by
  simp [enterOnline]
@[simp] theorem sameBut_enterOnline {ps : List Part} (e : SetCause) (g : Fin 4) {s t : State}
    (hp : [Part.gen, .evr, .notices, .draws].all (· ∈ ps) = true) :
    SameBut ps s (enterOnline e g t) ↔ SameBut ps s t :=
  sameBut_iff (enterOnline_frame e g t) hp

theorem lockOut_frame (g : Fin 4) (n : Nat) (s : State) : SameBut [.gen, .evr, .notices, .draws] s (lockOut g n s) := by
  simp [lockOut]
@[simp] theorem sameBut_lockOut {ps : List Part} (g : Fin 4) (n : Nat) {s t : State}
    (hp : [Part.gen, .evr, .notices, .draws].all (· ∈ ps) = true) :
    SameBut ps s (lockOut g n t) ↔ SameBut ps s t :=
  sameBut_iff (lockOut_frame g n t) hp

theorem abortStart_frame (b : Bool) (e : SetCause) (g : Fin 4) (r : SetState) (v : Int) (s : State) : SameBut [.gen, .evr, .notices, .draws] s (abortStart b e g r v s) := by
  simp [abortStart]
@[simp] theorem sameBut_abortStart {ps : List Part} (b : Bool) (e : SetCause) (g : Fin 4) (r : SetState) (v : Int) {s t : State}
    (hp : [Part.gen, .evr, .notices, .draws].all (· ∈ ps) = true) :
    SameBut ps s (abortStart b e g r v t) ↔ SameBut ps s t :=
  sameBut_iff (abortStart_frame b e g r v t) hp

theorem endCooldown_frame (e : SetCause) (g : Fin 4) (v : Int) (s : State) : SameBut [.gen, .evr, .notices, .draws] s (endCooldown e g v s) := by
  simp [endCooldown]
@[simp] theorem sameBut_endCooldown {ps : List Part} (e : SetCause) (g : Fin 4) (v : Int) {s t : State}
    (hp : [Part.gen, .evr, .notices, .draws].all (· ∈ ps) = true) :
    SameBut ps s (endCooldown e g v t) ↔ SameBut ps s t :=
  sameBut_iff (endCooldown_frame e g v t) hp

theorem enterCooldown_frame (g : Fin 4) (s : State) : SameBut [.gen, .evr, .notices, .draws] s (enterCooldown g s) := by
  simp [enterCooldown]
@[simp] theorem sameBut_enterCooldown {ps : List Part} (g : Fin 4) {s t : State}
    (hp : [Part.gen, .evr, .notices, .draws].all (· ∈ ps) = true) :
    SameBut ps s (enterCooldown g t) ↔ SameBut ps s t :=
  sameBut_iff (enterCooldown_frame g t) hp

theorem startSet_frame (g : Fin 4) (o : SetOrigin) (s : State) : SameBut [.gen, .evr, .notices, .draws] s ((startSet g o s).1) := by
  unfold startSet
  split
  · dsimp only; split <;> simp
  · simp
@[simp] theorem sameBut_startSet {ps : List Part} (g : Fin 4) (o : SetOrigin) {s t : State}
    (hp : [Part.gen, .evr, .notices, .draws].all (· ∈ ps) = true) :
    SameBut ps s ((startSet g o t).1) ↔ SameBut ps s t :=
  sameBut_iff (startSet_frame g o t) hp

theorem stopSet_frame (b : Bool) (g : Fin 4) (o : SetOrigin) (s : State) : SameBut [.gen, .evr, .notices, .draws] s (stopSet b g o s) := by
  simp [stopSet]
@[simp] theorem sameBut_stopSet {ps : List Part} (b : Bool) (g : Fin 4) (o : SetOrigin) {s t : State}
    (hp : [Part.gen, .evr, .notices, .draws].all (· ∈ ps) = true) :
    SameBut ps s (stopSet b g o t) ↔ SameBut ps s t :=
  sameBut_iff (stopSet_frame b g o t) hp

theorem resetLockout_frame (g : Fin 4) (s : State) : SameBut [.gen, .evr, .notices, .draws] s (resetLockout g s) := by
  simp [resetLockout]
@[simp] theorem sameBut_resetLockout {ps : List Part} (g : Fin 4) {s t : State}
    (hp : [Part.gen, .evr, .notices, .draws].all (· ∈ ps) = true) :
    SameBut ps s (resetLockout g t) ↔ SameBut ps s t :=
  sameBut_iff (resetLockout_frame g t) hp

theorem readyChange_frame (g : Fin 4) (b : Bool) (s : State) : SameBut [.gen, .evr, .notices, .draws] s (readyChange g b s) := by
  unfold readyChange; split <;> simp
@[simp] theorem sameBut_readyChange {ps : List Part} (g : Fin 4) (b : Bool) {s t : State}
    (hp : [Part.gen, .evr, .notices, .draws].all (· ∈ ps) = true) :
    SameBut ps s (readyChange g b t) ↔ SameBut ps s t :=
  sameBut_iff (readyChange_frame g b t) hp

theorem runningChange_frame (g : Fin 4) (b : Bool) (s : State) : SameBut [.gen, .evr, .notices, .draws] s (runningChange g b s) := by
  unfold runningChange; split <;> simp
@[simp] theorem sameBut_runningChange {ps : List Part} (g : Fin 4) (b : Bool) {s t : State}
    (hp : [Part.gen, .evr, .notices, .draws].all (· ∈ ps) = true) :
    SameBut ps s (runningChange g b t) ↔ SameBut ps s t :=
  sameBut_iff (runningChange_frame g b t) hp

theorem closedExternally_frame (g : Fin 4) (s : State) : SameBut [.gen, .evr, .notices, .draws] s (closedExternally g s) := by
  simp [closedExternally]
@[simp] theorem sameBut_closedExternally {ps : List Part} (g : Fin 4) {s t : State}
    (hp : [Part.gen, .evr, .notices, .draws].all (· ∈ ps) = true) :
    SameBut ps s (closedExternally g t) ↔ SameBut ps s t :=
  sameBut_iff (closedExternally_frame g t) hp

theorem breakerChange_frame (g : Fin 4) (b : Bool) (s : State) : SameBut [.gen, .evr, .notices, .draws] s (breakerChange g b s) := by
  unfold breakerChange; split <;> simp
@[simp] theorem sameBut_breakerChange {ps : List Part} (g : Fin 4) (b : Bool) {s t : State}
    (hp : [Part.gen, .evr, .notices, .draws].all (· ∈ ps) = true) :
    SameBut ps s (breakerChange g b t) ↔ SameBut ps s t :=
  sameBut_iff (breakerChange_frame g b t) hp

theorem crankOnTimeExpires_frame (g : Fin 4) (s : State) : SameBut [.gen, .evr, .notices, .draws] s (crankOnTimeExpires g s) := by
  simp [crankOnTimeExpires]
@[simp] theorem sameBut_crankOnTimeExpires {ps : List Part} (g : Fin 4) {s t : State}
    (hp : [Part.gen, .evr, .notices, .draws].all (· ∈ ps) = true) :
    SameBut ps s (crankOnTimeExpires g t) ↔ SameBut ps s t :=
  sameBut_iff (crankOnTimeExpires_frame g t) hp

theorem crankRestExpires_frame (g : Fin 4) (s : State) : SameBut [.gen, .evr, .notices, .draws] s (crankRestExpires g s) := by
  simp only [crankRestExpires]
  repeat' split
  all_goals simp
@[simp] theorem sameBut_crankRestExpires {ps : List Part} (g : Fin 4) {s t : State}
    (hp : [Part.gen, .evr, .notices, .draws].all (· ∈ ps) = true) :
    SameBut ps s (crankRestExpires g t) ↔ SameBut ps s t :=
  sameBut_iff (crankRestExpires_frame g t) hp

theorem runUpExpires_frame (g : Fin 4) (s : State) : SameBut [.gen, .notices, .draws] s (runUpExpires g s) := by
  simp [runUpExpires]
@[simp] theorem sameBut_runUpExpires {ps : List Part} (g : Fin 4) {s t : State}
    (hp : [Part.gen, .notices, .draws].all (· ∈ ps) = true) :
    SameBut ps s (runUpExpires g t) ↔ SameBut ps s t :=
  sameBut_iff (runUpExpires_frame g t) hp

theorem syncTimesOut_frame (g : Fin 4) (s : State) : SameBut [.gen, .evr, .notices, .draws] s (syncTimesOut g s) := by
  simp [syncTimesOut]
@[simp] theorem sameBut_syncTimesOut {ps : List Part} (g : Fin 4) {s t : State}
    (hp : [Part.gen, .evr, .notices, .draws].all (· ∈ ps) = true) :
    SameBut ps s (syncTimesOut g t) ↔ SameBut ps s t :=
  sameBut_iff (syncTimesOut_frame g t) hp

theorem unloadTimesOut_frame (g : Fin 4) (s : State) : SameBut [.gen, .evr, .notices, .draws] s (unloadTimesOut g s) := by
  simp [unloadTimesOut]
@[simp] theorem sameBut_unloadTimesOut {ps : List Part} (g : Fin 4) {s t : State}
    (hp : [Part.gen, .evr, .notices, .draws].all (· ∈ ps) = true) :
    SameBut ps s (unloadTimesOut g t) ↔ SameBut ps s t :=
  sameBut_iff (unloadTimesOut_frame g t) hp

theorem cooldownExpires_frame (g : Fin 4) (s : State) : SameBut [.gen, .evr, .notices, .draws] s (cooldownExpires g s) := by
  simp [cooldownExpires]
@[simp] theorem sameBut_cooldownExpires {ps : List Part} (g : Fin 4) {s t : State}
    (hp : [Part.gen, .evr, .notices, .draws].all (· ∈ ps) = true) :
    SameBut ps s (cooldownExpires g t) ↔ SameBut ps s t :=
  sameBut_iff (cooldownExpires_frame g t) hp

theorem tenthHour_frame (g : Fin 4) (s : State) : SameBut [.settings, .gen] s (tenthHour g s) := by
  intro p hp; cases p <;> first | rfl | exact absurd (by decide) hp
@[simp] theorem sameBut_tenthHour {ps : List Part} (g : Fin 4) {s t : State}
    (hp : [Part.settings, .gen].all (· ∈ ps) = true) :
    SameBut ps s (tenthHour g t) ↔ SameBut ps s t :=
  sameBut_iff (tenthHour_frame g t) hp

theorem serveDemand_frame (n : Nat) (s : State) : SameBut [.gen, .evr, .notices, .draws] s (serveDemand n s) := by
  unfold serveDemand
  split
  · split
    · simp
    · split <;> simp
  · simp
@[simp] theorem sameBut_serveDemand {ps : List Part} (n : Nat) {s t : State}
    (hp : [Part.gen, .evr, .notices, .draws].all (· ∈ ps) = true) :
    SameBut ps s (serveDemand n t) ↔ SameBut ps s t :=
  sameBut_iff (serveDemand_frame n t) hp

theorem evalDispatch_frame (s : State) : SameBut [.gen] s (evalDispatch s) := by
  simp [evalDispatch]
@[simp] theorem sameBut_evalDispatch {ps : List Part} {s t : State}
    (hp : [Part.gen].all (· ∈ ps) = true) :
    SameBut ps s (evalDispatch t) ↔ SameBut ps s t :=
  sameBut_iff (evalDispatch_frame t) hp

theorem lowReserveExpires_frame (s : State) : SameBut [.gen, .evr, .notices, .draws] s (lowReserveExpires s) := by
  simp [lowReserveExpires]
@[simp] theorem sameBut_lowReserveExpires {ps : List Part} {s t : State}
    (hp : [Part.gen, .evr, .notices, .draws].all (· ∈ ps) = true) :
    SameBut ps s (lowReserveExpires t) ↔ SameBut ps s t :=
  sameBut_iff (lowReserveExpires_frame t) hp

theorem stopTimerExpires_frame (s : State) : SameBut [.gen, .evr, .notices, .draws] s (stopTimerExpires s) := by
  unfold stopTimerExpires
  split
  · dsimp only; split <;> simp
  · simp
@[simp] theorem sameBut_stopTimerExpires {ps : List Part} {s t : State}
    (hp : [Part.gen, .evr, .notices, .draws].all (· ∈ ps) = true) :
    SameBut ps s (stopTimerExpires t) ↔ SameBut ps s t :=
  sameBut_iff (stopTimerExpires_frame t) hp

theorem genOnBus_frame (n : BusNotice) (s : State) : SameBut [.gen] s (genOnBus n s) := by
  simp [genOnBus]
@[simp] theorem sameBut_genOnBus {ps : List Part} (n : BusNotice) {s t : State}
    (hp : [Part.gen].all (· ∈ ps) = true) :
    SameBut ps s (genOnBus n t) ↔ SameBut ps s t :=
  sameBut_iff (genOnBus_frame n t) hp

theorem genOnSequencer_frame (s : State) : SameBut [.gen] s (genOnSequencer s) := by
  simp [genOnSequencer]
@[simp] theorem sameBut_genOnSequencer {ps : List Part} {s t : State}
    (hp : [Part.gen].all (· ∈ ps) = true) :
    SameBut ps s (genOnSequencer t) ↔ SameBut ps s t :=
  sameBut_iff (genOnSequencer_frame t) hp

theorem genOnMode_frame (m : Mode) (s : State) : SameBut [.gen, .evr, .notices, .draws] s (genOnMode m s) := by
  unfold genOnMode; cases m <;> simp
@[simp] theorem sameBut_genOnMode {ps : List Part} (m : Mode) {s t : State}
    (hp : [Part.gen, .evr, .notices, .draws].all (· ∈ ps) = true) :
    SameBut ps s (genOnMode m t) ↔ SameBut ps s t :=
  sameBut_iff (genOnMode_frame m t) hp

theorem setServiceChange_frame (g : Fin 4) (s : State) : SameBut [.gen, .evr, .notices, .draws] s (setServiceChange g s) := by
  unfold setServiceChange; split <;> simp
@[simp] theorem sameBut_setServiceChange {ps : List Part} (g : Fin 4) {s t : State}
    (hp : [Part.gen, .evr, .notices, .draws].all (· ∈ ps) = true) :
    SameBut ps s (setServiceChange g t) ↔ SameBut ps s t :=
  sameBut_iff (setServiceChange_frame g t) hp

/-! ### Channels (chapter 8) -/

theorem setLimit_frame (j : Fin 6) (v : Int) (r : Nat) (s : State) : SameBut [.cur] s (setLimit j v r s) := by
  simp [setLimit]
@[simp] theorem sameBut_setLimit {ps : List Part} (j : Fin 6) (v : Int) (r : Nat) {s t : State}
    (hp : [Part.cur].all (· ∈ ps) = true) :
    SameBut ps s (setLimit j v r t) ↔ SameBut ps s t :=
  sameBut_iff (setLimit_frame j v r t) hp

theorem applyTarget_frame (j : Fin 6) (s : State) : SameBut [.cur] s (applyTarget j s) := by
  simp [applyTarget]
@[simp] theorem sameBut_applyTarget {ps : List Part} (j : Fin 6) {s t : State}
    (hp : [Part.cur].all (· ∈ ps) = true) :
    SameBut ps s (applyTarget j t) ↔ SameBut ps s t :=
  sameBut_iff (applyTarget_frame j t) hp

theorem applyTargets_frame (s : State) : SameBut [.cur] s (applyTargets s) := by
  simp [applyTargets]
@[simp] theorem sameBut_applyTargets {ps : List Part} {s t : State}
    (hp : [Part.cur].all (· ∈ ps) = true) :
    SameBut ps s (applyTargets t) ↔ SameBut ps s t :=
  sameBut_iff (applyTargets_frame t) hp

theorem retarget_frame (old : State) (s : State) : SameBut [.cur] s (retarget old s) := by
  simp [retarget]
@[simp] theorem sameBut_retarget {ps : List Part} (old : State) {s t : State}
    (hp : [Part.cur].all (· ∈ ps) = true) :
    SameBut ps s (retarget old t) ↔ SameBut ps s t :=
  sameBut_iff (retarget_frame old t) hp

theorem newShares_frame (s : State) : SameBut [.cur] s (newShares s) := by
  simp [newShares]
@[simp] theorem sameBut_newShares {ps : List Part} {s t : State}
    (hp : [Part.cur].all (· ∈ ps) = true) :
    SameBut ps s (newShares t) ↔ SameBut ps s t :=
  sameBut_iff (newShares_frame t) hp

theorem recomputeShares_frame (s : State) : SameBut [.cur] s (recomputeShares s) := by
  simp [recomputeShares]
@[simp] theorem sameBut_recomputeShares {ps : List Part} {s t : State}
    (hp : [Part.cur].all (· ∈ ps) = true) :
    SameBut ps s (recomputeShares t) ↔ SameBut ps s t :=
  sameBut_iff (recomputeShares_frame t) hp

theorem ceilingsChanged_frame (old : State) (s : State) : SameBut [.cur] s (ceilingsChanged old s) := by
  simp [ceilingsChanged]
@[simp] theorem sameBut_ceilingsChanged {ps : List Part} (old : State) {s t : State}
    (hp : [Part.cur].all (· ∈ ps) = true) :
    SameBut ps s (ceilingsChanged old t) ↔ SameBut ps s t :=
  sameBut_iff (ceilingsChanged_frame old t) hp

theorem recomputeDroop_frame (f : Nat) (s : State) : SameBut [.cur] s (recomputeDroop f s) := by
  simp [recomputeDroop]
@[simp] theorem sameBut_recomputeDroop {ps : List Part} (f : Nat) {s t : State}
    (hp : [Part.cur].all (· ∈ ps) = true) :
    SameBut ps s (recomputeDroop f t) ↔ SameBut ps s t :=
  sameBut_iff (recomputeDroop_frame f t) hp

theorem droopOnset_frame (f : Nat) (s : State) : SameBut [.cur, .evr] s (droopOnset f s) := by
  simp [droopOnset]
@[simp] theorem sameBut_droopOnset {ps : List Part} (f : Nat) {s t : State}
    (hp : [Part.cur, .evr].all (· ∈ ps) = true) :
    SameBut ps s (droopOnset f t) ↔ SameBut ps s t :=
  sameBut_iff (droopOnset_frame f t) hp

theorem droopEnd_frame (v : Int) (s : State) : SameBut [.cur, .evr] s (droopEnd v s) := by
  simp [droopEnd]
@[simp] theorem sameBut_droopEnd {ps : List Part} (v : Int) {s t : State}
    (hp : [Part.cur, .evr].all (· ∈ ps) = true) :
    SameBut ps s (droopEnd v t) ↔ SameBut ps s t :=
  sameBut_iff (droopEnd_frame v t) hp

theorem droopAtValue_frame (f : Nat) (s : State) : SameBut [.cur, .evr] s (droopAtValue f s) := by
  simp [droopAtValue]
@[simp] theorem sameBut_droopAtValue {ps : List Part} (f : Nat) {s t : State}
    (hp : [Part.cur, .evr].all (· ∈ ps) = true) :
    SameBut ps s (droopAtValue f t) ↔ SameBut ps s t :=
  sameBut_iff (droopAtValue_frame f t) hp

theorem curBusChange_frame (n : BusNotice) (s : State) : SameBut [.cur, .evr] s (curBusChange n s) := by
  simp only [curBusChange]
  repeat' split
  all_goals simp
@[simp] theorem sameBut_curBusChange {ps : List Part} (n : BusNotice) {s t : State}
    (hp : [Part.cur, .evr].all (· ∈ ps) = true) :
    SameBut ps s (curBusChange n t) ↔ SameBut ps s t :=
  sameBut_iff (curBusChange_frame n t) hp

theorem curOnBus_frame (n : BusNotice) (s : State) : SameBut [.cur, .evr] s (curOnBus n s) := by
  unfold curOnBus
  dsimp only
  repeat' split
  all_goals simp
@[simp] theorem sameBut_curOnBus {ps : List Part} (n : BusNotice) {s t : State}
    (hp : [Part.cur, .evr].all (· ∈ ps) = true) :
    SameBut ps s (curOnBus n t) ↔ SameBut ps s t :=
  sameBut_iff (curOnBus_frame n t) hp

theorem curOnSet_frame (a b : SetState) (s : State) : SameBut [.cur] s (curOnSet a b s) := by
  simp [curOnSet]
@[simp] theorem sameBut_curOnSet {ps : List Part} (a b : SetState) {s t : State}
    (hp : [Part.cur].all (· ∈ ps) = true) :
    SameBut ps s (curOnSet a b t) ↔ SameBut ps s t :=
  sameBut_iff (curOnSet_frame a b t) hp

theorem curOnUpdate_frame (n : PointNames) (s : State) : SameBut [.cur] s (curOnUpdate n s) := by
  simp [curOnUpdate]
@[simp] theorem sameBut_curOnUpdate {ps : List Part} (n : PointNames) {s t : State}
    (hp : [Part.cur].all (· ∈ ps) = true) :
    SameBut ps s (curOnUpdate n t) ↔ SameBut ps s t :=
  sameBut_iff (curOnUpdate_frame n t) hp

theorem curOnStale_frame (n : PointNames) (s : State) : SameBut [.cur] s (curOnStale n s) := by
  simp [curOnStale]
@[simp] theorem sameBut_curOnStale {ps : List Part} (n : PointNames) {s t : State}
    (hp : [Part.cur].all (· ∈ ps) = true) :
    SameBut ps s (curOnStale n t) ↔ SameBut ps s t :=
  sameBut_iff (curOnStale_frame n t) hp

theorem curOnSupervision_frame (b : Bool) (s : State) : SameBut [.cur] s (curOnSupervision b s) := by
  simp [curOnSupervision]
@[simp] theorem sameBut_curOnSupervision {ps : List Part} (b : Bool) {s t : State}
    (hp : [Part.cur].all (· ∈ ps) = true) :
    SameBut ps s (curOnSupervision b t) ↔ SameBut ps s t :=
  sameBut_iff (curOnSupervision_frame b t) hp

theorem clearReleases_frame (s : State) : SameBut [.cur] s (clearReleases s) := by
  simp [clearReleases]
@[simp] theorem sameBut_clearReleases {ps : List Part} {s t : State}
    (hp : [Part.cur].all (· ∈ ps) = true) :
    SameBut ps s (clearReleases t) ↔ SameBut ps s t :=
  sameBut_iff (clearReleases_frame t) hp

theorem setRelease_frame (j : Fin 6) (n : Nat) (s : State) : SameBut [.cur] s (setRelease j n s) := by
  simp [setRelease]
@[simp] theorem sameBut_setRelease {ps : List Part} (j : Fin 6) (n : Nat) {s t : State}
    (hp : [Part.cur].all (· ∈ ps) = true) :
    SameBut ps s (setRelease j n t) ↔ SameBut ps s t :=
  sameBut_iff (setRelease_frame j n t) hp

theorem curOnSequencer_frame (a b : BlkState) (s : State) : SameBut [.cur] s (curOnSequencer a b s) := by
  unfold curOnSequencer; cases b <;> simp
@[simp] theorem sameBut_curOnSequencer {ps : List Part} (a b : BlkState) {s t : State}
    (hp : [Part.cur].all (· ∈ ps) = true) :
    SameBut ps s (curOnSequencer a b t) ↔ SameBut ps s t :=
  sameBut_iff (curOnSequencer_frame a b t) hp

theorem rampChannel_frame (j : Fin 6) (s : State) : SameBut [.cur] s (rampChannel j s) := by
  simp [rampChannel]
@[simp] theorem sameBut_rampChannel {ps : List Part} (j : Fin 6) {s t : State}
    (hp : [Part.cur].all (· ∈ ps) = true) :
    SameBut ps s (rampChannel j t) ↔ SameBut ps s t :=
  sameBut_iff (rampChannel_frame j t) hp

theorem rampTickStep_frame (s : State) : SameBut [.cur] s (rampTickStep s) := by
  unfold rampTickStep
  dsimp only
  split <;> simp
@[simp] theorem sameBut_rampTickStep {ps : List Part} {s t : State}
    (hp : [Part.cur].all (· ∈ ps) = true) :
    SameBut ps s (rampTickStep t) ↔ SameBut ps s t :=
  sameBut_iff (rampTickStep_frame t) hp

theorem pwmStart_frame (j : Fin 6) (s : State) : SameBut [.cur] s (pwmStart j s) := by
  simp [pwmStart]
@[simp] theorem sameBut_pwmStart {ps : List Part} (j : Fin 6) {s t : State}
    (hp : [Part.cur].all (· ∈ ps) = true) :
    SameBut ps s (pwmStart j t) ↔ SameBut ps s t :=
  sameBut_iff (pwmStart_frame j t) hp

theorem pwmActiveEnds_frame (j : Fin 6) (s : State) : SameBut [.cur] s (pwmActiveEnds j s) := by
  simp [pwmActiveEnds]
@[simp] theorem sameBut_pwmActiveEnds {ps : List Part} (j : Fin 6) {s t : State}
    (hp : [Part.cur].all (· ∈ ps) = true) :
    SameBut ps s (pwmActiveEnds j t) ↔ SameBut ps s t :=
  sameBut_iff (pwmActiveEnds_frame j t) hp

theorem pvConfigured_frame (j : Fin 6) (before : State) (s : State) : SameBut [.cur] s (pvConfigured j before s) := by
  simp [pvConfigured]
@[simp] theorem sameBut_pvConfigured {ps : List Part} (j : Fin 6) (before : State) {s t : State}
    (hp : [Part.cur].all (· ∈ ps) = true) :
    SameBut ps s (pvConfigured j before t) ↔ SameBut ps s t :=
  sameBut_iff (pvConfigured_frame j before t) hp

/-! ### The restore stack (chapter 6) -/

theorem restartDelay_frame (s : State) : SameBut [.rst] s (restartDelay s) := by
  simp [restartDelay]
@[simp] theorem sameBut_restartDelay {ps : List Part} {s t : State}
    (hp : [Part.rst].all (· ∈ ps) = true) :
    SameBut ps s (restartDelay t) ↔ SameBut ps s t :=
  sameBut_iff (restartDelay_frame t) hp

theorem testDelay_frame (s : State) : SameBut [.rst] s (testDelay s) := by
  simp [testDelay]
@[simp] theorem sameBut_testDelay {ps : List Part} {s t : State}
    (hp : [Part.rst].all (· ∈ ps) = true) :
    SameBut ps s (testDelay t) ↔ SameBut ps s t :=
  sameBut_iff (testDelay_frame t) hp

theorem endEpisode_frame (s : State) : SameBut [.rst] s (endEpisode s) := by
  simp [endEpisode]
@[simp] theorem sameBut_endEpisode {ps : List Part} {s t : State}
    (hp : [Part.rst].all (· ∈ ps) = true) :
    SameBut ps s (endEpisode t) ↔ SameBut ps s t :=
  sameBut_iff (endEpisode_frame t) hp

theorem keepEpisode_frame (s : State) : SameBut [.rst] s (keepEpisode s) := by
  unfold keepEpisode
  split
  · split <;> simp
  · simp
@[simp] theorem sameBut_keepEpisode {ps : List Part} {s t : State}
    (hp : [Part.rst].all (· ∈ ps) = true) :
    SameBut ps s (keepEpisode t) ↔ SameBut ps s t :=
  sameBut_iff (keepEpisode_frame t) hp

theorem beginEpisode_frame (i : Nat) (f : Fin 16) (s : State) : SameBut [.rst, .evr] s (beginEpisode i f s) := by
  simp [beginEpisode]
@[simp] theorem sameBut_beginEpisode {ps : List Part} (i : Nat) (f : Fin 16) {s t : State}
    (hp : [Part.rst, .evr].all (· ∈ ps) = true) :
    SameBut ps s (beginEpisode i f t) ↔ SameBut ps s t :=
  sameBut_iff (beginEpisode_frame i f t) hp

theorem restoreClose_frame (i : Nat) (x : StackItem) (s : State) : SameBut [.feeders, .rst, .evr, .notices, .draws] s (restoreClose i x s) := by
  have h := operate_frame x.feeder true .restore
    (journal .feederRestored x.feeder x.snapshot (modEntry i (fun e => { e with restoring := true }) s))
  have k : SameBut [.feeders, .rst, .evr, .notices, .draws] s
      (journal .feederRestored x.feeder x.snapshot (modEntry i (fun e => { e with restoring := true }) s)) := by simp
  unfold restoreClose
  split
  · rename_i e
    rw [e] at h
    simp [k.trans h]
  · simp
@[simp] theorem sameBut_restoreClose {ps : List Part} (i : Nat) (x : StackItem) {s t : State}
    (hp : [Part.feeders, .rst, .evr, .notices, .draws].all (· ∈ ps) = true) :
    SameBut ps s (restoreClose i x t) ↔ SameBut ps s t :=
  sameBut_iff (restoreClose_frame i x t) hp

theorem skipItem_frame (x : StackItem) (n : Nat) (s : State) : SameBut [.rst, .evr, .notices, .draws] s (skipItem x n s) := by
  simp [skipItem]
@[simp] theorem sameBut_skipItem {ps : List Part} (x : StackItem) (n : Nat) {s t : State}
    (hp : [Part.rst, .evr, .notices, .draws].all (· ∈ ps) = true) :
    SameBut ps s (skipItem x n t) ↔ SameBut ps s t :=
  sameBut_iff (skipItem_frame x n t) hp

theorem examine_frame (n : Nat) (s : State) : SameBut [.feeders, .rst, .evr, .notices, .draws] s (examine n s) := by
  induction n generalizing s with
  | zero => simp [examine]
  | succ n ih =>
    unfold examine
    dsimp only
    have k := (keepEpisode_frame s).widen [.feeders, .rst, .evr, .notices, .draws] (by decide)
    repeat' split
    all_goals first
      | simp [k]
      | exact k.trans (((skipItem_frame _ _ _).widen [.feeders, .rst, .evr, .notices, .draws] (by decide)).trans (ih _))
@[simp] theorem sameBut_examine {ps : List Part} (n : Nat) {s t : State}
    (hp : [Part.feeders, .rst, .evr, .notices, .draws].all (· ∈ ps) = true) :
    SameBut ps s (examine n t) ↔ SameBut ps s t :=
  sameBut_iff (examine_frame n t) hp

theorem restorerTurn_frame (s : State) : SameBut [.feeders, .rst, .evr, .notices, .draws] s (restorerTurn s) := by
  simp [restorerTurn]
@[simp] theorem sameBut_restorerTurn {ps : List Part} {s t : State}
    (hp : [Part.feeders, .rst, .evr, .notices, .draws].all (· ∈ ps) = true) :
    SameBut ps s (restorerTurn t) ↔ SameBut ps s t :=
  sameBut_iff (restorerTurn_frame t) hp

theorem tagGiven_frame (s : State) : SameBut [.rst] s (tagGiven s) := by
  simp [tagGiven]
@[simp] theorem sameBut_tagGiven {ps : List Part} {s t : State}
    (hp : [Part.rst].all (· ∈ ps) = true) :
    SameBut ps s (tagGiven t) ↔ SameBut ps s t :=
  sameBut_iff (tagGiven_frame t) hp

theorem pushEntry_frame (k : EntryKind) (v : Int) (f : Nat) (l : List StackItem) (s : State) : SameBut [.rst] s (pushEntry k v f l s) := by
  simp [pushEntry]
@[simp] theorem sameBut_pushEntry {ps : List Part} (k : EntryKind) (v : Int) (f : Nat) (l : List StackItem) {s t : State}
    (hp : [Part.rst].all (· ∈ ps) = true) :
    SameBut ps s (pushEntry k v f l t) ↔ SameBut ps s t :=
  sameBut_iff (pushEntry_frame k v f l t) hp

theorem mergeTop_frame (k : EntryKind) (v : Int) (f : Nat) (l : List StackItem) (s : State) : SameBut [.rst, .evr] s (mergeTop k v f l s) := by
  simp [mergeTop]
@[simp] theorem sameBut_mergeTop {ps : List Part} (k : EntryKind) (v : Int) (f : Nat) (l : List StackItem) {s t : State}
    (hp : [Part.rst, .evr].all (· ∈ ps) = true) :
    SameBut ps s (mergeTop k v f l t) ↔ SameBut ps s t :=
  sameBut_iff (mergeTop_frame k v f l t) hp

theorem push_frame (k : EntryKind) (v : Int) (f : Nat) (l : List StackItem) (s : State) : SameBut [.feeders, .rst, .evr, .notices, .draws] s (push k v f l s) := by
  simp [push]
@[simp] theorem sameBut_push {ps : List Part} (k : EntryKind) (v : Int) (f : Nat) (l : List StackItem) {s t : State}
    (hp : [Part.feeders, .rst, .evr, .notices, .draws].all (· ∈ ps) = true) :
    SameBut ps s (push k v f l t) ↔ SameBut ps s t :=
  sameBut_iff (push_frame k v f l t) hp

theorem appendItems_frame (f : Fin 16) (l : List StackItem) (s : State) : SameBut [.rst] s (appendItems f l s) := by
  unfold appendItems; split <;> simp
@[simp] theorem sameBut_appendItems {ps : List Part} (f : Fin 16) (l : List StackItem) {s t : State}
    (hp : [Part.rst].all (· ∈ ps) = true) :
    SameBut ps s (appendItems f l t) ↔ SameBut ps s t :=
  sameBut_iff (appendItems_frame f l t) hp

theorem pushHeader_frame (s : State) : SameBut [.feeders, .rst, .evr, .notices, .draws] s (pushHeader s) := by
  simp [pushHeader]
@[simp] theorem sameBut_pushHeader {ps : List Part} {s t : State}
    (hp : [Part.feeders, .rst, .evr, .notices, .draws].all (· ∈ ps) = true) :
    SameBut ps s (pushHeader t) ↔ SameBut ps s t :=
  sameBut_iff (pushHeader_frame t) hp

theorem writeHeader_frame (h : HeaderRun) (s : State) : SameBut [.rst] s (writeHeader h s) := by
  simp [writeHeader]
@[simp] theorem sameBut_writeHeader {ps : List Part} (h : HeaderRun) {s t : State}
    (hp : [Part.rst].all (· ∈ ps) = true) :
    SameBut ps s (writeHeader h t) ↔ SameBut ps s t :=
  sameBut_iff (writeHeader_frame h t) hp

theorem removeHeader_frame (s : State) : SameBut [.feeders, .rst, .evr, .notices, .draws] s (removeHeader s) := by
  simp [removeHeader]
@[simp] theorem sameBut_removeHeader {ps : List Part} {s t : State}
    (hp : [Part.feeders, .rst, .evr, .notices, .draws].all (· ∈ ps) = true) :
    SameBut ps s (removeHeader t) ↔ SameBut ps s t :=
  sameBut_iff (removeHeader_frame t) hp

theorem restoreDelayExpires_frame (s : State) : SameBut [.feeders, .rst, .evr, .notices, .draws] s (restoreDelayExpires s) := by
  simp [restoreDelayExpires]
@[simp] theorem sameBut_restoreDelayExpires {ps : List Part} {s t : State}
    (hp : [Part.feeders, .rst, .evr, .notices, .draws].all (· ∈ ps) = true) :
    SameBut ps s (restoreDelayExpires t) ↔ SameBut ps s t :=
  sameBut_iff (restoreDelayExpires_frame t) hp

theorem intervalExpires_frame (s : State) : SameBut [.feeders, .rst, .evr, .notices, .draws] s (intervalExpires s) := by
  simp [intervalExpires]
@[simp] theorem sameBut_intervalExpires {ps : List Part} {s t : State}
    (hp : [Part.feeders, .rst, .evr, .notices, .draws].all (· ∈ ps) = true) :
    SameBut ps s (intervalExpires t) ↔ SameBut ps s t :=
  sameBut_iff (intervalExpires_frame t) hp

theorem startDelayExpires_frame (s : State) : SameBut [.rst, .gen, .evr, .notices, .draws] s (startDelayExpires s) := by
  unfold startDelayExpires
  split
  · split <;> simp
  · simp
@[simp] theorem sameBut_startDelayExpires {ps : List Part} {s t : State}
    (hp : [Part.rst, .gen, .evr, .notices, .draws].all (· ∈ ps) = true) :
    SameBut ps s (startDelayExpires t) ↔ SameBut ps s t :=
  sameBut_iff (startDelayExpires_frame t) hp

theorem discardAtDead_frame (s : State) : SameBut [.rst, .evr, .notices, .draws] s (discardAtDead s) := by
  simp [discardAtDead]
@[simp] theorem sameBut_discardAtDead {ps : List Part} {s t : State}
    (hp : [Part.rst, .evr, .notices, .draws].all (· ∈ ps) = true) :
    SameBut ps s (discardAtDead t) ↔ SameBut ps s t :=
  sameBut_iff (discardAtDead_frame t) hp

theorem rstOnBus_frame (n : BusNotice) (s : State) : SameBut [.feeders, .rst, .evr, .notices, .draws] s (rstOnBus n s) := by
  simp [rstOnBus]
@[simp] theorem sameBut_rstOnBus {ps : List Part} (n : BusNotice) {s t : State}
    (hp : [Part.feeders, .rst, .evr, .notices, .draws].all (· ∈ ps) = true) :
    SameBut ps s (rstOnBus n t) ↔ SameBut ps s t :=
  sameBut_iff (rstOnBus_frame n t) hp

theorem rstOnFeeder_frame (f : Fin 16) (b : Bool) (s : State) : SameBut [.feeders, .rst, .evr, .notices, .draws] s (rstOnFeeder f b s) := by
  simp [rstOnFeeder]
@[simp] theorem sameBut_rstOnFeeder {ps : List Part} (f : Fin 16) (b : Bool) {s t : State}
    (hp : [Part.feeders, .rst, .evr, .notices, .draws].all (· ∈ ps) = true) :
    SameBut ps s (rstOnFeeder f b t) ↔ SameBut ps s t :=
  sameBut_iff (rstOnFeeder_frame f b t) hp

theorem rstOnMode_frame (s : State) : SameBut [.feeders, .rst, .evr, .notices, .draws] s (rstOnMode s) := by
  simp [rstOnMode]
@[simp] theorem sameBut_rstOnMode {ps : List Part} {s t : State}
    (hp : [Part.feeders, .rst, .evr, .notices, .draws].all (· ∈ ps) = true) :
    SameBut ps s (rstOnMode t) ↔ SameBut ps s t :=
  sameBut_iff (rstOnMode_frame t) hp

/-! ### Shedding (chapter 5) -/

theorem tripFeeders_frame (o : OpOrigin) (fs : List (Fin 16)) (s : State) : SameBut [.feeders, .notices, .draws] s ((tripFeeders o fs s).1) := by
  induction fs generalizing s with
  | nil => simp [tripFeeders]
  | cons f fs ih =>
    have h := operate_open_frame f o s
    unfold tripFeeders
    dsimp only
    split <;> rename_i e <;> rw [e] at h <;> exact h.trans (ih _)
@[simp] theorem sameBut_tripFeeders {ps : List Part} (o : OpOrigin) (fs : List (Fin 16)) {s t : State}
    (hp : [Part.feeders, .notices, .draws].all (· ∈ ps) = true) :
    SameBut ps s ((tripFeeders o fs t).1) ↔ SameBut ps s t :=
  sameBut_iff (tripFeeders_frame o fs t) hp

theorem joinCredit_frame (l : List StackItem) (s : State) : SameBut [.shd] s (joinCredit l s) := by
  simp [joinCredit]
@[simp] theorem sameBut_joinCredit {ps : List Part} (l : List StackItem) {s t : State}
    (hp : [Part.shd].all (· ∈ ps) = true) :
    SameBut ps s (joinCredit l t) ↔ SameBut ps s t :=
  sameBut_iff (joinCredit_frame l t) hp

theorem joinTargets_frame (l : List StackItem) (s : State) : SameBut [.shd] s (joinTargets l s) := by
  simp [joinTargets]
@[simp] theorem sameBut_joinTargets {ps : List Part} (l : List StackItem) {s t : State}
    (hp : [Part.shd].all (· ∈ ps) = true) :
    SameBut ps s (joinTargets l t) ↔ SameBut ps s t :=
  sameBut_iff (joinTargets_frame l t) hp

theorem fireStage_frame (f : Nat) (i : Fin 4) (s : State) : SameBut [.feeders, .shd, .rst, .gen, .evr, .notices, .draws] s (fireStage f i s) := by
  unfold fireStage
  dsimp only
  split <;> simp
@[simp] theorem sameBut_fireStage {ps : List Part} (f : Nat) (i : Fin 4) {s t : State}
    (hp : [Part.feeders, .shd, .rst, .gen, .evr, .notices, .draws].all (· ∈ ps) = true) :
    SameBut ps s (fireStage f i t) ↔ SameBut ps s t :=
  sameBut_iff (fireStage_frame f i t) hp

theorem rearmStages_frame (f : Nat) (l : List (Fin 4)) (s : State) : SameBut [.shd] s (rearmStages f l s) := by
  simp [rearmStages]
@[simp] theorem sameBut_rearmStages {ps : List Part} (f : Nat) (l : List (Fin 4)) {s t : State}
    (hp : [Part.shd].all (· ∈ ps) = true) :
    SameBut ps s (rearmStages f l t) ↔ SameBut ps s t :=
  sameBut_iff (rearmStages_frame f l t) hp

theorem stageFunction_frame (f : Nat) (s : State) : SameBut [.feeders, .shd, .rst, .gen, .evr, .notices, .draws] s (stageFunction f s) := by
  simp [stageFunction]
@[simp] theorem sameBut_stageFunction {ps : List Part} (f : Nat) {s t : State}
    (hp : [Part.feeders, .shd, .rst, .gen, .evr, .notices, .draws].all (· ∈ ps) = true) :
    SameBut ps s (stageFunction f t) ↔ SameBut ps s t :=
  sameBut_iff (stageFunction_frame f t) hp

theorem holdoffStarts_frame (s : State) : SameBut [.shd] s (holdoffStarts s) := by
  simp [holdoffStarts]
@[simp] theorem sameBut_holdoffStarts {ps : List Part} {s t : State}
    (hp : [Part.shd].all (· ∈ ps) = true) :
    SameBut ps s (holdoffStarts t) ↔ SameBut ps s t :=
  sameBut_iff (holdoffStarts_frame t) hp

theorem flagShort_frame (b : Bool) (s : State) : SameBut [.evr] s (flagShort b s) := by
  simp [flagShort]
@[simp] theorem sameBut_flagShort {ps : List Part} (b : Bool) {s t : State}
    (hp : [Part.evr].all (· ∈ ps) = true) :
    SameBut ps s (flagShort b t) ↔ SameBut ps s t :=
  sameBut_iff (flagShort_frame b t) hp

theorem rocofShed_frame (v : PresentValue) (r a : Int) (s : State) : SameBut [.feeders, .shd, .rst, .gen, .evr, .notices, .draws] s (rocofShed v r a s) := by
  simp [rocofShed]
@[simp] theorem sameBut_rocofShed {ps : List Part} (v : PresentValue) (r a : Int) {s t : State}
    (hp : [Part.feeders, .shd, .rst, .gen, .evr, .notices, .draws].all (· ∈ ps) = true) :
    SameBut ps s (rocofShed v r a t) ↔ SameBut ps s t :=
  sameBut_iff (rocofShed_frame v r a t) hp

theorem rocofAct_frame (v : PresentValue) (r d : Int) (s : State) : SameBut [.feeders, .shd, .rst, .gen, .evr, .notices, .draws] s (rocofAct v r d s) := by
  unfold rocofAct
  dsimp only
  split
  · simp
  · split <;> simp
@[simp] theorem sameBut_rocofAct {ps : List Part} (v : PresentValue) (r d : Int) {s t : State}
    (hp : [Part.feeders, .shd, .rst, .gen, .evr, .notices, .draws].all (· ∈ ps) = true) :
    SameBut ps s (rocofAct v r d t) ↔ SameBut ps s t :=
  sameBut_iff (rocofAct_frame v r d t) hp

theorem rocofFunction_frame (v : PresentValue) (s : State) : SameBut [.feeders, .shd, .rst, .gen, .evr, .notices, .draws] s (rocofFunction v s) := by
  unfold rocofFunction
  split
  · simp
  · dsimp only; split <;> simp
@[simp] theorem sameBut_rocofFunction {ps : List Part} (v : PresentValue) {s t : State}
    (hp : [Part.feeders, .shd, .rst, .gen, .evr, .notices, .draws].all (· ∈ ps) = true) :
    SameBut ps s (rocofFunction v t) ↔ SameBut ps s t :=
  sameBut_iff (rocofFunction_frame v t) hp

theorem shdBreak_frame (s : State) : SameBut [.shd] s (shdBreak s) := by
  simp [shdBreak]
@[simp] theorem sameBut_shdBreak {ps : List Part} {s t : State}
    (hp : [Part.shd].all (· ∈ ps) = true) :
    SameBut ps s (shdBreak t) ↔ SameBut ps s t :=
  sameBut_iff (shdBreak_frame t) hp

theorem shdDead_frame (s : State) : SameBut [.shd] s (shdDead s) := by
  simp [shdDead]
@[simp] theorem sameBut_shdDead {ps : List Part} {s t : State}
    (hp : [Part.shd].all (· ∈ ps) = true) :
    SameBut ps s (shdDead t) ↔ SameBut ps s t :=
  sameBut_iff (shdDead_frame t) hp

theorem shdValue_frame (v : PresentValue) (s : State) : SameBut [.feeders, .shd, .rst, .gen, .evr, .notices, .draws] s (shdValue v s) := by
  simp [shdValue]
@[simp] theorem sameBut_shdValue {ps : List Part} (v : PresentValue) {s t : State}
    (hp : [Part.feeders, .shd, .rst, .gen, .evr, .notices, .draws].all (· ∈ ps) = true) :
    SameBut ps s (shdValue v t) ↔ SameBut ps s t :=
  sameBut_iff (shdValue_frame v t) hp

theorem shdOnBus_frame (n : BusNotice) (s : State) : SameBut [.feeders, .shd, .rst, .gen, .evr, .notices, .draws] s (shdOnBus n s) := by
  unfold shdOnBus
  dsimp only
  cases n.value <;> simp
@[simp] theorem sameBut_shdOnBus {ps : List Part} (n : BusNotice) {s t : State}
    (hp : [Part.feeders, .shd, .rst, .gen, .evr, .notices, .draws].all (· ∈ ps) = true) :
    SameBut ps s (shdOnBus n t) ↔ SameBut ps s t :=
  sameBut_iff (shdOnBus_frame n t) hp

theorem supplement_frame (f : Fin 16) (a : Int) (s : State) : SameBut [.feeders, .shd, .rst, .gen, .evr, .notices, .draws] s (supplement f a s) := by
  simp [supplement]
@[simp] theorem sameBut_supplement {ps : List Part} (f : Fin 16) (a : Int) {s t : State}
    (hp : [Part.feeders, .shd, .rst, .gen, .evr, .notices, .draws].all (· ∈ ps) = true) :
    SameBut ps s (supplement f a t) ↔ SameBut ps s t :=
  sameBut_iff (supplement_frame f a t) hp

theorem shdOnFeeder_frame (f : Fin 16) (a : FeederState) (c : FeederCause) (s : State) : SameBut [.feeders, .shd, .rst, .gen, .evr, .notices, .draws] s (shdOnFeeder f a c s) := by
  unfold shdOnFeeder
  dsimp only
  split
  · simp
  · cases c <;> simp
@[simp] theorem sameBut_shdOnFeeder {ps : List Part} (f : Fin 16) (a : FeederState) (c : FeederCause) {s t : State}
    (hp : [Part.feeders, .shd, .rst, .gen, .evr, .notices, .draws].all (· ∈ ps) = true) :
    SameBut ps s (shdOnFeeder f a c t) ↔ SameBut ps s t :=
  sameBut_iff (shdOnFeeder_frame f a c t) hp

theorem holdoffExpires_frame (s : State) : SameBut [.shd] s (holdoffExpires s) := by
  simp [holdoffExpires]
@[simp] theorem sameBut_holdoffExpires {ps : List Part} {s t : State}
    (hp : [Part.shd].all (· ∈ ps) = true) :
    SameBut ps s (holdoffExpires t) ↔ SameBut ps s t :=
  sameBut_iff (holdoffExpires_frame t) hp

theorem creditExpires_frame (f : Fin 16) (s : State) : SameBut [.shd] s (creditExpires f s) := by
  simp [creditExpires]
@[simp] theorem sameBut_creditExpires {ps : List Part} (f : Fin 16) {s t : State}
    (hp : [Part.shd].all (· ∈ ps) = true) :
    SameBut ps s (creditExpires f t) ↔ SameBut ps s t :=
  sameBut_iff (creditExpires_frame f t) hp

/-! ### The black-start sequencer (chapter 9) -/

theorem blkEnter_frame (b : BlkState) (s : State) : SameBut [.gen, .cur, .blk, .evr] s (blkEnter b s) := by
  simp [blkEnter]
@[simp] theorem sameBut_blkEnter {ps : List Part} (b : BlkState) {s t : State}
    (hp : [Part.gen, .cur, .blk, .evr].all (· ∈ ps) = true) :
    SameBut ps s (blkEnter b t) ↔ SameBut ps s t :=
  sameBut_iff (blkEnter_frame b t) hp

theorem blkToIdle_frame (s : State) : SameBut [.gen, .cur, .blk, .evr] s (blkToIdle s) := by
  simp [blkToIdle]
@[simp] theorem sameBut_blkToIdle {ps : List Part} {s t : State}
    (hp : [Part.gen, .cur, .blk, .evr].all (· ∈ ps) = true) :
    SameBut ps s (blkToIdle t) ↔ SameBut ps s t :=
  sameBut_iff (blkToIdle_frame t) hp

theorem withdrawGrant_frame (s : State) : SameBut [.gen] s (withdrawGrant s) := by
  simp [withdrawGrant]
@[simp] theorem sameBut_withdrawGrant {ps : List Part} {s t : State}
    (hp : [Part.gen].all (· ∈ ps) = true) :
    SameBut ps s (withdrawGrant t) ↔ SameBut ps s t :=
  sameBut_iff (withdrawGrant_frame t) hp

theorem giveGrant_frame (g : Fin 4) (s : State) : SameBut [.gen] s (giveGrant g s) := by
  simp [giveGrant]
@[simp] theorem sameBut_giveGrant {ps : List Part} (g : Fin 4) {s t : State}
    (hp : [Part.gen].all (· ∈ ps) = true) :
    SameBut ps s (giveGrant g t) ↔ SameBut ps s t :=
  sameBut_iff (giveGrant_frame g t) hp

theorem queueStep_frame (s : State) : SameBut [.notices] s (queueStep s) := by
  intro p hp; cases p <;> first | rfl | exact absurd (by decide) hp
@[simp] theorem sameBut_queueStep {ps : List Part} {s t : State}
    (hp : [Part.notices].all (· ∈ ps) = true) :
    SameBut ps s (queueStep t) ↔ SameBut ps s t :=
  sameBut_iff (queueStep_frame t) hp

theorem clearBus_frame (s : State) : SameBut [.feeders, .blk, .notices, .draws] s (clearBus s) := by
  simp [clearBus]
@[simp] theorem sameBut_clearBus {ps : List Part} {s t : State}
    (hp : [Part.feeders, .blk, .notices, .draws].all (· ∈ ps) = true) :
    SameBut ps s (clearBus t) ↔ SameBut ps s t :=
  sameBut_iff (clearBus_frame t) hp

theorem latchLead_frame (g p : Fin 4) (s : State) : SameBut [.rst, .blk] s (latchLead g p s) := by
  simp [latchLead]
@[simp] theorem sameBut_latchLead {ps : List Part} (g p : Fin 4) {s t : State}
    (hp : [Part.rst, .blk].all (· ∈ ps) = true) :
    SameBut ps s (latchLead g p t) ↔ SameBut ps s t :=
  sameBut_iff (latchLead_frame g p t) hp

theorem failRun_frame (n : Nat) (s : State) : SameBut [.feeders, .rst, .gen, .cur, .blk, .evr, .notices, .draws] s (failRun n s) := by
  simp [failRun]
@[simp] theorem sameBut_failRun {ps : List Part} (n : Nat) {s t : State}
    (hp : [Part.feeders, .rst, .gen, .cur, .blk, .evr, .notices, .draws].all (· ∈ ps) = true) :
    SameBut ps s (failRun n t) ↔ SameBut ps s t :=
  sameBut_iff (failRun_frame n t) hp

theorem retryRun_frame (s : State) : SameBut [.feeders, .rst, .gen, .cur, .blk, .evr, .notices, .draws] s (retryRun s) := by
  unfold retryRun
  dsimp only
  split
  · simp
  · split
    · simp
    · simp
@[simp] theorem sameBut_retryRun {ps : List Part} {s t : State}
    (hp : [Part.feeders, .rst, .gen, .cur, .blk, .evr, .notices, .draws].all (· ∈ ps) = true) :
    SameBut ps s (retryRun t) ↔ SameBut ps s t :=
  sameBut_iff (retryRun_frame t) hp

theorem attemptFail_frame (n : Nat) (s : State) : SameBut [.feeders, .rst, .gen, .cur, .blk, .evr, .notices, .draws] s (attemptFail n s) := by
  simp [attemptFail]
@[simp] theorem sameBut_attemptFail {ps : List Part} (n : Nat) {s t : State}
    (hp : [Part.feeders, .rst, .gen, .cur, .blk, .evr, .notices, .draws].all (· ∈ ps) = true) :
    SameBut ps s (attemptFail n t) ↔ SameBut ps s t :=
  sameBut_iff (attemptFail_frame n t) hp

theorem nextStep_frame (s : State) : SameBut [.blk, .notices] s (nextStep s) := by
  simp [nextStep]
@[simp] theorem sameBut_nextStep {ps : List Part} {s t : State}
    (hp : [Part.blk, .notices].all (· ∈ ps) = true) :
    SameBut ps s (nextStep t) ↔ SameBut ps s t :=
  sameBut_iff (nextStep_frame t) hp

theorem stepDone_frame (st : PlanStep) (s : State) : SameBut [.gen, .blk, .evr, .notices] s (stepDone st s) := by
  simp [stepDone]
@[simp] theorem sameBut_stepDone {ps : List Part} (st : PlanStep) {s t : State}
    (hp : [Part.gen, .blk, .evr, .notices].all (· ∈ ps) = true) :
    SameBut ps s (stepDone st t) ↔ SameBut ps s t :=
  sameBut_iff (stepDone_frame st t) hp

theorem stepFails_frame (st : PlanStep) (b : Bool) (s : State) : SameBut [.feeders, .rst, .gen, .cur, .blk, .evr, .notices, .draws] s (stepFails st b s) := by
  simp [stepFails]
@[simp] theorem sameBut_stepFails {ps : List Part} (st : PlanStep) (b : Bool) {s t : State}
    (hp : [Part.feeders, .rst, .gen, .cur, .blk, .evr, .notices, .draws].all (· ∈ ps) = true) :
    SameBut ps s (stepFails st b t) ↔ SameBut ps s t :=
  sameBut_iff (stepFails_frame st b t) hp

theorem endRun_frame (s : State) : SameBut [.feeders, .rst, .gen, .cur, .blk, .evr, .notices, .draws] s (endRun s) := by
  simp [endRun]
@[simp] theorem sameBut_endRun {ps : List Part} {s t : State}
    (hp : [Part.feeders, .rst, .gen, .cur, .blk, .evr, .notices, .draws].all (· ∈ ps) = true) :
    SameBut ps s (endRun t) ↔ SameBut ps s t :=
  sameBut_iff (endRun_frame t) hp

theorem startByPlan_frame (g : Fin 4) (s : State) : SameBut [.gen, .blk, .evr, .notices, .draws] s ((startByPlan g s).1) := by
  unfold startByPlan
  dsimp only
  split <;> simp
@[simp] theorem sameBut_startByPlan {ps : List Part} (g : Fin 4) {s t : State}
    (hp : [Part.gen, .blk, .evr, .notices, .draws].all (· ∈ ps) = true) :
    SameBut ps s ((startByPlan g t).1) ↔ SameBut ps s t :=
  sameBut_iff (startByPlan_frame g t) hp

theorem stepAction_frame (st : PlanStep) (s : State) : SameBut [.feeders, .rst, .gen, .cur, .blk, .evr, .notices, .draws] s (stepAction st s) := by
  unfold stepAction
  split
  · split
    · simp
    · split
      · simp
      · rename_i g _ _
        have h := (startByPlan_frame g s).widen [.feeders, .rst, .gen, .cur, .blk, .evr, .notices, .draws] (by decide)
        split <;> rename_i e <;> rw [e] at h <;> simp [h]
  · split
    · rename_i o
      have h := (operate_frame ⟨st.object, o⟩ true .blackstart s).widen [.feeders, .rst, .gen, .cur, .blk, .evr, .notices, .draws] (by decide)
      split <;> rename_i e <;> rw [e] at h <;> simp [h]
    · simp
  · simp
  · simp
  · split
    · simp
    · rename_i g _
      have h := (startByPlan_frame g s).widen [.feeders, .rst, .gen, .cur, .blk, .evr, .notices, .draws] (by decide)
      split <;> rename_i e <;> rw [e] at h <;> simp [h]
  · split <;> simp
  · simp
@[simp] theorem sameBut_stepAction {ps : List Part} (st : PlanStep) {s t : State}
    (hp : [Part.feeders, .rst, .gen, .cur, .blk, .evr, .notices, .draws].all (· ∈ ps) = true) :
    SameBut ps s (stepAction st t) ↔ SameBut ps s t :=
  sameBut_iff (stepAction_frame st t) hp

theorem beginStep_frame (s : State) : SameBut [.feeders, .rst, .gen, .cur, .blk, .evr, .notices, .draws] s (beginStep s) := by
  unfold beginStep
  split
  · split <;> simp
  · simp
@[simp] theorem sameBut_beginStep {ps : List Part} {s t : State}
    (hp : [Part.feeders, .rst, .gen, .cur, .blk, .evr, .notices, .draws].all (· ∈ ps) = true) :
    SameBut ps s (beginStep t) ↔ SameBut ps s t :=
  sameBut_iff (beginStep_frame t) hp

theorem examineStep_frame (st : PlanStep) (s : State) : SameBut [.feeders, .rst, .gen, .cur, .blk, .evr, .notices, .draws] s (examineStep st s) := by
  unfold examineStep
  repeat' split
  all_goals simp
@[simp] theorem sameBut_examineStep {ps : List Part} (st : PlanStep) {s t : State}
    (hp : [Part.feeders, .rst, .gen, .cur, .blk, .evr, .notices, .draws].all (· ∈ ps) = true) :
    SameBut ps s (examineStep st t) ↔ SameBut ps s t :=
  sameBut_iff (examineStep_frame st t) hp

theorem examineAfresh_frame (st : PlanStep) (s : State) : SameBut [.feeders, .rst, .gen, .cur, .blk, .evr, .notices, .draws] s (examineAfresh st s) := by
  unfold examineAfresh
  split <;> simp
@[simp] theorem sameBut_examineAfresh {ps : List Part} (st : PlanStep) {s t : State}
    (hp : [Part.feeders, .rst, .gen, .cur, .blk, .evr, .notices, .draws].all (· ∈ ps) = true) :
    SameBut ps s (examineAfresh st t) ↔ SameBut ps s t :=
  sameBut_iff (examineAfresh_frame st t) hp

theorem enterHeld_frame (n : Nat) (s : State) : SameBut [.gen, .cur, .blk, .evr] s (enterHeld n s) := by
  simp [enterHeld]
@[simp] theorem sameBut_enterHeld {ps : List Part} (n : Nat) {s t : State}
    (hp : [Part.gen, .cur, .blk, .evr].all (· ∈ ps) = true) :
    SameBut ps s (enterHeld n t) ↔ SameBut ps s t :=
  sameBut_iff (enterHeld_frame n t) hp

theorem resumeRun_frame (s : State) : SameBut [.feeders, .rst, .gen, .cur, .blk, .evr, .notices, .draws] s (resumeRun s) := by
  unfold resumeRun
  dsimp only
  split
  · split <;> simp
  · simp
@[simp] theorem sameBut_resumeRun {ps : List Part} {s t : State}
    (hp : [Part.feeders, .rst, .gen, .cur, .blk, .evr, .notices, .draws].all (· ∈ ps) = true) :
    SameBut ps s (resumeRun t) ↔ SameBut ps s t :=
  sameBut_iff (resumeRun_frame t) hp

theorem blkOnStack_frame (s : State) : SameBut [.feeders, .rst, .gen, .cur, .blk, .evr, .notices, .draws] s (blkOnStack s) := by
  simp only [blkOnStack]
  repeat' split
  all_goals simp
@[simp] theorem sameBut_blkOnStack {ps : List Part} {s t : State}
    (hp : [Part.feeders, .rst, .gen, .cur, .blk, .evr, .notices, .draws].all (· ∈ ps) = true) :
    SameBut ps s (blkOnStack t) ↔ SameBut ps s t :=
  sameBut_iff (blkOnStack_frame t) hp

theorem enterConfirming_frame (s : State) : SameBut [.gen, .cur, .blk, .evr] s (enterConfirming s) := by
  simp [enterConfirming]
@[simp] theorem sameBut_enterConfirming {ps : List Part} {s t : State}
    (hp : [Part.gen, .cur, .blk, .evr].all (· ∈ ps) = true) :
    SameBut ps s (enterConfirming t) ↔ SameBut ps s t :=
  sameBut_iff (enterConfirming_frame t) hp

theorem beginRun_frame (h : RunStart) (s : State) : SameBut [.feeders, .rst, .gen, .cur, .blk, .evr, .notices, .draws] s (beginRun h s) := by
  unfold beginRun
  dsimp only
  split
  · simp
  · split <;> simp
@[simp] theorem sameBut_beginRun {ps : List Part} (h : RunStart) {s t : State}
    (hp : [Part.feeders, .rst, .gen, .cur, .blk, .evr, .notices, .draws].all (· ∈ ps) = true) :
    SameBut ps s (beginRun h t) ↔ SameBut ps s t :=
  sameBut_iff (beginRun_frame h t) hp

theorem confirmed_frame (s : State) : SameBut [.feeders, .rst, .gen, .cur, .blk, .evr, .notices, .draws] s (confirmed s) := by
  simp [confirmed]
@[simp] theorem sameBut_confirmed {ps : List Part} {s t : State}
    (hp : [Part.feeders, .rst, .gen, .cur, .blk, .evr, .notices, .draws].all (· ∈ ps) = true) :
    SameBut ps s (confirmed t) ↔ SameBut ps s t :=
  sameBut_iff (confirmed_frame t) hp

theorem confirmExpires_frame (s : State) : SameBut [.feeders, .rst, .gen, .cur, .blk, .evr, .notices, .draws] s (confirmExpires s) := by
  simp [confirmExpires]
@[simp] theorem sameBut_confirmExpires {ps : List Part} {s t : State}
    (hp : [Part.feeders, .rst, .gen, .cur, .blk, .evr, .notices, .draws].all (· ∈ ps) = true) :
    SameBut ps s (confirmExpires t) ↔ SameBut ps s t :=
  sameBut_iff (confirmExpires_frame t) hp

theorem stepTimerExpires_frame (s : State) : SameBut [.feeders, .rst, .gen, .cur, .blk, .evr, .notices, .draws] s (stepTimerExpires s) := by
  unfold stepTimerExpires; split <;> simp
@[simp] theorem sameBut_stepTimerExpires {ps : List Part} {s t : State}
    (hp : [Part.feeders, .rst, .gen, .cur, .blk, .evr, .notices, .draws].all (· ∈ ps) = true) :
    SameBut ps s (stepTimerExpires t) ↔ SameBut ps s t :=
  sameBut_iff (stepTimerExpires_frame t) hp

theorem waitTimerExpires_frame (s : State) : SameBut [.feeders, .rst, .gen, .cur, .blk, .evr, .notices, .draws] s (waitTimerExpires s) := by
  unfold waitTimerExpires; split <;> simp
@[simp] theorem sameBut_waitTimerExpires {ps : List Part} {s t : State}
    (hp : [Part.feeders, .rst, .gen, .cur, .blk, .evr, .notices, .draws].all (· ∈ ps) = true) :
    SameBut ps s (waitTimerExpires t) ↔ SameBut ps s t :=
  sameBut_iff (waitTimerExpires_frame t) hp

theorem stableOnBus_frame (st : PlanStep) (n : BusNotice) (s : State) : SameBut [.feeders, .rst, .gen, .cur, .blk, .evr, .notices, .draws] s (stableOnBus st n s) := by
  unfold stableOnBus; split <;> simp
@[simp] theorem sameBut_stableOnBus {ps : List Part} (st : PlanStep) (n : BusNotice) {s t : State}
    (hp : [Part.feeders, .rst, .gen, .cur, .blk, .evr, .notices, .draws].all (· ∈ ps) = true) :
    SameBut ps s (stableOnBus st n t) ↔ SameBut ps s t :=
  sameBut_iff (stableOnBus_frame st n t) hp

theorem followOn_frame (k : Nat) (n : BusNotice) (s : State) : SameBut [.feeders, .rst, .gen, .cur, .blk, .evr, .notices, .draws] s (followOn k n s) := by
  induction k generalizing s with
  | zero => simp [followOn]
  | succ k ih =>
    unfold followOn
    split
    · dsimp only
      split
      · split
        · exact (beginStep_frame s).trans ((stableOnBus_frame _ n _).trans (ih _))
        · simp
      · exact (beginStep_frame s).trans (ih _)
    · simp
@[simp] theorem sameBut_followOn {ps : List Part} (k : Nat) (n : BusNotice) {s t : State}
    (hp : [Part.feeders, .rst, .gen, .cur, .blk, .evr, .notices, .draws].all (· ∈ ps) = true) :
    SameBut ps s (followOn k n t) ↔ SameBut ps s t :=
  sameBut_iff (followOn_frame k n t) hp

theorem runOnBus_frame (n : BusNotice) (s : State) : SameBut [.feeders, .rst, .gen, .cur, .blk, .evr, .notices, .draws] s (runOnBus n s) := by
  unfold runOnBus
  split
  · split <;> simp
  · simp
@[simp] theorem sameBut_runOnBus {ps : List Part} (n : BusNotice) {s t : State}
    (hp : [Part.feeders, .rst, .gen, .cur, .blk, .evr, .notices, .draws].all (· ∈ ps) = true) :
    SameBut ps s (runOnBus n t) ↔ SameBut ps s t :=
  sameBut_iff (runOnBus_frame n t) hp

theorem blkOnReset_frame (s : State) : SameBut [.gen, .cur, .blk, .evr] s (blkOnReset s) := by
  simp [blkOnReset]
@[simp] theorem sameBut_blkOnReset {ps : List Part} {s t : State}
    (hp : [Part.gen, .cur, .blk, .evr].all (· ∈ ps) = true) :
    SameBut ps s (blkOnReset t) ↔ SameBut ps s t :=
  sameBut_iff (blkOnReset_frame t) hp

theorem blkOnBusEvent_frame (n : BusNotice) (s : State) : SameBut [.feeders, .rst, .gen, .cur, .blk, .evr, .notices, .draws] s (blkOnBusEvent n s) := by
  unfold blkOnBusEvent
  dsimp only
  split <;> simp
@[simp] theorem sameBut_blkOnBusEvent {ps : List Part} (n : BusNotice) {s t : State}
    (hp : [Part.feeders, .rst, .gen, .cur, .blk, .evr, .notices, .draws].all (· ∈ ps) = true) :
    SameBut ps s (blkOnBusEvent n t) ↔ SameBut ps s t :=
  sameBut_iff (blkOnBusEvent_frame n t) hp

theorem blkOnBus_frame (n : BusNotice) (s : State) : SameBut [.feeders, .rst, .gen, .cur, .blk, .evr, .notices, .draws] s (blkOnBus n s) := by
  simp [blkOnBus]
@[simp] theorem sameBut_blkOnBus {ps : List Part} (n : BusNotice) {s t : State}
    (hp : [Part.feeders, .rst, .gen, .cur, .blk, .evr, .notices, .draws].all (· ∈ ps) = true) :
    SameBut ps s (blkOnBus n t) ↔ SameBut ps s t :=
  sameBut_iff (blkOnBus_frame n t) hp

theorem blkOnSet_frame (g : Fin 4) (a b : SetState) (s : State) : SameBut [.feeders, .rst, .gen, .cur, .blk, .evr, .notices, .draws] s (blkOnSet g a b s) := by
  unfold blkOnSet
  repeat' split
  all_goals simp
@[simp] theorem sameBut_blkOnSet {ps : List Part} (g : Fin 4) (a b : SetState) {s t : State}
    (hp : [Part.feeders, .rst, .gen, .cur, .blk, .evr, .notices, .draws].all (· ∈ ps) = true) :
    SameBut ps s (blkOnSet g a b t) ↔ SameBut ps s t :=
  sameBut_iff (blkOnSet_frame g a b t) hp

theorem clearingOnFeeder_frame (f : Fin 16) (s : State) : SameBut [.feeders, .blk, .notices, .draws] s (clearingOnFeeder f s) := by
  simp [clearingOnFeeder]
@[simp] theorem sameBut_clearingOnFeeder {ps : List Part} (f : Fin 16) {s t : State}
    (hp : [Part.feeders, .blk, .notices, .draws].all (· ∈ ps) = true) :
    SameBut ps s (clearingOnFeeder f t) ↔ SameBut ps s t :=
  sameBut_iff (clearingOnFeeder_frame f t) hp

theorem blkOnFeeder_frame (f : Fin 16) (s : State) : SameBut [.feeders, .rst, .gen, .cur, .blk, .evr, .notices, .draws] s (blkOnFeeder f s) := by
  unfold blkOnFeeder
  dsimp only
  split <;> simp
@[simp] theorem sameBut_blkOnFeeder {ps : List Part} (f : Fin 16) {s t : State}
    (hp : [Part.feeders, .rst, .gen, .cur, .blk, .evr, .notices, .draws].all (· ∈ ps) = true) :
    SameBut ps s (blkOnFeeder f t) ↔ SameBut ps s t :=
  sameBut_iff (blkOnFeeder_frame f t) hp

theorem blkOnMode_frame (m : Mode) (s : State) : SameBut [.feeders, .rst, .gen, .cur, .blk, .evr, .notices, .draws] s (blkOnMode m s) := by
  simp [blkOnMode]
@[simp] theorem sameBut_blkOnMode {ps : List Part} (m : Mode) {s t : State}
    (hp : [Part.feeders, .rst, .gen, .cur, .blk, .evr, .notices, .draws].all (· ∈ ps) = true) :
    SameBut ps s (blkOnMode m t) ↔ SameBut ps s t :=
  sameBut_iff (blkOnMode_frame m t) hp

/-! ### The monitor, the inputs, the measurements and the links (chapters 1, 2, 3 and 10) -/

theorem emitBus_frame (n : BusNotice) (s : State) : SameBut [.notices, .draws] s (emitBus n s) := by
  simp [emitBus]
@[simp] theorem sameBut_emitBus {ps : List Part} (n : BusNotice) {s t : State}
    (hp : [Part.notices, .draws].all (· ∈ ps) = true) :
    SameBut ps s (emitBus n t) ↔ SameBut ps s t :=
  sameBut_iff (emitBus_frame n t) hp

theorem breakRun_frame (p : Nat) (s : State) : SameBut [.fmon, .evr, .notices, .draws] s (breakRun p s) := by
  unfold breakRun
  dsimp only
  split <;> simp
@[simp] theorem sameBut_breakRun {ps : List Part} (p : Nat) {s t : State}
    (hp : [Part.fmon, .evr, .notices, .draws].all (· ∈ ps) = true) :
    SameBut ps s (breakRun p t) ↔ SameBut ps s t :=
  sameBut_iff (breakRun_frame p t) hp

theorem enterDead_frame (s : State) : SameBut [.fmon, .evr, .notices, .draws] s (enterDead s) := by
  simp [enterDead]
@[simp] theorem sameBut_enterDead {ps : List Part} {s t : State}
    (hp : [Part.fmon, .evr, .notices, .draws].all (· ∈ ps) = true) :
    SameBut ps s (enterDead t) ↔ SameBut ps s t :=
  sameBut_iff (enterDead_frame t) hp

theorem formValue_frame (l : List Nat) (s : State) : SameBut [.fmon, .evr, .notices, .draws] s (formValue l s) := by
  simp [formValue]
@[simp] theorem sameBut_formValue {ps : List Part} (l : List Nat) {s t : State}
    (hp : [Part.fmon, .evr, .notices, .draws].all (· ∈ ps) = true) :
    SameBut ps s (formValue l t) ↔ SameBut ps s t :=
  sameBut_iff (formValue_frame l t) hp

theorem acceptValid_frame (p : Nat) (s : State) : SameBut [.fmon, .evr, .notices, .draws] s (acceptValid p s) := by
  simp [acceptValid]
@[simp] theorem sameBut_acceptValid {ps : List Part} (p : Nat) {s t : State}
    (hp : [Part.fmon, .evr, .notices, .draws].all (· ∈ ps) = true) :
    SameBut ps s (acceptValid p t) ↔ SameBut ps s t :=
  sameBut_iff (acceptValid_frame p t) hp

theorem crossingArrives_frame (s : State) : SameBut [.fmon, .evr, .notices, .draws] s (crossingArrives s) := by
  unfold crossingArrives
  dsimp only
  split
  · simp
  · split <;> simp
@[simp] theorem sameBut_crossingArrives {ps : List Part} {s t : State}
    (hp : [Part.fmon, .evr, .notices, .draws].all (· ∈ ps) = true) :
    SameBut ps s (crossingArrives t) ↔ SameBut ps s t :=
  sameBut_iff (crossingArrives_frame t) hp

theorem deadBusExpires_frame (s : State) : SameBut [.fmon, .evr, .notices, .draws] s (deadBusExpires s) := by
  simp [deadBusExpires]
@[simp] theorem sameBut_deadBusExpires {ps : List Part} {s t : State}
    (hp : [Part.fmon, .evr, .notices, .draws].all (· ∈ ps) = true) :
    SameBut ps s (deadBusExpires t) ↔ SameBut ps s t :=
  sameBut_iff (deadBusExpires_frame t) hp

theorem nominalChanged_frame (s : State) : SameBut [.fmon, .evr, .notices, .draws] s (nominalChanged s) := by
  simp [nominalChanged]
@[simp] theorem sameBut_nominalChanged {ps : List Part} {s t : State}
    (hp : [Part.fmon, .evr, .notices, .draws].all (· ∈ ps) = true) :
    SameBut ps s (nominalChanged t) ↔ SameBut ps s t :=
  sameBut_iff (nominalChanged_frame t) hp

theorem locationChange_frame (b : Bool) (s : State) : SameBut [.lnk, .evr] s (locationChange b s) := by
  simp [locationChange]
@[simp] theorem sameBut_locationChange {ps : List Part} (b : Bool) {s t : State}
    (hp : [Part.lnk, .evr].all (· ∈ ps) = true) :
    SameBut ps s (locationChange b t) ↔ SameBut ps s t :=
  sameBut_iff (locationChange_frame b t) hp

theorem emitUpdate_frame (n : PointNames) (s : State) : SameBut [.notices, .draws] s (emitUpdate n s) := by
  simp [emitUpdate]
@[simp] theorem sameBut_emitUpdate {ps : List Part} (n : PointNames) {s t : State}
    (hp : [Part.notices, .draws].all (· ∈ ps) = true) :
    SameBut ps s (emitUpdate n t) ↔ SameBut ps s t :=
  sameBut_iff (emitUpdate_frame n t) hp

theorem writePoint_frame (p : PointRef) (v : Int) (s : State) : SameBut [.meas] s (writePoint p v s) := by
  cases p <;> intro p hp <;> cases p <;> first | rfl | exact absurd (by decide) hp
@[simp] theorem sameBut_writePoint {ps : List Part} (p : PointRef) (v : Int) {s t : State}
    (hp : [Part.meas].all (· ∈ ps) = true) :
    SameBut ps s (writePoint p v t) ↔ SameBut ps s t :=
  sameBut_iff (writePoint_frame p v t) hp

theorem applyMeasure_frame (l : List (PointRef × Int)) (s : State) : SameBut [.meas, .notices, .draws] s (applyMeasure l s) := by
  simp [applyMeasure]
@[simp] theorem sameBut_applyMeasure {ps : List Part} (l : List (PointRef × Int)) {s t : State}
    (hp : [Part.meas, .notices, .draws].all (· ∈ ps) = true) :
    SameBut ps s (applyMeasure l t) ↔ SameBut ps s t :=
  sameBut_iff (applyMeasure_frame l t) hp

theorem setLinkError_frame (e : LinkError) (l : Link) (s : State) : SameBut [.lnk, .evr] s (setLinkError e l s) := by
  simp [setLinkError]
@[simp] theorem sameBut_setLinkError {ps : List Part} (e : LinkError) (l : Link) {s t : State}
    (hp : [Part.lnk, .evr].all (· ∈ ps) = true) :
    SameBut ps s (setLinkError e l t) ↔ SameBut ps s t :=
  sameBut_iff (setLinkError_frame e l t) hp

theorem restoreSupervision_frame (s : State) : SameBut [.cur, .lnk, .evr] s (restoreSupervision s) := by
  simp [restoreSupervision]
@[simp] theorem sameBut_restoreSupervision {ps : List Part} {s t : State}
    (hp : [Part.cur, .lnk, .evr].all (· ∈ ps) = true) :
    SameBut ps s (restoreSupervision t) ↔ SameBut ps s t :=
  sameBut_iff (restoreSupervision_frame t) hp

theorem superviseFrame_frame (l : Link) (s : State) : SameBut [.cur, .lnk, .evr] s (superviseFrame l s) := by
  unfold superviseFrame; cases l <;> simp
@[simp] theorem sameBut_superviseFrame {ps : List Part} (l : Link) {s t : State}
    (hp : [Part.cur, .lnk, .evr].all (· ∈ ps) = true) :
    SameBut ps s (superviseFrame l t) ↔ SameBut ps s t :=
  sameBut_iff (superviseFrame_frame l t) hp

theorem supervisionExpires_frame (s : State) : SameBut [.cur, .lnk, .evr] s (supervisionExpires s) := by
  simp [supervisionExpires]
@[simp] theorem sameBut_supervisionExpires {ps : List Part} {s t : State}
    (hp : [Part.cur, .lnk, .evr].all (· ∈ ps) = true) :
    SameBut ps s (supervisionExpires t) ↔ SameBut ps s t :=
  sameBut_iff (supervisionExpires_frame t) hp

theorem supervisionChanged_frame (s : State) : SameBut [.cur, .lnk, .evr] s (supervisionChanged s) := by
  simp only [supervisionChanged]
  split <;> simp
@[simp] theorem sameBut_supervisionChanged {ps : List Part} {s t : State}
    (hp : [Part.cur, .lnk, .evr].all (· ∈ ps) = true) :
    SameBut ps s (supervisionChanged t) ↔ SameBut ps s t :=
  sameBut_iff (supervisionChanged_frame t) hp

theorem takeLines_frame (p : LineChange) (s : State) : SameBut [.lnk] s (takeLines p s) := by
  simp [takeLines]
@[simp] theorem sameBut_takeLines {ps : List Part} (p : LineChange) {s t : State}
    (hp : [Part.lnk].all (· ∈ ps) = true) :
    SameBut ps s (takeLines p t) ↔ SameBut ps s t :=
  sameBut_iff (takeLines_frame p t) hp

theorem replyDone_frame (l : Link) (s : State) : SameBut [.lnk] s (replyDone l s) := by
  unfold replyDone
  split
  · rename_i r _
    dsimp only
    cases r.lines <;> simp
  · simp
@[simp] theorem sameBut_replyDone {ps : List Part} (l : Link) {s t : State}
    (hp : [Part.lnk].all (· ∈ ps) = true) :
    SameBut ps s (replyDone l t) ↔ SameBut ps s t :=
  sameBut_iff (replyDone_frame l t) hp

/-! ### Delivery (section 2.5) -/

theorem deliver_frame (n : Notice) (s : State) : SameBut [.feeders, .shd, .rst, .gen, .cur, .blk, .evr, .notices, .draws] s (deliver n s) := by
  unfold deliver
  split <;> simp
@[simp] theorem sameBut_deliver {ps : List Part} (n : Notice) {s t : State}
    (hp : [Part.feeders, .shd, .rst, .gen, .cur, .blk, .evr, .notices, .draws].all (· ∈ ps) = true) :
    SameBut ps s (deliver n t) ↔ SameBut ps s t :=
  sameBut_iff (deliver_frame n t) hp

end Sys2Proof.Machine
end

