-- ==== Sys2Proof/Laws/Operations.lean ====
section
/-! SUPPORT. What each shared operation does, said once: notices, feeder operations, set states, the crank permit,
limits, rings and reply lists. -/

namespace Sys2Proof.Machine

/-! ### Free orders and notices -/

theorem insertAt_perm {α : Type} (x : α) : ∀ (i : Nat) (l : List α), (insertAt i x l).Perm (x :: l)
  | 0, l => by cases l <;> exact .refl _
  | _ + 1, [] => .refl _
  | i + 1, y :: l => ((insertAt_perm x i l).cons y).trans (.swap x y l)

/-- A free order is a rearrangement. -/
theorem permute_perm {α : Type} : ∀ (k : Nat) (l : List α), (permute k l).Perm l
  | _, [] => .refl _
  | _, x :: l => (insertAt_perm x _ _).trans ((permute_perm _ l).cons x)

/-- An emission announces one notice to each of its consumers. -/
theorem emit_announced (dests : List Consumer) (mk : Consumer → Notice) (s : State) :
    Announced dests mk s (emit dests mk s) :=
  ⟨_, permute_perm _ _, rfl⟩

/-- A notice that takes some place among the waiting ones leaves their order. -/
theorem insertAt_sublist {α : Type} (x : α) : ∀ (i : Nat) (l : List α), l.Sublist (insertAt i x l)
  | 0, l => by cases l <;> exact List.sublist_cons_self _ _
  | _ + 1, [] => List.nil_sublist _
  | i + 1, y :: l => (insertAt_sublist x i l).cons_cons y

/-- A change of the stack is announced to BLK first of all, and to GEN (R137, R171). -/
theorem emitStack_announced (s : State) : StackAnnounced s (emitStack s) :=
  ⟨_, rfl, insertAt_perm _ _ _, insertAt_sublist _ _ _⟩

/-- The discard at the entry into DEAD is announced to BLK and GEN at some place among the waiting notices (R171). -/
theorem emitDiscard_announced (s : State) :
    (emitDiscard s).notices.Perm (.stack .blk :: .stack .gen :: s.notices) ∧ s.notices.Sublist (emitDiscard s).notices := by
  unfold emitDiscard
  simp only [emitAmong_notices]
  exact ⟨(insertAt_perm _ _ _).trans (((insertAt_perm _ _ _).cons _).trans (.swap _ _ _)),
    (insertAt_sublist _ _ _).trans (insertAt_sublist _ _ _)⟩

/-- An announcement stands when notices before and after it agree. -/
theorem Announced.congr {dests : List Consumer} {mk : Consumer → Notice} {s s' t t' : State}
    (h : Announced dests mk s t) (hs : s'.notices = s.notices) (ht : t'.notices = t.notices) :
    Announced dests mk s' t' := by
  obtain ⟨l, hl, e⟩ := h
  exact ⟨l, hl, by rw [hs, ht, e]⟩

/-! ### Feeders -/

theorem modFeeder_self (f : Fin 16) (h : FeederCtl → FeederCtl) (s : State) :
    (modFeeder f h s).feeders[f] = h s.feeders[f] := by simp

theorem modFeeder_other {f k : Fin 16} (h : FeederCtl → FeederCtl) (s : State) (hk : k ≠ f) :
    (modFeeder f h s).feeders[k] = s.feeders[k] := by
  have : f.val ≠ k.val := fun e => hk (Fin.ext e.symm)
  simp [this]

/-- A change of state of a feeder: its record takes the state, and a state that differs is announced (R62). -/
theorem changeFeeder_feeder (f : Fin 16) (new : FeederState) (c : FeederCause) (s : State) :
    (changeFeeder f new c s).feeders = s.feeders.set f { s.feeders[f] with state := new } := by
  have k := (leaveStack_frame f new (modFeeder f (fun c => { c with state := new }) s)).feeders (by decide)
  unfold changeFeeder; dsimp only; split <;> simp [k]

theorem changeFeeder_announced (f : Fin 16) {new : FeederState} (c : FeederCause) (s : State)
    (h : s.feeders[f].state ≠ new) (stays : new.unlists = false) :
    Announced [.shd, .rst, .blk] (fun d => .feeder d f s.feeders[f].state new c s.feeders[f].origin false) s
      (changeFeeder f new c s) := by
  simp only [changeFeeder, leaveStack_stays f _ stays]
  rw [if_neg h]
  have k := emit_announced [.shd, .rst, .blk]
    (fun d => .feeder d f s.feeders[f].state new c (modFeeder f (fun c => { c with state := new }) s).feeders[f].origin
      false)
    (modFeeder f (fun c => { c with state := new }) s)
  rw [modFeeder_self] at k
  rw [modFeeder_self]
  exact k.congr rfl rfl

theorem changeFeeder_silent (f : Fin 16) (new : FeederState) (c : FeederCause) (s : State)
    (h : s.feeders[f].state = new) : (changeFeeder f new c s).notices = s.notices := by
  unfold changeFeeder; dsimp only; rw [if_pos h]; rfl

/-- The answers of FDT to an operation request, state by state (R54, R55). -/
theorem operate_answer (f : Fin 16) (closing : Bool) (o : OpOrigin) (s : State) :
    (operate f closing o s).2 =
      (match s.feeders[f].state with
       | .closed => if closing then .already else .taken
       | .opened => if closing then .taken else .already
       | .failed .trip => if closing then .already else .taken
       | .failed .close => if closing then .taken else .already
       | _ => .refused) := by
  unfold operate; repeat' split
  all_goals simp_all

/-- A request that is taken begins the operation (R55). -/
theorem operate_taken {f : Fin 16} {closing : Bool} {o : OpOrigin} {s : State}
    (h : (operate f closing o s).2 = .taken) : (operate f closing o s).1 = beginOperation f closing o s := by
  unfold operate at h ⊢
  cases closing <;> repeat' split at h
  all_goals simp_all

/-- A request that is refused leaves everything. -/
theorem operate_refused {f : Fin 16} {closing : Bool} {o : OpOrigin} {s : State}
    (h : (operate f closing o s).2 = .refused) : (operate f closing o s).1 = s := by
  unfold operate at h ⊢
  repeat' split at h
  all_goals simp_all

/-- What the beginning of an operation leaves of its feeder (R35, R36, R55). -/
theorem beginOperation_begun (f : Fin 16) (closing : Bool) (o : OpOrigin) (s : State) :
    OperationBegun (effectiveStyle s.settings f) s.settings.feeders[f] closing o s.feeders[f]
      (beginOperation f closing o s).feeders[f] := by
  unfold OperationBegun beginOperation
  rw [changeFeeder_feeder]
  cases e : effectiveStyle s.settings f <;> cases closing <;> cases o <;> simp [lineCommand, e, OpOrigin.sheds]

theorem beginOperation_other {f k : Fin 16} (closing : Bool) (o : OpOrigin) (s : State) (hk : k ≠ f) :
    (beginOperation f closing o s).feeders[k] = s.feeders[k] := by
  have : f.val ≠ k.val := fun e => hk (Fin.ext e.symm)
  unfold beginOperation
  rw [changeFeeder_feeder]
  unfold lineCommand
  split <;> simp [this]

/-! ### Sets -/

theorem modSet_self (g : Fin 4) (h : SetCtl → SetCtl) (s : State) :
    (modSet g h s).gen.sets[g] = h s.gen.sets[g] := by simp

theorem modSet_other {g k : Fin 4} (h : SetCtl → SetCtl) (s : State) (hk : k ≠ g) :
    (modSet g h s).gen.sets[k] = s.gen.sets[k] := by
  have : g.val ≠ k.val := fun e => hk (Fin.ext e.symm)
  simp [this]

/-- The lines follow the state; nothing else of a set does (Table 7-4). -/
theorem driveSet_self (force : Bool) (g : Fin 4) (s : State) :
    (driveSet force g s).gen.sets[g] =
      if force || driven s g then setLevels s.fmon.bus s.gen.sets[g] else s.gen.sets[g] := by
  unfold driveSet; split <;> simp

theorem driveSet_other {g k : Fin 4} (force : Bool) (s : State) (hk : k ≠ g) :
    (driveSet force g s).gen.sets[k] = s.gen.sets[k] := by
  unfold driveSet; split
  · exact modSet_other _ _ hk
  · rfl

@[simp] theorem driveSet_permit (force : Bool) (g : Fin 4) (s : State) :
    (driveSet force g s).gen.permit = s.gen.permit := by unfold driveSet; split <;> simp
@[simp] theorem driveSet_queue (force : Bool) (g : Fin 4) (s : State) :
    (driveSet force g s).gen.queue = s.gen.queue := by unfold driveSet; split <;> simp
@[simp] theorem driveSet_grant (force : Bool) (g : Fin 4) (s : State) :
    (driveSet force g s).gen.grant = s.gen.grant := by unfold driveSet; split <;> simp

/-- Entering a state, said once (R116, R117, R125): the set has the state, its timer and the lines of Table 7-4 when
it is driven; the origin goes on entering STANDBY or UNAVAILABLE. -/
theorem enterSet_self (force : Bool) (e : SetCause) (g : Fin 4) (new : SetState) (m : Timer) (s : State) :
    (enterSet force e g new m s).gen.sets[g] =
      (let c := { s.gen.sets[g] with state := new, timer := m }
       let c := if force || driven s g then setLevels s.fmon.bus c else c
       if new = .standby ∨ new = .unavailable then { c with origin := .none } else c) := by
  have hd : driven (modSet g (fun c => { c with state := new, timer := m }) s) g = driven s g := by
    simp [driven]
  have h1 := driveSet_self force g (modSet g (fun c => { c with state := new, timer := m }) s)
  rw [hd, modSet_self] at h1
  unfold enterSet
  dsimp only
  repeat' split
  all_goals simp_all

theorem enterSet_other {g k : Fin 4} (force : Bool) (e : SetCause) (new : SetState) (m : Timer) (s : State) (hk : k ≠ g) :
    (enterSet force e g new m s).gen.sets[k] = s.gen.sets[k] := by
  have h1 := driveSet_other force (modSet g (fun c => { c with state := new, timer := m }) s) hk
  rw [modSet_other _ _ hk] at h1
  have hv : g.val ≠ k.val := fun e => hk (Fin.ext e.symm)
  unfold enterSet
  dsimp only
  repeat' split
  all_goals simp_all

@[simp] theorem enterSet_state (force : Bool) (e : SetCause) (g : Fin 4) (new : SetState) (m : Timer) (s : State) :
    (enterSet force e g new m s).gen.sets[g.val].state = new := by
  have h := enterSet_self force e g new m s
  rw [Fin.getElem_fin] at h
  rw [h]; dsimp only; repeat' split
  all_goals simp [setLevels]

@[simp] theorem enterSet_timer (force : Bool) (e : SetCause) (g : Fin 4) (new : SetState) (m : Timer) (s : State) :
    (enterSet force e g new m s).gen.sets[g.val].timer = m := by
  have h := enterSet_self force e g new m s
  rw [Fin.getElem_fin] at h
  rw [h]; dsimp only; repeat' split
  all_goals simp [setLevels]

@[simp] theorem enterSet_permit (force : Bool) (e : SetCause) (g : Fin 4) (new : SetState) (m : Timer) (s : State) :
    (enterSet force e g new m s).gen.permit = s.gen.permit := by
  unfold enterSet; dsimp only; repeat' split
  all_goals simp

@[simp] theorem enterSet_queue (force : Bool) (e : SetCause) (g : Fin 4) (new : SetState) (m : Timer) (s : State) :
    (enterSet force e g new m s).gen.queue = s.gen.queue := by
  unfold enterSet; dsimp only; repeat' split
  all_goals simp

/-- A held permit, or an empty queue, is left (R120). -/
theorem servePermit_idle {s : State} (h : s.gen.permit ≠ none ∨ s.gen.queue = []) : servePermit s = s := by
  unfold servePermit
  split
  · rename_i e1 e2; simp_all
  · rfl

/-- A free permit goes to the head of the queue, which cranks (R120). -/
theorem servePermit_head {s : State} {g : Fin 4} {q : List (Fin 4)} (hp : s.gen.permit = none)
    (hq : s.gen.queue = g :: q) :
    (servePermit s).gen.permit = some g ∧ (servePermit s).gen.queue = q
      ∧ (servePermit s).gen.sets[g].state = .cranking
      ∧ (servePermit s).gen.sets[g].timer = .running s.settings.sets[g].crankOnMs
      ∧ ∀ k : Fin 4, k ≠ g → (servePermit s).gen.sets[k] = s.gen.sets[k] := by
  have e : servePermit s = enterSet false .permit g .cranking (.running s.settings.sets[g].crankOnMs)
      (modSet g (fun c => { c with attempts := c.attempts + 1 })
        (modGen (fun n => { n with permit := some g, queue := q }) s)) := by
    unfold servePermit
    rw [hp, hq]
    rfl
  rw [e]
  refine ⟨by simp, by simp, by simp, by simp, fun k hk => ?_⟩
  rw [enterSet_other _ _ _ _ _ hk, modSet_other _ _ hk]
  rfl

/-! ### Steps of a black-start run -/

/-- An entry into DEAD waits to be taken by BLK (R171). -/
theorem deadBusAwaited_iff (s : State) : deadBusAwaited s = true ↔ DeadBusAwaited s := by
  simp only [deadBusAwaited, List.any_eq_true, DeadBusAwaited]
  constructor
  · rintro ⟨n, hn, h⟩
    cases n with
    | bus d b => cases d <;> first | exact ⟨b, hn, by simpa [and_assoc] using h⟩ | simp at h
    | _ => simp at h
  · rintro ⟨b, hb, h⟩
    exact ⟨_, hb, by simpa [and_assoc] using h⟩

theorem failsStep_iff (x : SetState) :
    x.failsStep = true ↔ x = .lockedOut ∨ x = .standby ∨ x = .unavailable := by
  cases x <;> simp [SetState.failsStep]

/-- The finding on a step is that it fails at once exactly where the table of R171 says so. -/
theorem stepFinding_lost (st : PlanStep) (s : State) : stepFinding st s = .lost ↔ StepLost st s := by
  obtain ⟨kind, object, param, timeout, skippable⟩ := st
  cases kind <;> simp only [stepFinding, StepLost, reduceCtorEq, false_and, true_and, false_or, or_false]
  · cases s.blk.run.lead with
    | none => simp
    | some g =>
      simp only [Option.some.injEq, exists_eq_left']
      refine Iff.trans ?_ (failsStep_iff (setState s g))
      repeat' split
      all_goals simp_all [SetState.failsStep]
  · split
    · rename_i hk
      have e : ∀ f : Fin 16, object = f.val ↔ f = ⟨object, hk⟩ := fun f => by
        rw [Fin.ext_iff]; exact eq_comm
      simp only [e, exists_eq_left]
      have : s.feeders[(⟨object, hk⟩ : Fin 16)].state = s.feeders[object].state := rfl
      rw [this]
      cases s.feeders[object].state <;> simp
    · rename_i hk
      simp only [reduceCtorEq, false_iff, not_exists]
      rintro f ⟨e, -⟩
      exact hk (e ▸ f.isLt)
  · cases s.blk.run.nextSet with
    | none => simp
    | some g =>
      simp only [Option.some.injEq, exists_eq_left']
      refine Iff.trans ?_ (failsStep_iff (setState s g))
      repeat' split
      all_goals simp_all [SetState.failsStep]

/-- What an examination at a return to RUNNING does (R171, log 49). -/
theorem examineAfresh_eq (st : PlanStep) (s : State) :
    (DeadBusAwaited s ∧ st.skippable = false ∧ StepLost st s → examineAfresh st s = s)
      ∧ (¬ (DeadBusAwaited s ∧ st.skippable = false ∧ StepLost st s) → examineAfresh st s = examineStep st s) := by
  simp only [examineAfresh, ← deadBusAwaited_iff, ← stepFinding_lost]
  constructor <;> intro h <;> simp_all

/-! ### Channels -/

theorem modChannel_self (j : Fin 6) (h : ChannelCtl → ChannelCtl) (s : State) :
    (modChannel j h s).cur.channels[j] = h s.cur.channels[j] := by simp

theorem modChannel_other {j k : Fin 6} (h : ChannelCtl → ChannelCtl) (s : State) (hk : k ≠ j) :
    (modChannel j h s).cur.channels[k] = s.cur.channels[k] := by
  have : j.val ≠ k.val := fun e => hk (Fin.ext e.symm)
  simp [this]

/-- A limit that a channel takes (R154). -/
theorem setLimit_self (j : Fin 6) (v : Int) (r : Nat) (s : State) :
    (setLimit j v r s).cur.channels[j] =
      { s.cur.channels[j] with
        limit := v, remainder := r
        pwm := { s.cur.channels[j].pwm with pending := dutyOf v s.settings.channels[j].ratedKw } } := by
  simp [setLimit]

theorem setLimit_other {j k : Fin 6} (v : Int) (r : Nat) (s : State) (hk : k ≠ j) :
    (setLimit j v r s).cur.channels[k] = s.cur.channels[k] := modChannel_other _ _ hk

/-- The target of one channel leaves the others alone (R150). -/
theorem applyTarget_other {j k : Fin 6} (s : State) (hk : k ≠ j) :
    (applyTarget j s).cur.channels[k] = s.cur.channels[k] := setLimit_other _ _ _ hk

/-- The target of a channel is a matter of its own record and of the settings, the mode, the bus and the zero hold. -/
theorem applyTarget_congr {j : Fin 6} {s t : State} (hc : t.cur.channels[j] = s.cur.channels[j])
    (hs : t.settings = s.settings) (hm : t.lnk.mode = s.lnk.mode) (hb : t.fmon.bus = s.fmon.bus)
    (hz : t.cur.zeroHold = s.cur.zeroHold) (hq : t.cur.seqActive = s.cur.seqActive) :
    (applyTarget j t).cur.channels[j] = (applyTarget j s).cur.channels[j] := by
  have he : effectiveCeiling t j = effectiveCeiling s j := by
    simp only [effectiveCeiling, baseCeiling, releaseLimit, hc, hs, hq]
  have ht : pvTarget t j = pvTarget s j := by
    simp only [pvTarget, he, hc, hs, hm, hz]
  have hl : limitAtTarget t j = limitAtTarget s j := by
    simp only [limitAtTarget, hm, hb, he, ht, hc]
  rw [applyTarget, applyTarget, setLimit_self, setLimit_self, hl, hc, hs]

theorem applyTarget_zeroHold (j : Fin 6) (s : State) : (applyTarget j s).cur.zeroHold = s.cur.zeroHold := by
  simp [applyTarget, setLimit]
theorem applyTarget_seqActive (j : Fin 6) (s : State) : (applyTarget j s).cur.seqActive = s.cur.seqActive := by
  simp [applyTarget, setLimit]

/-- The channels of a list that have been picked take their targets, the others stand. -/
theorem targets_foldl (pick : Fin 6 → Prop) [DecidablePred pick] (j : Fin 6) : ∀ (l : List (Fin 6)) (s : State), l.Nodup →
    (l.foldl (fun t k => if pick k then t else applyTarget k t) s).cur.channels[j] =
      if j ∈ l ∧ ¬ pick j then (applyTarget j s).cur.channels[j] else s.cur.channels[j]
  | [], s, _ => by simp
  | k :: l, s, h => by
    obtain ⟨hk, hl⟩ := List.nodup_cons.mp h
    rw [List.foldl_cons, targets_foldl pick j l _ hl]
    by_cases e : j = k
    · subst e
      by_cases p : pick j <;> simp [hk, p]
    · by_cases p : pick k
      · simp [p, e]
      · have f := applyTarget_frame k s
        have o := applyTarget_other (j := k) (k := j) s e
        simp only [if_neg p, o, List.mem_cons, e, false_or]
        split
        · exact applyTarget_congr o (f.settings (by decide)) (by rw [f.lnk (by decide)]) (by rw [f.fmon (by decide)])
            (applyTarget_zeroHold k s) (applyTarget_seqActive k s)
        · rfl

/-- Every channel takes its target (R150, R153). -/
theorem applyTargets_channel (s : State) (j : Fin 6) :
    (applyTargets s).cur.channels[j] = (applyTarget j s).cur.channels[j] := by
  have h := targets_foldl (fun _ => False) j (List.finRange 6) s (List.nodup_finRange 6)
  simpa [applyTargets] using h

/-- A channel takes its target when an input of its ceiling or its share has changed, and is left alone otherwise
(R142, R149, R150). -/
theorem retarget_channel (old s : State) (j : Fin 6) :
    (retarget old s).cur.channels[j] =
      if constraintsOf s j = constraintsOf old j then s.cur.channels[j] else (applyTarget j s).cur.channels[j] := by
  have h := targets_foldl (fun k => constraintsOf s k = constraintsOf old k) j (List.finRange 6) s (List.nodup_finRange 6)
  rw [retarget, h]
  by_cases e : constraintsOf s j = constraintsOf old j <;> simp [e]

/-- A channel whose inputs stand has the effective ceiling it had (R142). -/
theorem effectiveCeiling_of_constraints {old s : State} {j : Fin 6} (h : constraintsOf s j = constraintsOf old j) :
    effectiveCeiling s j = effectiveCeiling old j := by
  simp only [constraintsOf, Constraints.mk.injEq] at h
  obtain ⟨hi, hb, hr, -⟩ := h
  simp only [effectiveCeiling, hi, hb]
  cases k : s.cur.seqActive <;> cases k' : old.cur.seqActive <;> simp_all

/-! ### Rings and reply lists -/

/-- A ring never holds more than its places (R6, R7). -/
theorem ringPush_length {α : Type} (n : Nat) (l : List α) (x : α) (h : l.length ≤ n) (hn : 0 < n) :
    (ringPush n l x).length ≤ n := by
  unfold ringPush
  split <;> simp <;> omega

/-- A reply joins the list behind those that wait (R179, R180). -/
theorem enqueue_waiting (r : Reply) (c : LinkCtl) :
    (c.enqueue r).waiting = if c.current = .none then c.waiting else c.waiting ++ [r] := by
  unfold LinkCtl.enqueue
  split <;> simp_all

theorem enqueue_current (r : Reply) (c : LinkCtl) :
    (c.enqueue r).current = if c.current = .none then .sending r else c.current := by
  unfold LinkCtl.enqueue
  split <;> simp_all

end Sys2Proof.Machine
end

