-- ==== Sys2Proof/Tests/Slice0.lean ====
section
/-! SUPPORT. Tests: the checks of well-formedness, figures worked out in the manual, small steps, and for every
statement with hypotheses states that meet them. -/

namespace Sys2Proof.Machine

set_option Elab.async false

/-! ### Helpers -/

/-- A request frame on Link A. -/
def testFrame (p : List Nat) : Frame := ⟨.a, 7, p.map (BitVec.ofNat 8)⟩

/-- The state after a command. -/
def after (c : Instr) (s : State) : State :=
  match exec c s with
  | .next t => t
  | _ => s

/-- The acceptance of a request as a test. -/
def acceptsTest (g : Group) (f : Frame) (lengthOk : Bool) (s : State) : Bool :=
  decide (s.phase = .running) && (s.link f.link).enabled && decide (s.lnk.reset ≠ .draining)
    && decide ((s.link f.link).waiting.length < Config.replyListMax) && lengthOk
    && decide ((s.link f.link).current = .none) && decide (g = .configure → s.sto.write = none)
    && decide (g ≠ .either → f.link = operateLink s)

theorem accepts_iff {g : Group} {f : Frame} {b : Bool} {s : State} : Accepts g f b s ↔ acceptsTest g f b s = true := by
  constructor
  · rintro ⟨h1, h2, h3, h4, h5, h6, h7, h8⟩
    simp only [acceptsTest, Bool.and_eq_true, decide_eq_true_eq]
    exact ⟨⟨⟨⟨⟨⟨⟨h1, h2⟩, h3⟩, h4⟩, h5⟩, h6⟩, h7⟩, h8⟩
  · intro h
    simp only [acceptsTest, Bool.and_eq_true, decide_eq_true_eq] at h
    obtain ⟨⟨⟨⟨⟨⟨⟨h1, h2⟩, h3⟩, h4⟩, h5⟩, h6⟩, h7⟩, h8⟩ := h
    exact ⟨h1, h2, h3, h4, h5, h6, h7, h8⟩

/-- The reset state in AUTO with a LIVE bus. -/
def liveAuto : State :=
  { State.reset with
    lnk := { State.reset.lnk with mode := .auto }
    fmon := { State.reset.fmon with
      bus := .live, reference := some 0
      present := some { f := 50000, r := none, dP := none, s4 := 800000, eOn := none, seq := 1, time := 0 } }
    blk := {} }

/-- A state with a feeder in a state. -/
def withFeeder (f : Fin 16) (x : FeederState) (s : State) : State := modFeeder f (fun c => { c with state := x }) s

/-- A state with a set in a state. -/
def withSet (g : Fin 4) (x : SetState) (s : State) : State := modSet g (fun c => { c with state := x }) s

/-- A state with an input at a debounced level. -/
def withInput (i : Fin 32) (b : Bool) (s : State) : State := modInput i (fun c => { c with debounced := b }) s

/-- A state with BLK in a state. -/
def withBlk (x : BlkState) (s : State) : State := { s with blk := { s.blk with state := x } }

/-- A stack entry of one feeder. -/
def testEntry : Entry :=
  { tag := 3, kind := .ufShed, trigger := 1, freq := 48900, pushTime := 0
    items := [{ feeder := 5, generation := 0, snapshot := 40 }] }

/-- A header entry. -/
def testHeader : Entry := { tag := 1, kind := .header, trigger := 0, freq := 0, pushTime := 0 }

/-- A state with a stack. -/
def withStack (l : List Entry) (s : State) : State := modRst (fun r => { r with entries := l }) s

/-- An entry that lists one feeder. -/
def listing (f : Fin 16) : Entry := { testEntry with items := [{ feeder := f, generation := 0, snapshot := 40 }] }

/-- A run of one step, begun or not, whose lead is set 0 and whose START_NEXT set is set 1. -/
def inStep (st : PlanStep) (begun : Bool) (s : State) : State :=
  { s with
    settings := { s.settings with directory := Vector.replicate 4 (some 3), plans := Vector.replicate 4 { steps := [st] } }
    blk := { state := .running, run := { plan := some 3, lead := some 0, step := 1, begun := begun, nextSet := some 1 } } }

/-- The set that would lead a run begun now. -/
def firstLead (s : State) : Option (Fin 4) :=
  ((leadOrder s).filter fun g => decide (s.gen.sets[g].state = .standby) && (leadPlan s g).isSome).head?

/-! The laws as conjunctions that can be decided. -/

theorem crankLaw_iff {s : State} : CrankLaw s ↔
    (∀ g : Fin 4, s.gen.permit = some g ↔ s.gen.sets[g].state = .cranking)
      ∧ (∀ g : Fin 4, g ∈ s.gen.queue ↔ s.gen.sets[g].state = .waitCrank) ∧ s.gen.queue.Nodup
      ∧ (s.gen.permit = none → s.gen.queue = []) :=
  ⟨fun h => ⟨h.holder, h.waiting, h.once, h.served⟩, fun h => ⟨h.1, h.2.1, h.2.2.1, h.2.2.2⟩⟩

theorem crankLineLaw_iff {s : State} : CrankLineLaw s ↔
    s.notices = [] ∧ (∀ g : Fin 4, s.gen.sets[g].crank = true ↔ s.gen.sets[g].state = .cranking)
      ∧ (∀ g : Fin 4, s.gen.sets[g].state.atCrank = true → s.gen.sets[g].origin ≠ .none)
      ∧ (s.lnk.mode = .monitor → ∀ g : Fin 4, s.gen.sets[g].state.atCrank = true → s.gen.sets[g].origin ≠ .auto) :=
  ⟨fun h => ⟨h.settled, h.line, h.owned, h.driven⟩, fun h => ⟨h.1, h.2.1, h.2.2.1, h.2.2.2⟩⟩

theorem deadLimitLaw_iff {s : State} : DeadLimitLaw s ↔
    s.notices = [] ∧ (s.fmon.bus = .dead → s.cur.zeroHold = true)
      ∧ (s.fmon.bus = .dead → ∀ j : Fin 6, s.cur.channels[j].limit = 0)
      ∧ (s.lnk.mode = .auto → s.cur.zeroHold = true → ∀ j : Fin 6, s.cur.channels[j].limit = 0)
      ∧ (s.lnk.mode = .monitor → s.fmon.bus ≠ .dead → ∀ j : Fin 6, s.cur.channels[j].limit = effectiveCeiling s j)
      ∧ (s.lnk.mode = .monitor → ∀ j : Fin 6, s.cur.channels[j].remainder = 0) :=
  ⟨fun h => ⟨h.settled, h.hold, h.dead, h.held, h.monitor, h.remainder⟩,
    fun h => ⟨h.1, h.2.1, h.2.2.1, h.2.2.2.1, h.2.2.2.2.1, h.2.2.2.2.2⟩⟩

theorem listingLaw_iff {s : State} : ListingLaw s ↔
    (s.rst.entries.flatMap fun e => e.items.map fun x => x.feeder).Nodup
      ∧ ∀ f : Fin 16, listed s f = true →
          s.feeders[f].state ∈ [.opened, .opening, .failed .trip, .failed .close] := by
  constructor
  · intro h
    refine ⟨h.once, fun f hf => ?_⟩
    rcases h.state f hf with h | h | ⟨d, h⟩ <;> rw [h]
    · simp
    · simp
    · cases d <;> simp
  · intro h
    refine ⟨h.1, fun f hf => ?_⟩
    have := h.2 f hf
    simp only [List.mem_cons, List.not_mem_nil, or_false] at this
    rcases this with h | h | h | h
    · exact .inl h
    · exact .inr (.inl h)
    · exact .inr (.inr ⟨_, h⟩)
    · exact .inr (.inr ⟨_, h⟩)

theorem stackShape_iff {s : State} : StackShape s ↔
    s.rst.entries.length ≤ 8 ∧ (∀ e ∈ s.rst.entries.drop 1, e.isHeader = false)
      ∧ (∀ e ∈ s.rst.entries, e.isHeader = true → e.items = []) ∧ (headerStands s = true ↔ blkActive s = true) := by
  constructor
  · intro h
    refine ⟨h.size, fun e he => ?_, fun e he k => ?_, h.header⟩
    · obtain ⟨i, hi⟩ := List.mem_iff_getElem?.1 he
      rw [List.getElem?_drop] at hi
      cases k : e.isHeader
      · rfl
      · exact absurd (h.place _ e hi k).1 (by omega)
    · obtain ⟨i, hi⟩ := List.mem_iff_getElem?.1 he
      exact (h.place i e hi k).2
  · intro ⟨h1, h2, h3, h4⟩
    refine ⟨h1, fun i e he k => ⟨?_, h3 e (List.mem_of_getElem? he) k⟩, h4⟩
    cases i with
    | zero => rfl
    | succ n =>
      have : e ∈ s.rst.entries.drop 1 :=
        List.mem_iff_getElem?.2 ⟨n, by rw [List.getElem?_drop]; simpa [Nat.add_comm] using he⟩
      exact absurd (h2 e this) (by simp [k])

theorem stackLaw_iff {s : State} : StackLaw s ↔ s.notices = [] ∧ StackShape s :=
  ⟨fun h => ⟨h.settled, h.shape⟩, fun h => ⟨h.1, h.2⟩⟩

/-- A journal record. -/
def testRecord : JournalRecord := { time := 0, kind := 1, object := 0, value := 0 }

/-! ### Well-formed commands -/

theorem test_wf_long_frame : Instr.wf (.identify ⟨.a, 0, List.replicate 249 0⟩) = false := by decide +kernel
theorem test_wf_full_frame : Instr.wf (.measure ⟨.a, 0, List.replicate 248 0⟩) = true := by decide +kernel
theorem test_wf_unknown_kind : Instr.wf (.unknownKind 0x0E (testFrame [])) = false := by decide
theorem test_wf_unknown_kind_other : Instr.wf (.unknownKind 0x0F (testFrame [])) = true := by decide
theorem test_wf_blackstart_begin : Instr.wf (.blackstartBegin (testFrame [1])) = false := by decide
theorem test_wf_blackstart_hold : Instr.wf (.blackstartHold (testFrame [2])) = false := by decide
theorem test_wf_blackstart_resume : Instr.wf (.blackstartResume (testFrame [1])) = false := by decide
theorem test_wf_blackstart_abort : Instr.wf (.blackstartAbort (testFrame [])) = false := by decide
theorem test_wf_blackstart_ack : Instr.wf (.blackstartAck (testFrame [3])) = false := by decide
theorem test_wf_load_image : Instr.wf (.settingsLoadEnd (List.replicate 4097 0)) = false := by decide +kernel
theorem test_wf_read_back : Instr.wf (.storeWriteEnd (List.replicate 4097 0)) = false := by decide +kernel

/-! ### Figures of the manual -/

/-- The examples of R2. -/
theorem test_corrected_periods :
    correctedPeriod 200000 25 = 200005 ∧ correctedPeriod 203125 (-128) = 203099 ∧ correctedPeriod 250000 2 = 250001
      ∧ correctedPeriod 250000 (-2) = 249999 := by decide

/-- The extremes of R7. -/
theorem test_frequency_values :
    freqOf 1000000 = 40000 ∧ freqOf 666668 = 60000 ∧ freqOf 833332 = 48000 ∧ freqOf 555556 = 72000 := by decide

/-- The worked case of chapter 1: f, r and the imbalance at the crossings A to D. -/
theorem test_worked_values :
    freqOf 800200 = 49988 ∧ freqOf 800600 = 49963 ∧ freqOf 801200 = 49925 ∧ freqOf 802000 = 49875
      ∧ rocofOf 49988 50000 800200 = -149 ∧ rocofOf 49963 50000 800600 = -462 ∧ rocofOf 49925 50000 801200 = -936
      ∧ rocofOf 49875 50000 802000 = -1558 ∧ imbalanceOf 8000 (-149) 50000 = -47
      ∧ imbalanceOf 8000 (-462) 50000 = -147 ∧ imbalanceOf 8000 (-936) 50000 = -299
      ∧ imbalanceOf 8000 (-1558) 50000 = -498 ∧ imbalanceOf 4800 (-1558) 50000 = -299 := by decide

/-- The example of R154: 481 kW of 500 kW is 962 per mille. -/
theorem test_duty : dutyOf 481 500 = 962 := by decide

/-- The CRCs of R177 and R197 at the digits "123456789": the values that polynomial, start value and bit order
of each give (the public check values of these two CRCs). -/
theorem test_crcs :
    crc16 [0x31, 0x32, 0x33, 0x34, 0x35, 0x36, 0x37, 0x38, 0x39] = 0x29B1
      ∧ crc32 [0x31, 0x32, 0x33, 0x34, 0x35, 0x36, 0x37, 0x38, 0x39] = 0xCBF43926 := by decide +kernel

/-- Fields are carried low byte first, signed ones in two's complement (R188). -/
theorem test_fields :
    leBytes 2 0x0416 = [0x16, 0x04] ∧ leBytesInt 2 (-2) = [0xFE, 0xFF] ∧ ofLe [0x16, 0x04] = 0x0416
      ∧ ofLeInt [0xFE, 0xFF] = -2 := by decide

/-! ### Small steps -/

/-- The lost crossing of chapter 1: a period of 400,000 ticks breaks the run. -/
theorem test_lost_crossing :
    (let s := { liveAuto with
        fmon := { liveAuto.fmon with reference := some 5000000 }, time := { liveAuto.time with capture := 5400000 } }
     let u := crossingArrives s
     u.fmon.bus = .settling ∧ u.fmon.reference = some 5400000 ∧ u.fmon.present = none
      ∧ u.evr.journal.getLast? = some { time := 0, kind := 1, object := 1, value := 400000 }) := by decide +kernel

/-- The spurious edge of chapter 1: a period of 30,000 ticks is only counted. -/
theorem test_spurious_edge :
    (let s := { liveAuto with
        fmon := { liveAuto.fmon with reference := some 1000000 }, time := { liveAuto.time with capture := 1030000 } }
     (after .crossing s).fmon = { s.fmon with rejected := 1 }) := by decide +kernel

/-- The example of R45: with the timeout at 2,000 ms a point of age 2,000 is fresh; the tick after it is the very next
command, and makes it stale at 2,001. -/
theorem test_stale_at_2001 :
    (let s := { State.reset with
        time := { State.reset.time with sub := 9999 }
        meas := { feeders := Vector.replicate 16 { age := 2000, stale := false } } }
     (millisecond s).pending = [.pointsBecomeStale] ∧ (millisecond s).meas.feeders[15].age = 2000
      ∧ (staleTick s).meas.feeders[15] = { value := 0, age := 2001, stale := true }) := by decide +kernel

/-- Two CONFIGURE_SYSTEMs that cross on the links: the reply on Link A puts the rate of its own request in force, not
the one that Link B's request has written since (R176). -/
theorem test_crossing_line_settings :
    (let r : Reply := { kind := 0xC0, tag := 7, payload := [0], lines := some { rateB := some .r9600 } }
     let s := modLink .a (fun c => { c with current := .sending r })
       { State.reset with settings := { sys := { rateB := .r19200 } } }
     ((after (.replyTransmitted .a) s).link .b).rate = .r9600) := by decide +kernel

/-- The dead-bus timer is 750,000 ticks at 50 Hz and 624,999 at 60 Hz (R15); at 9,750,000 it is due. -/
theorem test_dead_bus_timer :
    deadBusTicks .hz50 = 750000 ∧ deadBusTicks .hz60 = 624999
      ∧ (let s := { liveAuto with
            fmon := { liveAuto.fmon with reference := some 9000000 }
            time := { liveAuto.time with capture := 9750000 } }
         deadBusDue s = true ∧ (deadBusExpires s).fmon.bus = .dead) := by decide +kernel

/-- An input of debounce 10 changes at the tenth sample after the one that first shows the level (R21, R23). -/
theorem test_debounce :
    (sampleInput {} { raw := true, prev := true, counter := 8 }).changeDue = false
      ∧ (sampleInput {} { raw := true, prev := true, counter := 9 }).changeDue = true
      ∧ (sampleInput {} { raw := true, prev := false, counter := 9 }).counter = 0 := by decide

/-- A latched view stays closed until READ_INPUTS opens it (R24, R29). -/
theorem test_latched_view :
    (let t : InputSettings := { latch := true, mode := .level }
     let a := changedInput t {} true
     let b := changedInput t a false
     let c := readInput t b
     a.view = true ∧ a.flag = true ∧ b.view = true ∧ b.flag = true ∧ b.debounced = false
      ∧ c.lastRead = true ∧ c.view = false ∧ c.flag = true) := by decide

/-- A close in PULSE style asserts CLOSE for the pulse (R35); in MAINTAINED style an open releases CLOSE (R36). -/
theorem test_line_commands :
    (lineCommand 3 true State.reset).feeders[3].close = true
      ∧ (lineCommand 3 true State.reset).feeders[3].pulse = .running 200
      ∧ (let s := { State.reset with settings := { sys := { styleLow := .maintained } } }
         (lineCommand 3 false (lineCommand 3 true s)).feeders[3].close = false
          ∧ (lineCommand 3 false s).feeders[3].trip = false) := by decide +kernel

/-- A trip that fails: FAILED TRIP, TRIP_FAIL and its record (R57). -/
theorem test_failed_trip :
    (let u := operateTimerExpires 2 (withFeeder 2 .opening State.reset)
     u.feeders[2].state = .failed .trip ∧ u.evr.protection = 0x0400
      ∧ u.evr.journal.getLast? = some { time := 0, kind := 3, object := 2, value := 0 }) := by decide +kernel

/-- Two stages at one value: the counts of both rise (R71). -/
theorem test_stage_counts :
    (stageCountsAfter State.reset 48650).toList = [1, 1, 0, 0] := by decide +kernel

/-- The shed target of the worked case: 498 - 450 = 48 kW (chapter 1, R78). -/
theorem test_shed_target :
    (let s := { withSet 0 .online (withSet 1 .online State.reset) with
        settings := { sets := #v[{ ratedKw := 1200, stepKw := 300 }, { ratedKw := 800, stepKw := 200 }, {}, {}] }
        meas := { sets := #v[{ value := 950, stale := false }, { value := 600, stale := false }, {}, {}] } }
     fastReserve s = 450 ∧ shedTarget s (-498) = 48) := by decide +kernel

/-- The ramp of R151 at 25 kW/s: steps of 2 and 3 kW. -/
theorem test_ramp :
    (let s := { liveAuto with
        settings := { channels := Vector.replicate 6 { inService := true, rampUp := 25, hostCeiling := 90 } }
        cur := { channels := Vector.replicate 6 { latch := false }, zeroHold := false } }
     let a := after .rampTick s
     let b := after .rampTick a
     a.cur.channels[1].limit = 2 ∧ a.cur.channels[1].remainder = 5 ∧ b.cur.channels[1].limit = 5
      ∧ b.cur.channels[1].remainder = 0) := by decide +kernel

/-- At 962 per mille of a 10 ms period the line is active for 96,200 of 100,000 ticks (R154). -/
theorem test_pwm_ticks :
    Pwm.activeTicks { present := 962, periodMs := 10 } = 96200
      ∧ Pwm.periodTicks { present := 962, periodMs := 10 } = 100000 := by decide

/-- A set whose breaker closes is ONLINE; its opening locks it out with cause 4 (R126, R128, R130). -/
theorem test_breaker_of_a_set :
    (breakerChange 1 true (withSet 1 .syncing State.reset)).gen.sets[1].state = .online
      ∧ (breakerChange 1 false (withSet 1 .online State.reset)).gen.sets[1].lockout = 4
      ∧ (breakerChange 1 false (withSet 1 .online State.reset)).evr.protection = 0x1000 := by decide +kernel

/-- Lead order: fixed places first, then the smaller runtime (R133). -/
theorem test_lead_order :
    leadOrder { State.reset with
        settings := { sets := #v[{ runtime := 50 }, { runtime := 20 }, { rankOverride := 2 }, { runtime := 20 }] } }
      = [2, 1, 3, 0] := by decide +kernel

/-- The 32nd record is the last that loses none (R195). -/
theorem test_journal_overrun :
    (let s := { State.reset with evr := { journal := List.replicate 31 testRecord } }
     let a := journal .droopBegins 0 7 s
     let b := journal .droopEnds 0 8 a
     a.evr.journal.length = 32 ∧ a.evr.advisory = 0 ∧ b.evr.journal.length = 32 ∧ b.evr.advisory = 0x0100
      ∧ b.evr.journal.getLast? = some { time := 0, kind := 35, object := 0, value := 8 }) := by decide +kernel

/-- A stack entry goes out with its last feeder (R98). -/
theorem test_entry_empties :
    (unlist 5 (withStack [testEntry] State.reset)).rst.entries = []
      ∧ (unlist 5 (withStack [testEntry] State.reset)).evr.advisory = 0x0410 := by decide +kernel

/-- GET_STATUS of a dead bus begins with status OK, bus state DEAD and an absent frequency (R187, R188). -/
theorem test_get_status :
    (match (after (.getStatus (testFrame [])) State.reset).lnk.linkA.current with
     | .sending r => (r.kind, r.tag, r.payload.take 6)
     | _ => (0, 0, [])) = (0x82, 7, [0x00, 0x00, 0xFF, 0xFF, 0xFF, 0xFF]) := by decide +kernel

/-- The check order: BAD_LENGTH before BUSY, BUSY before NOT_PERMITTED (R182). -/
theorem test_check_order :
    (let busy := modLink .a (fun c => { c with current := .forming }) State.reset
     let atLocal := modLnk (fun n => { n with isLocal := true }) State.reset
     lnkCheck .operate false .a busy = some .badLength ∧ lnkCheck .operate true .a busy = some .busy
      ∧ lnkCheck .operate true .a atLocal = some .notPermitted ∧ lnkCheck .either true .a atLocal = none) := by
  decide +kernel

/-- A frame's bytes complete its command: RESTORE_ENTRY of position 0, tag 1. -/
theorem test_frame_bytes :
    receiveAll .b .hunting (frameBytes 0x22 9 [0, 1]) = (.hunting, [.restoreEntry ⟨.b, 9, [0, 1]⟩]) := by
  decide +kernel

/-- A length of 1 or 251 is a length error; 2 and 250 are not (R177). -/
theorem test_length_error :
    receiveByte .a 1 (.inFrame []) = (.hunting, some (.lengthError .a))
      ∧ receiveByte .a 251 (.inFrame []) = (.hunting, some (.lengthError .a))
      ∧ receiveByte .a 2 (.inFrame []) = (.inFrame [2], none)
      ∧ receiveByte .a 250 (.inFrame []) = (.inFrame [250], none) := by decide

/-- An empty memory is rejected with reason 1 (R198). -/
theorem test_empty_memory : loadImage [] = .inr 1 := by decide +kernel

/-! ### States that meet the hypotheses of the statements -/

/-- Before a millisecond and at one, of a running and of a loading part; a point about to pass the timeout; a sample
with a change due. -/
theorem witness_IdleStepIsOneTick :
    (let s := { State.reset with time := { State.reset.time with sub := 9998 } }
     s.pending = [] ∧ happenings s = [] ∧ s.time.sub + 1 < 10000 ∧ s.phase = .running)
      ∧ (let s := { State.reset with time := { State.reset.time with sub := 9999, tenth := 99 } }
         let t := { s with meas := { sets := Vector.replicate 4 { age := 2000, stale := false } } }
         s.pending = [] ∧ happenings s = [] ∧ 10000 ≤ s.time.sub + 1 ∧ s.phase = .running
          ∧ t.pending = [] ∧ happenings t = [] ∧ t.meas.sets[3].stale = false
          ∧ t.settings.sys.measTimeoutMs < min 65535 (t.meas.sets[3].age + 1))
      ∧ (let s := { powerOn State.reset with time := { (powerOn State.reset).time with sub := 9999 } }
         s.pending = [] ∧ happenings s = [] ∧ 10000 ≤ s.time.sub + 1 ∧ s.phase = .loading)
      ∧ (let s := modInput 28 (fun c => { c with raw := true, prev := true, changeDue := true }) State.reset
         s.pending = [] ∧ sampleChanges s = [.debouncedChange 28 true] ∧ s.inputs[28].changeDue = true
          ∧ s.inputs[28].prev = true ∧ (happenings s).length = 1) := by decide +kernel

/-- A loading part and a crossing. -/
theorem witness_LoadingPartPassesOverEveryEvent :
    (powerOn State.reset).phase = .loading ∧ Instr.crossing ≠ .powerOnReset
      ∧ ∀ image, Instr.crossing ≠ .settingsLoadEnd image := by
  refine ⟨by decide +kernel, by decide, fun _ h => ?_⟩
  cases h

/-- The content of the default settings image: version, length and records, before the check code. -/
def defaultContent : List Byte := leBytes 2 0x0416 ++ leBytes 2 (imageRecords {}).length ++ imageRecords {}

theorem test_default_content_header :
    defaultContent.length = 750 ∧ ofLe (defaultContent.take 2) = 0x0416 ∧ ofLe ((defaultContent.take 4).drop 2) = 746 := by
  decide +kernel

theorem test_default_content_records : settingsOfRecords (defaultContent.drop 4) = some {} := by decide +kernel

theorem memoryBytes_append_of_le (xs ys : List Byte) (n : Nat) (h : n ≤ xs.length) :
    memoryBytes (xs ++ ys) n = xs.take n := by
  unfold memoryBytes
  rw [List.take_append_of_le_length h, List.length_append, show n - (xs.length + ys.length) = 0 by omega]
  simp

theorem ofLe_leBytes_four (x : BitVec 32) : ofLe (leBytes 4 x.toNat) = x.toNat := by
  have h := x.isLt
  simp only [leBytes, ofLe, BitVec.toNat_ofNat]
  omega

/-- The image of the default settings, with its check code, is accepted. -/
theorem test_default_image_accepted :
    loadImage (defaultContent ++ leBytes 4 (crc32 defaultContent).toNat) = .inl {} := by
  obtain ⟨hl, hv, hn⟩ := test_default_content_header
  have hc : (leBytes 4 (crc32 defaultContent).toNat).length = 4 := rfl
  have h4 := ofLe_leBytes_four (crc32 defaultContent)
  have hr := test_default_content_records
  generalize leBytes 4 (crc32 defaultContent).toNat = tail at *
  generalize defaultContent = content at *
  have hw : memoryBytes (content ++ tail) 754 = content ++ tail := by
    simp [memoryBytes, List.take_of_length_le, hl, hc]
  have h750 : content.take 750 = content := List.take_of_length_le (by omega)
  unfold loadImage
  simp only [memoryBytes_append_of_le content tail 2 (by omega), memoryBytes_append_of_le content tail 4 (by omega), hv, hn,
    ne_eq, not_true_eq_false, if_false, Nat.reduceAdd, hw]
  rw [memoryBytes_append_of_le content tail 750 (by omega), h750, List.drop_left' hl, h4, hr]
  simp

/-- A loading part, an image that is accepted and one that is rejected. -/
theorem witness_SettingsLoadEndInitialisesTheBlocks :
    (powerOn State.reset).phase = .loading
      ∧ loadImage (defaultContent ++ leBytes 4 (crc32 defaultContent).toNat) = .inl {}
      ∧ loadImage [0x16, 0x04, 0xF9, 0x0F] = .inr 2 := ⟨by decide +kernel, test_default_image_accepted, by decide +kernel⟩

/-- A part whose RESET reply has gone. -/
theorem witness_SoftResetKeepsSettingsModeAndTime :
    (let s := modLnk (fun n => { n with reset := .draining }) State.reset
     s.phase = .running ∧ s.lnk.reset = .draining ∧ s.lnk.linkA.current = .none ∧ s.lnk.linkB.current = .none
      ∧ s.sto.write = none ∧ softResetReady s = true) := by decide +kernel

/-- The default settings stand in their ranges. -/
theorem witness_SettingsImageRoundTrip :
    Settings.InRange {} where
  sys := by constructor <;> decide
  stages := by decide +kernel
  feeders := by decide +kernel
  sets := by decide +kernel
  channels := by decide +kernel
  inputs := by decide +kernel
  planSize := by decide +kernel
  steps p st h := by fin_cases p <;> cases h

/-- The longest payload and the shortest. -/
theorem witness_FrameBytesCompleteTheirCommand :
    (List.replicate 248 (0 : Byte)).length ≤ 248 ∧ ([] : List Byte).length ≤ 248 := by decide +kernel

/-- A full journal, and a step from it. -/
theorem witness_EveryStepKeepsTheJournalLaw :
    (let s := { State.reset with evr := { journal := List.replicate 32 testRecord } }
     JournalLaw s ∧ ∃ t, step s = .next t) := ⟨by unfold JournalLaw; decide +kernel, _, rfl⟩

/-- A part with PROTECTION pending and unmasked, ALERT0 asserted, and a step from it. -/
theorem witness_EveryStepKeepsTheAlertLaw :
    (let s := { State.reset with evr := { protection := 1, maskProtection := false, alert0 := true } }
     AlertLaw s ∧ ∃ t, step s = .next t) := ⟨by unfold AlertLaw; decide +kernel, _, rfl⟩

/-- A granted set in SYNCING on a dead bus, DEAD_CLOSE asserted, and a step from it. -/
theorem witness_EveryStepKeepsTheDeadCloseLaw :
    (let s := withBlk .running (modGen (fun n => { n with grant := some 1 })
        (modSet 1 (fun c => { c with state := .syncing, deadClose := true }) State.reset))
     DeadCloseLaw s ∧ ∃ t, step s = .next t) := ⟨by unfold DeadCloseLaw; decide +kernel, _, rfl⟩

/-- Feeders of both styles with a line asserted, and a step from there. -/
theorem witness_EveryStepKeepsTheLinesLaw :
    (let s := lineCommand 9 true (lineCommand 2 false
        { State.reset with settings := { sys := { styleHigh := .maintained } } })
     LinesLaw s ∧ ∃ t, step s = .next t) := ⟨by unfold LinesLaw LinesOk; decide +kernel, _, rfl⟩

/-- A set that cranks for the host while another waits, in MONITOR, with sets that nothing drives. -/
theorem witness_EveryStepKeepsTheCrankLaw :
    (let s := modGen (fun n => { n with permit := some 2, queue := [0] })
        (modSet 2 (fun c => { c with state := .cranking, origin := .host, crank := true })
          (modSet 0 (fun c => { c with state := .waitCrank, origin := .host }) State.reset))
     (CrankLaw s ∧ CrankLineLaw s ∧ requestOf .rampTick = none ∧ s.phase = .running ∧ s.lnk.mode = .monitor
        ∧ blkActive s = false ∧ s.notices = [] ∧ s.gen.sets[1].origin ≠ .host ∧ s.gen.sets[1].origin ≠ .blackstart)
      ∧ (∃ t, step s = .next t) ∧ ∃ t, exec .rampTick s = .next t) := by
  refine ⟨?_, ⟨_, rfl⟩, _, rfl⟩
  simp only [crankLaw_iff, crankLineLaw_iff]
  decide +kernel

/-- Channels at a limit below their ceiling; channels held at 0 on a dead bus, and channels at their ceiling on a live
bus in MONITOR; a step from each. -/
theorem witness_EveryStepKeepsTheLimitLaw :
    (let s := { State.reset with
        settings := { channels := Vector.replicate 6 { inService := true, hostCeiling := 90 } }
        cur := { channels := Vector.replicate 6 { latch := false, limit := 40 } } }
     let d := { s with cur := { channels := Vector.replicate 6 { latch := false } } }
     let m := { s with
        cur := { channels := Vector.replicate 6 { latch := false, limit := 90 } }
        fmon := { s.fmon with bus := .live } }
     (LimitLaw s ∧ LimitLaw d ∧ LimitLaw m) ∧ (DeadLimitLaw d ∧ DeadLimitLaw m)
      ∧ (∃ t, step s = .next t) ∧ (∃ t, step d = .next t) ∧ ∃ t, step m = .next t) := by
  refine ⟨⟨?_, ?_, ?_⟩, ?_, ⟨_, rfl⟩, ⟨_, rfl⟩, _, rfl⟩
  all_goals first
    | (refine fun j => ⟨⟨?_, ?_, ?_, ?_, ?_, ?_, ?_⟩, ?_⟩ <;> fin_cases j <;>
        simp [State.reset, effectiveCeiling, baseCeiling])
    | (simp only [deadLimitLaw_iff]; decide +kernel)

/-- A running sequence with its header and one entry above it, and a step from there. -/
theorem witness_EveryStepKeepsTheStackLaw :
    (let s := withBlk .running (withStack [testHeader, testEntry] (withFeeder 5 .opened State.reset))
     (StackLaw s ∧ ListingLaw s) ∧ ∃ t, step s = .next t) := by
  refine ⟨?_, _, rfl⟩
  simp only [stackLaw_iff, stackShape_iff, listingLaw_iff]
  decide +kernel

/-- A state without notices. -/
theorem witness_DeliveryReachesOnlyTheConsumers :
    State.reset.notices = [] := rfl

/-- Journals of 15, 31 and 32 records; a part ready for its soft reset; loading parts. -/
theorem witness_JournalRecordIsAddedAtTheEnd :
    (List.replicate 15 testRecord).length + 1 = 16 ∧ (List.replicate 31 testRecord).length < 32
      ∧ (List.replicate 32 testRecord).length = 32
      ∧ softResetReady (modLnk (fun n => { n with reset := .draining }) State.reset) = true
      ∧ State.reset.phase = .running ∧ (powerOn State.reset).phase = .loading := by decide +kernel

/-- A dead bus without a reference; a valid period of the first bound, entering a ring of two. -/
theorem witness_EarlyCrossingsOfARunFormNoValue :
    (State.reset.phase = .running ∧ State.reset.fmon.reference = none ∧ State.reset.fmon.bus = .dead)
      ∧ (let s := { liveAuto with
        fmon := { liveAuto.fmon with reference := some 100, periodRing := [200000, 200000] }
        time := { liveAuto.time with capture := 166767 } }
         s.phase = .running ∧ s.fmon.reference = some 100
          ∧ 166667 = correctedPeriod (s.time.capture - 100).toNat s.settings.sys.timeTrim
          ∧ classify s.settings.sys.fNom 166667 = .valid ∧ s.fmon.periodRing.length < 3) := by decide +kernel

/-- The longest short period at 50 Hz; a soft reset and a load that can happen. -/
theorem witness_ShortCrossingIsCountedOnly :
    (let s := { liveAuto with
        fmon := { liveAuto.fmon with reference := some 0, periodRing := [] }
        time := { liveAuto.time with capture := 166666 } }
     s.phase = .running ∧ s.fmon.reference = some 0
      ∧ classify s.settings.sys.fNom (correctedPeriod (s.time.capture - 0).toNat s.settings.sys.timeTrim) = .short)
      ∧ softResetReady (modLnk (fun n => { n with reset := .draining }) State.reset) = true
      ∧ (powerOn State.reset).phase = .loading := by decide +kernel

/-- The longest valid period, entering a ring of three on a settling bus and a full ring on a live one. -/
theorem witness_ValueCrossingFormsAFrequencyValue :
    (let s := modFmon (fun m => { m with bus := .settling, periodRing := [200000, 200000, 200000] })
        { liveAuto with time := { liveAuto.time with capture := 250000 } }
     s.phase = .running ∧ s.fmon.reference = some 0 ∧ 250000 = correctedPeriod (s.time.capture - 0).toNat s.settings.sys.timeTrim
      ∧ classify s.settings.sys.fNom 250000 = .valid ∧ 3 ≤ s.fmon.periodRing.length ∧ s.fmon.periodRing.length ≤ 8
      ∧ s.fmon.freqRing.length ≤ 5 ∧ s.fmon.bus ≠ .live)
      ∧ (let s := modFmon (fun m =>
            { m with periodRing := List.replicate 8 200000, freqRing := List.replicate 5 50000 })
            { liveAuto with time := { liveAuto.time with capture := 250000 } }
         s.phase = .running ∧ s.fmon.reference = some 0 ∧ 3 ≤ s.fmon.periodRing.length ∧ s.fmon.periodRing.length ≤ 8
          ∧ s.fmon.freqRing.length ≤ 5 ∧ s.fmon.bus = .live) := by decide +kernel

/-- The shortest long period, on a live and on a settling bus. -/
theorem witness_LongCrossingBreaksTheRun :
    (let s := { liveAuto with
        fmon := { liveAuto.fmon with reference := some 0, periodRing := [] }
        time := { liveAuto.time with capture := 250001 } }
     s.phase = .running ∧ s.fmon.reference = some 0 ∧ 250001 = correctedPeriod (s.time.capture - 0).toNat s.settings.sys.timeTrim
      ∧ classify s.settings.sys.fNom 250001 = .long ∧ s.fmon.bus = .live
      ∧ (modFmon (fun m => { m with bus := .settling }) s).fmon.bus ≠ .live) := by decide +kernel

/-- A dead and a live bus. -/
theorem witness_DeadBusTimerExpiryEntersDead :
    State.reset.phase = .running ∧ State.reset.fmon.bus = .dead ∧ liveAuto.phase = .running ∧ liveAuto.fmon.bus ≠ .dead := by decide +kernel

/-- Four periods at a bound of the window. -/
theorem witness_FrequencyValuesLieInTheWindow :
    4 ≤ [166667, 166667, 250000, 250000].length
      ∧ ∀ p ∈ [166667, 166667, 250000, 250000], classify .hz50 p = .valid := by decide +kernel

/-- An input of each consumer with a change, and one of every event mode with its view open or closed. -/
theorem witness_DebouncedChangeUpdatesItsInput :
    State.reset.phase = .running ∧ (∀ i : Fin 32, State.reset.inputs[i].debounced ≠ true)
      ∧ (15 < 16 ∧ 16 ≤ 27 ∧ 27 < 28 ∧ 28 < 29)
      ∧ (∀ m ∈ [EventMode.none, .level, .rising, .falling, .any], ∀ latch : Bool,
          (let s := { State.reset with settings := { inputs := Vector.replicate 32 { mode := m, latch := latch } } }
           s.settings.inputs[31].mode = m ∧ s.settings.inputs[31].latch = latch ∧ s.inputs[31].debounced ≠ true))
      ∧ (let s := modInput 31 (fun c => { c with view := true }) State.reset
         s.inputs[31].view ≠ s.inputs[31].lastRead ∧ s.inputs[31].debounced ≠ true) := by decide +kernel

/-- A READ_INPUTS that is accepted. -/
theorem witness_ReadInputsReturnsAndRearmsTheViews :
    Accepts .either (testFrame []) ((testFrame []).len == 0) State.reset := by
  simp only [accepts_iff]
  decide +kernel

/-- A MEASURE of one point of each kind, the same point named twice, and one with a code of no point; points that reach
the timeout at the next tick, and none. -/
theorem witness_PointsAreWrittenAndBecomeStale :
    (let f := testFrame [4, 15, 1, 0, 35, 255, 255, 53, 1, 0, 15, 2, 0]
     Accepts .either f (measureLength f) State.reset
      ∧ measureItems f = some [(.feeder 15, 1), (.set 3, -1), (.channel 5, 1), (.feeder 15, 2)]
      ∧ [(PointRef.feeder 15, (1 : Int)), (.set 3, -1), (.channel 5, 1), (.feeder 15, 2)]
          = [(.feeder 15, 1), (.set 3, -1), (.channel 5, 1)] ++ (.feeder 15, 2) :: []
      ∧ (∀ x ∈ [(PointRef.feeder 15, (1 : Int)), (.set 3, -1), (.channel 5, 1), (.feeder 15, 2)],
          x.1 ≠ .feeder 0 ∧ x.1 ≠ .set 0 ∧ x.1 ≠ .channel 0))
      ∧ (let f := testFrame [2, 15, 1, 0, 16, 0, 0]
         Accepts .either f (measureLength f) State.reset ∧ ∃ k < f.byte 0, PointRef.ofCode (f.byte (1 + 3 * k)) = none)
      ∧ (let s := { State.reset with meas := { sets := Vector.replicate 4 { age := 2000, stale := false } } }
         s.phase = .running ∧ (goingStale s).isEmpty = false ∧ (goingStale State.reset).isEmpty = true) := by
  simp only [accepts_iff]
  decide +kernel

/-- Frames and states of every case: taken, taken as in position, BAD_INDEX, STALE, WRONG_STATE, already there; a listed
feeder. -/
theorem witness_OperateFeederFollowsItsChecks :
    (let f := testFrame [15, 1, 255]
     let g := testFrame [15, 0, 0]
     (∀ x ∈ [FeederState.opened, .failed .close, .failed .trip, .closed],
        Accepts .operate f (f.len == 3) (withFeeder 15 x State.reset) ∧ (withFeeder 15 x State.reset).feeders[15].state = x)
      ∧ (∀ x ∈ [FeederState.closed, .failed .trip, .failed .close, .opened, .opening, .closing, .outOfService],
          Accepts .operate g (g.len == 3) (withFeeder 15 x State.reset)
            ∧ (withFeeder 15 x State.reset).feeders[15].state = x)
      ∧ f.byte 0 = 15 ∧ f.byte 1 = bit true ∧ f.byte 2 = 255 ∧ g.byte 1 = bit false
      ∧ g.byte 2 = State.reset.feeders[15].generation.toNat
      ∧ listed State.reset 15 = false
      ∧ (let s := withStack [listing 15] (withFeeder 15 (.failed .trip) State.reset)
         Accepts .operate f (f.len == 3) s ∧ listed s 15 = true))
      ∧ (let b := testFrame [16, 1, 0]
         let d := testFrame [0, 2, 0]
         let e := testFrame [0, 1, 254]
         Accepts .operate b (b.len == 3) State.reset ∧ 16 ≤ b.byte 0
          ∧ Accepts .operate d (d.len == 3) State.reset ∧ 2 ≤ d.byte 1
          ∧ Accepts .operate e (e.len == 3) State.reset ∧ e.byte 2 ≠ 255
          ∧ e.byte 2 ≠ State.reset.feeders[0].generation.toNat) := by
  simp only [accepts_iff]
  decide +kernel

/-- A feeder that opens and one that closes. -/
theorem witness_OperateTimerExpiryFailsTheFeeder :
    (withFeeder 0 .opening State.reset).phase = .running ∧ (withFeeder 0 .opening State.reset).feeders[0].state = .opening
      ∧ (withFeeder 15 .closing State.reset).feeders[15].state = .closing := by decide +kernel

/-- A status that rises or falls while the feeder is in each state that does not already follow it, listed and not. -/
theorem witness_FeederStateFollowsItsStatus :
    (∀ x ∈ [FeederState.opening, .closing, .opened, .failed .trip, .failed .close, .outOfService],
      (let s := withFeeder 15 x State.reset
       s.phase = .running ∧ s.inputs[15].debounced ≠ true ∧ s.feeders[15].state = x ∧ x ≠ stateOfStatus true
        ∧ listed s 15 = false ∧ listed (withStack [listing 15] s) 15 = true
        ∧ effectiveStyle s.settings 15 = .pulse
        ∧ effectiveStyle { s.settings with sys := { s.settings.sys with styleHigh := .maintained } } 15 = .maintained))
      ∧ ∀ x ∈ [FeederState.opening, .closing, .closed, .failed .trip, .failed .close, .outOfService],
        (let s := withInput 15 true (withFeeder 15 x State.reset)
         s.phase = .running ∧ s.inputs[15].debounced ≠ false ∧ s.feeders[15].state = x ∧ x ≠ stateOfStatus false) := by
  decide +kernel

/-- A running pulse, a running hold-off timer. -/
theorem witness_PulseHoldoffAndCreditExpire :
    (lineCommand 15 true State.reset).feeders[15].pulse.isRunning = true
      ∧ (holdoffStarts State.reset).shd.holdoff.isRunning = true ∧ (holdoffStarts State.reset).phase = .running := by decide +kernel

/-- An armed and a disarmed stage; stages with and without an eligible feeder in AUTO; MONITOR; a bus notice of each
kind that the shed unit answers. -/
theorem witness_StagesCountFireAndTrip :
    State.reset.shd.armed[3] = true ∧ (shdDead (modShd (fun h => { h with armed := h.armed.set 3 false }) State.reset)).shd.armed[3] = false
      ∧ (let s := { withFeeder 15 .closed liveAuto with
            settings := { feeders := Vector.replicate 16 { inService := true, shedRank := 15, ufStage := 4 } } }
         let eligible (i : Fin 4) := (List.finRange 16).filter fun k =>
          decide (s.feeders[k].state = .closed ∧ s.settings.feeders[k].shedRank ≠ 0
            ∧ s.settings.feeders[k].autoInhibit = false ∧ s.settings.feeders[k].ufStage = i.val + 1)
         s.lnk.mode = .auto ∧ eligible 3 = [15] ∧ eligible 2 = [])
      ∧ State.reset.lnk.mode = .monitor
      ∧ (let v : PresentValue := { f := 48600, r := none, dP := none, s4 := 823045, eOn := none, seq := 1, time := 0 }
         let a : BusNotice := { bus := .live, prev := .settling, afterDead := true, value := some v }
         let b : BusNotice := { bus := .dead, prev := .live, brk := true }
         let c : BusNotice := { bus := .settling, prev := .live, brk := true }
         let d : BusNotice := { bus := .settling, prev := .dead }
         a.value = some v ∧ a.brk = false ∧ a.bus = .live ∧ a.prev ≠ .live ∧ a.afterDead = true
          ∧ b.value = none ∧ b.brk = true ∧ b.bus = .dead ∧ b.prev ≠ .dead ∧ c.value = none ∧ c.brk = true ∧ c.bus ≠ .live
          ∧ d.value = none ∧ d.brk = false ∧ d.bus = .settling) := by decide +kernel

/-- A value that qualifies: not yet often enough, covered, in MONITOR and in AUTO with a selection and with none; a
failed target trip, with its feeder listed on a live bus and not. -/
theorem witness_RocofFunctionShedsTheSelection :
    (let s := { withFeeder 15 .closed liveAuto with
        settings := { feeders := Vector.replicate 16 { inService := true, shedRank := 15, blockKw := 60 }, stages := { qr := 1 } } }
     let v : PresentValue := { f := 49875, r := some (-1558), dP := some (-48), s4 := 802000, eOn := some 8000, seq := 9, time := 0 }
     v.r = some (-1558) ∧ v.dP = some (-48) ∧ (-1558 : Int) ≤ -(s.settings.stages.rocofTrip : Int)
      ∧ min s.settings.stages.qr (s.shd.qual + 1) = s.settings.stages.qr ∧ s.shd.holdoff.isRunning = false
      ∧ 0 < 48 - fastReserve s - creditSum s ∧ s.lnk.mode = .auto ∧ selection s 48 = [15]
      ∧ selection (withFeeder 15 .opened s) 48 = []
      ∧ 0 < 48 - fastReserve (withFeeder 15 .opened s) - creditSum (withFeeder 15 .opened s)
      ∧ (0 : Int) - fastReserve s - creditSum s ≤ 0
      ∧ (modLnk (fun n => { n with mode := .monitor }) s).lnk.mode = .monitor
      ∧ min 2 (s.shd.qual + 1) ≠ 2 ∧ (holdoffStarts s).shd.holdoff.isRunning = true
      ∧ (let t : TargetItem := ⟨5, 40⟩
         let w := modShd (fun h => { h with targets := [⟨2, 9⟩, t] }) (withStack [testEntry] s)
         w.shd.targets.find? (fun t => decide (t.feeder = 5)) = some t ∧ w.fmon.bus = .live
          ∧ w.rst.entries = [] ++ testEntry :: [] ∧ testEntry.lists 5 = true
          ∧ ((rocofCandidates w).map (effectiveLoad w)).sum = 60
          ∧ rocofCandidates (withFeeder 15 .opened w) = [] ∧ listed (withStack [] w) 5 = false)) := by decide +kernel

/-- A SHED that names a feeder twice, with it CLOSED and with none CLOSED; one that names no feeder of the 16. -/
theorem witness_ShedTripsTheNamedFeeders :
    (let f := testFrame [3, 15, 0, 15]
     Accepts .operate f (shedLength f) State.reset ∧ shedFeeders f = some [15, 0]
      ∧ Accepts .operate f (shedLength f) (withFeeder 15 .closed State.reset)
      ∧ ([15, 0].filter fun k : Fin 16 => decide ((withFeeder 15 .closed State.reset).feeders[k].state = .closed)) ≠ []
      ∧ ([15, 0].filter fun k : Fin 16 => decide (State.reset.feeders[k].state = .closed)) = [])
      ∧ (let f := testFrame [2, 15, 16]
         Accepts .operate f (shedLength f) State.reset ∧ ∃ k < f.byte 0, 16 ≤ f.byte (1 + k)) := by
  simp only [accepts_iff]
  decide +kernel

/-- A stack of seven entries, and one of eight. -/
theorem witness_PushJoinsOrMergesAtTheTop :
    (withStack (List.replicate 7 testEntry) State.reset).rst.entries.length < 8
      ∧ (withStack (List.replicate 8 testEntry) State.reset).rst.entries = List.replicate 7 testEntry ++ [testEntry]
      ∧ (List.replicate 7 testEntry).length = 7 := by decide +kernel

/-- A due feeder of each fate, as the automatic and as the requested target, above a header. -/
theorem witness_RestorerClosesTheDueFeeder :
    (let x : StackItem := { feeder := 5, generation := 0, snapshot := 40 }
     let asked : Entry := { testEntry with requested := true }
     let at' (e : Entry) (st : FeederState) := modRst (fun r => { r with delay := .expired })
       (withStack [testHeader, e] (withFeeder 5 st liveAuto))
     let s := at' testEntry .opened
     (∀ e ∈ [testEntry, asked], ∀ st ∈ [FeederState.opened, .opening, .failed .trip, .failed .close],
        (let s := at' e st
         ListingLaw s ∧ s.rst.interval = .idle ∧ s.rst.entries = [testHeader] ++ e :: [] ∧ e.items = [] ++ [x]
          ∧ (∀ d ∈ s.rst.entries, d.blocked = false) ∧ s.feeders[x.feeder].state = st
          ∧ s.feeders[x.feeder].generation = x.generation ∧ s.settings.feeders[x.feeder].autoInhibit = false))
      ∧ s.lnk.mode = .auto ∧ s.rst.delay = .expired ∧ testEntry.isHeader = false ∧ testEntry.hold = false
      ∧ (∀ d ∈ s.rst.entries, d.requested = false)
      ∧ (modFeeder 5 (fun c => { c with generation := 1 }) s).feeders[x.feeder].generation ≠ x.generation
      ∧ ({ s.settings with feeders := Vector.replicate 16 { autoInhibit := true } } : Settings).feeders[x.feeder].autoInhibit = true
      ∧ s.fmon.bus = .live ∧ presentInBand s = true ∧ stageCountStands s = false
      ∧ spinningReserve s < x.snapshot + s.settings.sys.srMin
      ∧ (let e := { withSet 0 .online (withSet 1 .online s) with
            settings := { sets := Vector.replicate 4 { inService := true, ratedKw := 95 } }
            meas := { sets := Vector.replicate 4 { value := 0, stale := false } } }
         x.snapshot + e.settings.sys.srMin ≤ spinningReserve e ∧ e.feeders[x.feeder].state = .opened)
      ∧ (modFmon (fun m => { m with bus := .settling }) s).fmon.bus ≠ .live ∧ presentInBand { s with fmon := {} } = false
      ∧ stageCountStands (modShd (fun h => { h with counts := h.counts.set 0 1 }) s) = true
      ∧ asked.requested = true ∧ (∀ d ∈ [testHeader], d.requested = false)) := by
  simp only [listingLaw_iff]
  decide +kernel

/-- Running timers; a blocked episode with a due item; an entry into DEAD with a header alone and with an entry. -/
theorem witness_RestoreTimersExpire :
    (let s := modRst (fun r => { r with delay := .running 0, interval := .running 0 }) State.reset
     s.phase = .running ∧ s.rst.delay.isRunning = true ∧ s.rst.interval.isRunning = true)
      ∧ (let s := modRst (fun r => { r with delay := .expired, startDelay := .running 0 })
            (withStack [{ testEntry with blocked := true }] liveAuto)
         s.phase = .running ∧ s.rst.startDelay.isRunning = true ∧ episodeStands s = true
          ∧ dueItem s = some { feeder := 5, generation := 0, snapshot := 40 })
      ∧ (let n : BusNotice := { bus := .dead, prev := .live, brk := true }
         let m : BusNotice := { bus := .settling, prev := .dead }
         n.reset = false ∧ n.bus = .dead ∧ n.prev ≠ .dead ∧ m.reset = false ∧ m.bus ≠ .dead
          ∧ (∀ e ∈ (withStack [testHeader] liveAuto).rst.entries, e.isHeader = true)
          ∧ (∃ e ∈ (withStack [testHeader, testEntry] liveAuto).rst.entries, e.isHeader = false)) := by decide +kernel

/-- The entry at position 7 of a full stack, held and not held, while a requested target stands and off a live bus; each
refusal of the entry checks. -/
theorem witness_EntryRequestsActOnTheNamedEntry :
    (let f := testFrame [7, 3]
     let s := withStack (List.replicate 8 testEntry) liveAuto
     let t := withStack (List.replicate 7 testEntry ++ [{ testEntry with hold := true }]) liveAuto
     let q := withStack ({ testEntry with requested := true } :: List.replicate 7 testEntry) liveAuto
     let d := modFmon (fun m => { m with bus := .settling }) s
     (∀ x ∈ [s, t, q, d], Accepts .operate f (f.len == 2) x) ∧ f.byte 0 = 7
      ∧ (∀ x ∈ [s, q, d], x.rst.entries[7]? = some testEntry)
      ∧ t.rst.entries[7]? = some { testEntry with hold := true }
      ∧ f.byte 1 = testEntry.tag.toNat ∧ testEntry.isHeader = false ∧ testEntry.hold = false
      ∧ (∀ d ∈ s.rst.entries, d.requested = false) ∧ (∀ d ∈ t.rst.entries, d.requested = false)
      ∧ (∃ d ∈ q.rst.entries, d.requested = true) ∧ s.fmon.bus = .live ∧ d.fmon.bus ≠ .live
      ∧ 7 + 1 = s.rst.entries.length ∧ testEntry.requested = false ∧ 0 + 1 ≠ q.rst.entries.length
      ∧ Accepts .operate (testFrame [0, 3]) ((testFrame [0, 3]).len == 2) q ∧ q.rst.entries[0]?.all (·.requested)
      ∧ 1 + 1 ≠ q.rst.entries.length ∧ q.rst.entries[1]? = some testEntry
      ∧ (let u := withStack [testHeader] liveAuto
         (∀ p ∈ [[8, 3], [0, 3], [7, 3], [1, 3], [0, 1]], Accepts .operate (testFrame p) ((testFrame p).len == 2) u
            ∧ Accepts .operate (testFrame p) ((testFrame p).len == 2) liveAuto)
          ∧ 7 < (testFrame [8, 3]).byte 0 ∧ liveAuto.rst.entries = [] ∧ u.rst.entries.length ≤ (testFrame [1, 3]).byte 0
          ∧ u.rst.entries[(testFrame [0, 3]).byte 0]? = some testHeader
          ∧ (testFrame [0, 3]).byte 1 ≠ testHeader.tag.toNat ∧ (testFrame [0, 1]).byte 1 = testHeader.tag.toNat
          ∧ testHeader.isHeader = true)) := by
  simp only [accepts_iff]
  decide +kernel

/-- A set in STANDBY with the permit free and held, with RUNNING and without, run-up 0 and not; one not in STANDBY; a
set that is none. -/
theorem witness_StartGensetStartsAStandbySet :
    (let f := testFrame [3]
     let s := withSet 3 .standby State.reset
     let t := modGen (fun n => { n with permit := some 0 }) (withSet 0 .cranking s)
     (Accepts .operate (testFrame [4]) ((testFrame [4]).len == 1) s ∧ 4 ≤ (testFrame [4]).byte 0)
      ∧ (∀ x ∈ [s, t, State.reset], Accepts .operate f (f.len == 1) x ∧ CrankLaw x)
      ∧ f.byte 0 = 3
      ∧ (s.gen.sets[3].state = .standby ∧ s.gen.permit = none ∧ t.gen.sets[3].state = .standby ∧ t.gen.permit ≠ none
      ∧ State.reset.gen.sets[3].state ≠ .standby ∧ setRunning s 3 = false ∧ setRunning (withInput 23 true s) 3 = true
      ∧ s.settings.sets[3].runupMs ≠ 0)) := by
  simp only [accepts_iff, crankLaw_iff]
  decide +kernel

/-- A set in each state; a set that is none. -/
theorem witness_StopGensetStopsBySetState :
    (Accepts .operate (testFrame [4]) ((testFrame [4]).len == 1) State.reset ∧ 4 ≤ (testFrame [4]).byte 0)
    ∧ ∀ x ∈ [SetState.online, .waitCrank, .cranking, .crankRest, .runUp, .syncing, .unloading, .cooldown, .standby],
      (let f := testFrame [3]
       let s := withSet 3 x State.reset
       Accepts .operate f (f.len == 1) s ∧ f.byte 0 = 3 ∧ s.gen.sets[3].state = x
        ∧ x.stoppable = decide (x ≠ .standby)) := by
  simp only [accepts_iff]
  decide +kernel

/-- A locked-out set with its breaker closed and open; one that is not locked out; a set that is none. -/
theorem witness_ResetLockoutReleasesTheSet :
    (let f := testFrame [3]
     let s := withSet 3 .lockedOut State.reset
     (Accepts .operate (testFrame [4]) ((testFrame [4]).len == 1) s ∧ 4 ≤ (testFrame [4]).byte 0)
      ∧ Accepts .operate f (f.len == 1) s ∧ Accepts .operate f (f.len == 1) (withInput 27 true s)
      ∧ Accepts .operate f (f.len == 1) State.reset ∧ f.byte 0 = 3 ∧ s.gen.sets[3].state = .lockedOut
      ∧ State.reset.gen.sets[3].state ≠ .lockedOut ∧ setBreaker s 3 = false ∧ setBreaker (withInput 27 true s) 3 = true) := by
  simp only [accepts_iff]
  decide +kernel

/-- A cranking set with another waiting, at its last attempt and before; a resting set with the permit free and held. -/
theorem witness_CrankTimersExpire :
    (let s := modGen (fun n => { n with permit := some 0, queue := [2] })
        (withSet 2 .waitCrank (withSet 0 .cranking State.reset))
     let t := modSet 0 (fun c => { c with attempts := 3 }) s
     let r := withSet 1 .crankRest s
     let q := withSet 1 .crankRest State.reset
     (s.phase = .running ∧ s.gen.sets[0].state = .cranking ∧ s.gen.sets[0].attempts < s.settings.sets[0].crankAttempts
      ∧ t.settings.sets[0].crankAttempts ≤ t.gen.sets[0].attempts ∧ s.gen.queue.head? = some 2
      ∧ r.gen.sets[1].state = .crankRest ∧ r.gen.permit ≠ none ∧ q.gen.sets[1].state = .crankRest ∧ q.gen.permit = none)
      ∧ ∀ x ∈ [s, t, r, q], CrankLaw x) := by
  simp only [crankLaw_iff]
  decide +kernel

/-- A set in each state whose timer can expire. -/
theorem witness_SetTimersExpire :
    ∀ x ∈ [SetState.runUp, .syncing, .unloading, .cooldown],
      (withSet 3 x State.reset).phase = .running ∧ (withSet 3 x State.reset).gen.sets[3].state = x := by decide +kernel

/-- A set in every state with its three inputs false, and with them true. -/
theorem witness_SetInputsMoveTheSet :
    ∀ x ∈ [SetState.unavailable, .standby, .waitCrank, .cranking, .crankRest, .runUp, .syncing, .online, .unloading,
        .cooldown, .lockedOut],
      (let s := withSet 3 x { State.reset with settings := { sets := Vector.replicate 4 { inService := true } } }
       let t := withInput 19 true (withInput 23 true (withInput 27 true s))
       s.phase = .running ∧ s.gen.sets[3].state = x ∧ t.gen.sets[3].state = x ∧ s.settings.sets[3].inService = true
        ∧ setReady s 3 ≠ true ∧ setRunning s 3 ≠ true ∧ setBreaker s 3 ≠ true
        ∧ setReady t 3 ≠ false ∧ setRunning t 3 ≠ false ∧ setBreaker t 3 ≠ false) := by decide +kernel

/-- Running timers; a lag set; a demand that finds a lead; a sequencer that is active; the conditions of both timers met
and missed; an automatic start at a change to MONITOR. -/
theorem witness_DispatchTimersExpire :
    (let s := modGen (fun n => { n with lowReserve := .running 0, stopTimer := .running 0 })
        { withSet 3 .standby (withSet 2 .online liveAuto) with
          settings := { sets := Vector.replicate 4 { inService := true } } }
     s.phase = .running ∧ s.gen.lowReserve.isRunning = true ∧ s.gen.stopTimer.isRunning = true ∧ lagSet s = some 2
      ∧ dispatchActive s = true ∧ autoStart s = none ∧ dispatchLead s = some 3 ∧ blkActive (withBlk .held s) = true)
      ∧ (let s := { withSet 1 .online (withSet 2 .online liveAuto) with
            settings := { sets := Vector.replicate 4 { inService := true, ratedKw := 500 } }
            meas := { sets := Vector.replicate 4 { value := 0, stale := false } } }
         s.lnk.mode = .auto ∧ blkActive s = false ∧ s.fmon.bus = .live ∧ s.rst.entries = []
          ∧ ((List.finRange 4).filter fun g =>
              decide (s.gen.sets[g].state = .online) && s.settings.sets[g].inService).length = 2
          ∧ (∀ g : Fin 4, s.gen.sets[g].state.starting = false ∧ s.gen.sets[g].state ≠ .unloading)
          ∧ lagSet s = some 2
          ∧ (s.settings.sys.srMin + s.settings.sys.stopMargin : Int) ≤ spinningReserve s - s.settings.sets[2].ratedKw
          ∧ spinningReserve liveAuto < liveAuto.settings.sys.srMin)
      ∧ (let s := modGen (fun n => { n with permit := some 2 })
            (modSet 2 (fun c => { c with state := .cranking, origin := .auto }) State.reset)
         CrankLaw s ∧ s.gen.sets[2].origin = .auto ∧ s.gen.sets[2].state.starting = true
          ∧ ∀ g : Fin 4, State.reset.gen.sets[g].origin = .auto → State.reset.gen.sets[g].state.starting = false) := by
  simp only [crankLaw_iff]
  decide +kernel

/-- Channels that ramp to their target, that ramp below it, that stand; MONITOR. -/
theorem witness_RampTickRaisesTheLimits :
    (let s := { liveAuto with
        settings := { channels := Vector.replicate 6 { inService := true, rampUp := 25, hostCeiling := 90 } }
        cur := { channels := Vector.replicate 6 { latch := false, limit := 89 }, zeroHold := false } }
     let r := modChannel 5 (fun c => { c with limit := 88 }) s
     s.phase = .running ∧ s.lnk.mode = .auto ∧ s.settings.channels[5].inService = true
      ∧ s.cur.channels[5].limit < pvTarget s 5 ∧ pvTarget s 5 < s.cur.channels[5].limit + ((0 + 25) / 10 : Nat)
      ∧ r.cur.channels[5].limit + ((0 + 25) / 10 : Nat) ≤ pvTarget r 5
      ∧ pvTarget s 5 ≤ (modChannel 5 (fun c => { c with limit := 90 }) s).cur.channels[5].limit
      ∧ State.reset.lnk.mode = .monitor) := by decide +kernel

/-- A duty of 999 and one of 1,000; a limit at the rating. -/
theorem witness_PwmPeriodsFollowTheDuty :
    State.reset.phase = .running ∧ (modChannel 5 (fun c => { c with pwm := { c.pwm with present := 999 } }) State.reset).cur.channels[5].pwm.present < 1000
      ∧ 1000 ≤ (modChannel 5 (fun c => { c with pwm := { c.pwm with present := 1000 } }) State.reset).cur.channels[5].pwm.present
      ∧ 0 < 500 ∧ 500 ≤ 500 := by decide +kernel

/-- Channels in and out of service, in both modes, under the hold and without, targets at and above the limit; a droop
band; values at the bounds of a droop episode; entries into DEAD and LIVE, with limits above 0; a stale output. -/
theorem witness_ConstraintsGiveTheTargetsAndLimits :
    (let s := { liveAuto with
        settings := { channels := Vector.replicate 6 { inService := true, hostCeiling := 90 } }
        cur := { channels := Vector.replicate 6 { latch := false, limit := 89 }, zeroHold := false } }
     s.settings.channels[5].inService = true ∧ s.lnk.mode = .auto ∧ s.cur.zeroHold = false
      ∧ s.cur.channels[5].limit < pvTarget s 5
      ∧ pvTarget s 5 ≤ (modChannel 5 (fun c => { c with limit := 90 }) s).cur.channels[5].limit
      ∧ State.reset.cur.zeroHold = true ∧ State.reset.lnk.mode = .monitor
      ∧ State.reset.settings.channels[5].inService = false ∧ State.reset.fmon.bus = .dead
      ∧ 0 < s.settings.sys.droopBand ∧ (0 : Int) ≤ 0
      ∧ 50200 ≤ fNom s + s.settings.sys.droopOffset
      ∧ fNom s + s.settings.sys.droopOffset + s.settings.sys.droopBand ≤ 52200 ∧ noneOnline s = true
      ∧ (modChannel 5 (fun c => { c with share := some 4 }) s).cur.channels[5].share ≠ s.cur.channels[5].share)
      ∧ (let v (f : Nat) : PresentValue := { f := f, r := none, dP := none, s4 := 800000, eOn := none, seq := 1, time := 0 }
         let n (f : Nat) : BusNotice := { bus := .live, prev := .live, value := some (v f) }
         let d : BusNotice := { bus := .dead, prev := .live, brk := true }
         let l : BusNotice := { bus := .live, prev := .settling, value := some (v 50000) }
         let onset := fNom liveAuto + liveAuto.settings.sys.droopOffset
         let active := modCur (fun c => { c with droopActive := true }) liveAuto
         let free := modCur (fun c => { c with zeroHold := false }) (modChannel 5 (fun c => { c with limit := 40 }) liveAuto)
         free.lnk.mode = .auto ∧ free.cur.zeroHold = false ∧ 0 ≤ free.cur.channels[5].limit
          ∧ (modCur (fun c => { c with seqActive := true }) free).cur.seqActive ≠ free.cur.seqActive
          ∧ (deliver (.bus .cur (n (onset + 1))) free).cur.droopActive ≠ free.cur.droopActive
          ∧ (n 50000).value = some (v 50000) ∧ (n 50000).bus = .live ∧ (n 50000).prev = .live
          ∧ liveAuto.cur.droopActive = false ∧ active.cur.droopActive = true ∧ (v onset).f ≤ onset ∧ onset < (v (onset + 1)).f
          ∧ (v (onset - 50)).f + 50 ≤ onset ∧ onset < (v (onset - 49)).f + 50
          ∧ d.value = none ∧ d.bus = .dead ∧ d.prev ≠ .dead ∧ l.bus = .live ∧ l.prev ≠ .live)
      ∧ (let s := withSet 3 .online State.reset
         s.gen.sets[3].state = .online ∧ s.meas.sets[3].stale = true
          ∧ ¬ ∃ g : Fin 4, State.reset.gen.sets[g].state = .online ∧ State.reset.meas.sets[g].stale = true) := by
  decide +kernel

/-- A ceiling above the rating, one at it, and a channel that is none. -/
theorem witness_SetPvCeilingWritesTheHostCeiling :
    (let f := testFrame [5, 101, 0]
     let g := testFrame [6, 100, 0]
     Accepts .operate f (f.len == 3) State.reset ∧ f.byte 0 = 5 ∧ State.reset.settings.channels[5].ratedKw < f.field 1 2
      ∧ Accepts .operate g (g.len == 3) State.reset ∧ 6 ≤ g.byte 0 ∧ ¬ State.reset.settings.channels[5].ratedKw < g.field 1 2) := by
  simp only [accepts_iff]
  decide +kernel

/-- CONFIRMING with the bus dead and settling, in AUTO with auto_blackstart and in MONITOR; IDLE and WAITING; an expired
confirmation timer; bus and set notices of each kind. -/
theorem witness_ConfirmationTimerExpires :
    (let s := State.reset
     let a := modLnk (fun n => { n with mode := .auto }) { s with settings := { sys := { autoBlackstart := true } } }
     s.phase = .running ∧ s.blk.state = .confirming ∧ s.blk.confirm.isRunning = true ∧ s.fmon.bus = .dead
      ∧ s.lnk.mode = .monitor ∧ a.lnk.mode = .auto ∧ a.settings.sys.autoBlackstart = true
      ∧ (modFmon (fun m => { m with bus := .settling }) s).fmon.bus ≠ .dead)
      ∧ (let n : BusNotice := { bus := .dead, prev := .live, brk := true }
         let l : BusNotice := { bus := .live, prev := .settling }
         let idle := withBlk .idle State.reset
         n.reset = false ∧ n.bus = .dead ∧ n.prev ≠ .dead ∧ l.bus = .live ∧ l.prev ≠ .live ∧ idle.blk.state = .idle
          ∧ idle.fmon.bus = .dead ∧ noneOnline idle = true ∧ noneOnline (withSet 3 .online idle) = false
          ∧ (withBlk .waiting State.reset).blk.state = .waiting
          ∧ ({ State.reset.blk with confirm := .expired } : Blk).confirm = .expired ∧ SetState.online ≠ .unloading) := by
  decide +kernel

/-- A part without and with a lead, feeders of each kind, and BEGIN taken and refused; a clearing list with a feeder that
moves, one that ended closed and one that ended open; a run held as the bus comes back; a run past its last step, and a
step of each kind that begins. -/
theorem witness_RunBeginsWithClearingAndLead :
    (let s := withFeeder 0 .closed (withFeeder 1 (.failed .trip) (withFeeder 2 .opening State.reset))
     let t := { withSet 2 .standby s with
        settings := { directory := Vector.replicate 4 (some 3), plans := Vector.replicate 4 { steps := [⟨.wait, 0, 5, 1000, false⟩] } } }
     let f := testFrame [0]
     StackShape s ∧ blkActive s = false ∧ s.blk.state ≠ .failed
      ∧ firstLead s = none ∧ firstLead t = some 2 ∧ leadPlan t 2 = some 3
      ∧ [s.feeders[0].state, s.feeders[1].state, s.feeders[2].state] = [.closed, .failed .trip, .opening]
      ∧ (∀ x ∈ [s, liveAuto], Accepts .operate f (f.len == 1) x) ∧ f.byte 0 = 0 ∧ s.blk.state = .confirming
      ∧ s.fmon.bus = .dead ∧ liveAuto.fmon.bus ≠ .dead)
      ∧ (let s := modRun (fun r => { r with clearing := [15] }) (withBlk .held State.reset)
         blkActive s = true ∧ 15 ∈ s.blk.run.clearing ∧ runningStep s = none ∧ s.blk.state = .held
          ∧ (withBlk .running liveAuto).blk.state = .running ∧ (withBlk .running liveAuto).fmon.bus = .live
          ∧ ∀ x ∈ [FeederState.opening, .closed, .opened], (withFeeder 15 x s).feeders[15].state = x)
      ∧ (∀ k ∈ [StepKind.startLead, .closeFeeder, .wait, .waitStable, .startNext, .releasePv, .stop],
          (let s := inStep ⟨k, 5, 0, 2000, true⟩ false State.reset
           s.blk.state = .running ∧ s.blk.run.begun = false ∧ currentStep s = some ⟨k, 5, 0, 2000, true⟩
            ∧ currentStep (modRun (fun r => { r with step := 2 }) s) = none ∧ s.blk.run.lead = some 0))
      ∧ (let s := { State.reset with settings := { channels := Vector.replicate 6 { inService := true } } }
         (∀ x ∈ [FeederState.closed, .opened, .failed .close, .failed .trip, .closing], (withFeeder 5 x s).feeders[5].state = x)
          ∧ (∀ x ∈ [SetState.online, .standby, .lockedOut], (withSet 0 x s).gen.sets[0].state = x)
          ∧ dispatchLead s = none
          ∧ dispatchLead { withSet 0 .standby s with settings := { sets := Vector.replicate 4 { inService := true } } } = some 0
          ∧ s.settings.channels[5].inService = true ∧ State.reset.settings.channels[5].inService = false) := by
  simp only [accepts_iff, stackShape_iff]
  decide +kernel

/-- A running step of each kind, with its set or feeder in each state that ends it, moves it on or leaves it; a notice of
each kind; an attempt at each condition of failure, and a retry with and without a lead. -/
theorem witness_StepTimersEndTheStepOrTheAttempt :
    (∀ skip : Bool,
      (let st : PlanStep := ⟨.waitStable, 0, 5, 1000, skip⟩
       let s := modRun (fun r => { r with stepTimer := .running 0, waitTimer := .running 0 }) (inStep st true State.reset)
       s.phase = .running ∧ s.blk.state = .running ∧ s.blk.run.begun = true ∧ currentStep s = some st ∧ st.skippable = skip
        ∧ s.blk.run.waitTimer.isRunning = true ∧ s.blk.run.stepTimer.isRunning = true))
      ∧ (∀ k ∈ [StepKind.startLead, .closeFeeder, .wait, .waitStable, .startNext],
          (let s := inStep ⟨k, 5, 7, 2000, true⟩ true State.reset
           s.blk.state = .running ∧ s.blk.run.begun = true ∧ currentStep s = some ⟨k, 5, 7, 2000, true⟩
            ∧ s.blk.run.lead = some 0 ∧ s.blk.run.nextSet = some 1 ∧ s.blk.run.clearing = []
            ∧ (∀ x ∈ [SetState.online, .syncing, .lockedOut, .standby, .unavailable, .cranking, .runUp],
                (withSet 0 x s).gen.sets[0].state = x ∧ (withSet 1 x s).gen.sets[1].state = x)
            ∧ (∀ x ∈ [FeederState.closed, .closing, .failed .close], (withFeeder 5 x s).feeders[5].state = x)))
      ∧ (let v (f : Nat) : PresentValue := { f := f, r := none, dP := none, s4 := 800000, eOn := none, seq := 1, time := 0 }
         let n (f : Nat) : BusNotice := { bus := .live, prev := .live, value := some (v f) }
         let m : BusNotice := { bus := .settling, prev := .live, brk := true }
         let d : BusNotice := { bus := .dead, prev := .settling, brk := true }
         (n 50000).reset = false ∧ (n 50000).value = some (v 50000) ∧ inBand State.reset 50000 = true
          ∧ inBand State.reset 48000 = false ∧ m.value = none ∧ m.bus = .settling ∧ d.bus = .dead ∧ d.prev ≠ .dead)
      ∧ (let st : PlanStep := ⟨.wait, 0, 5, 1000, false⟩
         let s := modRun (fun r => { r with attempt := 1, tried := [0] }) (inStep st true State.reset)
         let t := withSet 2 .standby s
         blkActive s = true ∧ s.fmon.bus = .dead ∧ s.settings.sys.maxAttempts ≤ 4 ∧ s.blk.run.attempt < s.settings.sys.maxAttempts
          ∧ firstLead s = none ∧ firstLead t = some 2 ∧ leadPlan t 2 = some 3 ∧ 2 ∉ t.blk.run.tried
          ∧ s.blk.run.holdManual = false ∧ liveAuto.fmon.bus ≠ .dead ∧ blkActive (withBlk .held liveAuto) = true
          ∧ (modRun (fun r => { r with holdManual := true }) t).blk.run.holdManual = true) := by decide +kernel

/-- Each code in each state it is taken and refused in; a stack with and without an entry above the header, for a run of
each state. -/
theorem witness_BlackstartCommandsActByState :
    (let s := withBlk .running State.reset
     let t := modRun (fun r => { r with holdManual := true, holdStack := true }) (withBlk .held State.reset)
     let u := modRun (fun r => { r with holdManual := true }) (withBlk .held State.reset)
     (∀ n ∈ [1, 2, 3, 4], (testFrame [n]).byte 0 = n
        ∧ ∀ x ∈ [s, t, u, State.reset, withBlk .failed State.reset],
            Accepts .operate (testFrame [n]) ((testFrame [n]).len == 1) x)
      ∧ s.blk.state = .running ∧ t.blk.state = .held ∧ t.blk.run.holdManual = true ∧ t.blk.run.holdStack = true
      ∧ u.blk.run.holdManual = true ∧ u.blk.run.holdStack = false ∧ blkActive s = true ∧ blkActive State.reset = false
      ∧ (withBlk .failed State.reset).blk.state = .failed ∧ s.blk.state ≠ .failed
      ∧ (withBlk .held State.reset).blk.run.holdManual = false
      ∧ (∃ e ∈ (withStack [testHeader, testEntry] s).rst.entries, e.isHeader = false)
      ∧ ¬ ∃ e ∈ (withStack [testHeader] s).rst.entries, e.isHeader = false) := by
  simp only [accepts_iff]
  decide +kernel

/-- A run held by the stack alone in a CLOSE_FEEDER step, with the notice of an entry into DEAD waiting for BLK. -/
def heldAtDeadBus : State :=
  let n : BusNotice := { bus := .dead, prev := .live, brk := true }
  let s := inStep ⟨.closeFeeder, 5, 0, 1000, false⟩ true State.reset
  withStack [testHeader] { s with blk := { s.blk with state := .held }, notices := [.bus .blk n] }

/-- The hypotheses of the return to RUNNING before the dead bus: a step lost and not lost, the dead bus awaited and
not. -/
theorem witness_BlackstartCommandsActByState_beforeDeadBus :
    heldAtDeadBus.blk.state = .held ∧ heldAtDeadBus.blk.run.begun = true
      ∧ currentStep heldAtDeadBus = some ⟨.closeFeeder, 5, 0, 1000, false⟩
      ∧ DeadBusAwaited heldAtDeadBus ∧ ¬ DeadBusAwaited { heldAtDeadBus with notices := [] }
      ∧ StepLost ⟨.closeFeeder, 5, 0, 1000, false⟩ (withFeeder 5 .opened heldAtDeadBus)
      ∧ ¬ StepLost ⟨.closeFeeder, 5, 0, 1000, false⟩ (withFeeder 5 .closing heldAtDeadBus) := by
  simp only [← deadBusAwaited_iff, ← stepFinding_lost]
  decide +kernel

/-- The discard before the dead bus at BLK: the attempt fails once, with code 4 (R171). -/
theorem test_resume_before_dead_bus_fails_once :
    ((deliver (.bus .blk { bus := .dead, prev := .live, brk := true })
        { deliver (.stack .blk) (withFeeder 5 .opened heldAtDeadBus) with notices := [] }).evr.journal.filterMap fun r =>
      if r.kind = JournalKind.attemptFailed.code then some r.value else none) = [4] := by decide +kernel

/-- A hold of an entry below the top does not examine the target that stands at the top: its due feeder, which has
FAILED, is not skipped (R109). -/
theorem test_hold_below_the_top_has_no_effect :
    (holdEntry (testFrame [0, 3]) (modRst (fun r => { r with delay := .expired })
        (withStack [testEntry, listing 6] (withFeeder 6 (.failed .close) liveAuto)))).state.rst.entries
      = [{ testEntry with hold := true }, listing 6] := by decide +kernel

/-- An enabled and a disabled link; replies with and without line settings; a running supervision timer. -/
theorem witness_LinkEventsAct :
    (let r : Reply := { kind := 0xC0, tag := 7, payload := [0] }
     let p : LineChange := { rateB := some .r9600, linkB := some false }
     State.reset.phase = .running ∧ (State.reset.link .a).enabled = true
      ∧ ((modLink .b (fun c => { c with enabled := false }) State.reset).link .b).enabled = false
      ∧ ((modLink .a (fun c => { c with current := .sending r }) State.reset).link .a).current = .sending r ∧ r.lines = none
      ∧ ({ r with lines := some p }).lines = some p ∧ State.reset.lnk.supTimer.isRunning = true) := by decide +kernel

/-- A request with each condition of the checks. -/
theorem witness_LinkChecksRefuseInOrder :
    (let f := testFrame [9]
     let s := State.reset
     let full := modLink .a (fun c => { c with waiting := List.replicate 8 { kind := 0, tag := 0, payload := [] } }) s
     let seven := modLink .a (fun c => { c with waiting := List.replicate 7 { kind := 0, tag := 0, payload := [] } }) s
     requestOf (.setMode f) = some (0x2A, .operate, f, f.len == 1) ∧ s.phase = .running ∧ (s.link f.link).enabled = true
      ∧ s.lnk.reset ≠ .draining ∧ (seven.link f.link).waiting.length < 8 ∧ 8 ≤ (full.link f.link).waiting.length
      ∧ (modLnk (fun n => { n with reset := .draining }) s).lnk.reset = .draining
      ∧ ((modLink .a (fun c => { c with enabled := false }) s).link f.link).enabled = false
      ∧ ((testFrame []).len == 1) = false ∧ (f.len == 1) = true
      ∧ ((modLink .a (fun c => { c with current := .forming }) s).link f.link).current ≠ .none
      ∧ (s.link f.link).current = .none ∧ Group.operate ≠ .either
      ∧ f.link ≠ operateLink (modLnk (fun n => { n with isLocal := true }) s)) := by decide +kernel

/-- Queries with operands at and past their bounds. -/
theorem witness_QueriesReplyAndChangeNothing :
    (let s := State.reset
     let f := testFrame [15, 16]
     Accepts .either (testFrame []) ((testFrame []).len == 0) s
      ∧ Accepts .either f (f.len == 2 && decide (1 ≤ f.byte 1 ∧ f.byte 1 ≤ 16)) s ∧ f.byte 0 = 15
      ∧ 16 ≤ (testFrame [16, 1]).byte 0
      ∧ (∀ n ∈ [3, 4, 7, 8], Accepts .either (testFrame [n]) ((testFrame [n]).len == 1) s ∧ (testFrame [n]).byte 0 = n)) := by
  simp only [accepts_iff]
  decide +kernel

/-- Requests with words, masks, selectors and counts at and past their bounds. -/
theorem witness_FlagMaskMarkAndJournalRequests :
    (let s := State.reset
     let a := testFrame [255, 127, 255, 7, 0, 0, 0, 128]
     let b := testFrame [0, 128, 0, 8, 0, 0, 0, 0]
     Accepts .operate a (a.len == 8) s ∧ a.field 0 2 < 2 ^ 15 ∧ a.field 2 2 < 2 ^ 11
      ∧ Accepts .operate b (b.len == 8) s ∧ 2 ^ 15 ≤ b.field 0 2 ∧ 2 ^ 11 ≤ b.field 2 2
      ∧ (∀ n ∈ [0, 1, 3, 4], Accepts .operate (testFrame [n]) ((testFrame [n]).len == 1) s ∧ (testFrame [n]).byte 0 = n)
      ∧ Accepts .either (testFrame []) ((testFrame []).len == 0) s
      ∧ (∀ n ∈ [1, 16], Accepts .either (testFrame [n])
          ((testFrame [n]).len == 1 && decide (1 ≤ (testFrame [n]).byte 0 ∧ (testFrame [n]).byte 0 ≤ 16)) s)) := by
  simp only [accepts_iff]
  decide +kernel

/-- SET_MODE to each mode and to none; RESET; STORE_SETTINGS; a write that ends well and badly. -/
theorem witness_ModeResetAndStoreRequests :
    (let s := State.reset
     let w : StoreWrite := { image := [1, 2], link := .a, tag := 7, left := .running 300 }
     let t := modLink .a (fun c => { c with current := .forming }) { s with sto := { s.sto with write := some w } }
     (∀ n ∈ [0, 1, 2], Accepts .operate (testFrame [n]) ((testFrame [n]).len == 1) s ∧ (testFrame [n]).byte 0 = n)
      ∧ Mode.auto.code = 1 ∧ Mode.monitor.code = 0 ∧ s.lnk.mode = .monitor
      ∧ Accepts .operate (testFrame []) ((testFrame []).len == 0) s
      ∧ Accepts .configure (testFrame []) ((testFrame []).len == 0) s
      ∧ t.phase = .running ∧ t.sto.write = some w ∧ (t.link .a).current = .forming
      ∧ [1, 2, 3].take w.image.length = w.image ∧ [1].take w.image.length ≠ w.image) := by
  simp only [accepts_iff]
  decide +kernel

/-- Requests in MONITOR and in AUTO, with and without a bad item, for a plan in use and one not, for none and with a
step that is none; a changed f_nom with the new dead-bus time elapsed and not; a changed style. -/
theorem witness_ConfigureSystemStagesAndPlans :
    (let s := State.reset
     let f := testFrame [2, 1, 96, 234, 0, 0, 2, 200, 0, 0, 0]
     let g := testFrame [1, 27, 0, 0, 0, 0]
     let p := testFrame [3, 1, 2, 0, 5, 0, 0, 0, 232, 3, 0, 0, 1]
     let run := { s with blk := { state := .held, run := { plan := some 3 } } }
     Accepts .configure f (systemLength f) s ∧ Accepts .configure f (systemLength f) liveAuto
      ∧ Accepts .configure g (systemLength g) s ∧ systemItems (systemItemsOf g) s.settings.sys = none
      ∧ systemItems (systemItemsOf f) s.settings.sys = some ({ s.settings.sys with fNom := .hz60, timeTrim := 127 }, true)
      ∧ Accepts .configure (testFrame (List.replicate 27 0)) ((testFrame (List.replicate 27 0)).len == 27) s
      ∧ (let r : Option Stamp := some 0
         let live (n : Stamp) := { s with fmon := { bus := .live, reference := r }, time := { s.time with capture := n } }
         (live 0).fmon.bus ≠ .dead ∧ (live 0).fmon.reference = some 0
          ∧ deadBusTicks .hz60 ≤ ((live 624999).time.capture - 0).toNat
          ∧ ¬ deadBusTicks .hz60 ≤ ((live 624998).time.capture - 0).toNat
          ∧ effectiveStyle { s.settings with sys := { s.settings.sys with styleHigh := .maintained } } 15
              ≠ effectiveStyle s.settings 15)
      ∧ (let q := testFrame [4, 0]
         let b := testFrame [3, 1, 7, 0, 5, 0, 0, 0, 232, 3, 0, 0, 1]
         Accepts .configure q (planLength q) s ∧ 4 ≤ q.byte 0 ∧ Accepts .configure b (planLength b) s
          ∧ stepsOf (b.byte 1) (b.payload.drop 2) = none)
      ∧ Accepts .configure p (planLength p) s ∧ p.byte 0 = 3
      ∧ stepsOf (p.byte 1) (p.payload.drop 2) = some [⟨.wait, 0, 5, 1000, true⟩]
      ∧ Accepts .configure p (planLength p) run ∧ blkActive run = true ∧ run.blk.run.plan = some 3 ∧ blkActive s = false
      ∧ Accepts .configure (testFrame [0, 3, 255, 1]) ((testFrame [0, 3, 255, 1]).len == 4) s
      ∧ directoryOf (testFrame [0, 3, 255, 1]).payload = some #v[some 0, some 3, none, some 1]
      ∧ directoryOf (testFrame [0, 4, 255, 1]).payload = none) := by
  simp only [accepts_iff]
  decide +kernel

/-- Requests for the last object of each kind, with in_service set and clear, a listed feeder among them, a set whose
place would change in AUTO, every change of an input's latch, a channel whose ceiling changes; numbers of no object, and
fields with no code. -/
theorem witness_ConfigureObjectsWriteTheirRecords :
    (let s := State.reset
     let f := testFrame [15, 1, 3, 2, 0, 0, 0, 0, 0, 0]
     let o := testFrame [15, 0, 3, 2, 0, 0, 0, 0, 0, 0]
     let l := withStack [listing 15] (withFeeder 15 .opened
        { s with settings := { feeders := Vector.replicate 16 { inService := true } } })
     let g := testFrame (3 :: 1 :: List.replicate 35 0)
     let h := testFrame (3 :: 0 :: List.replicate 35 0)
     let on := { s with settings := { sets := Vector.replicate 4 { inService := true } } }
     let wrong := { on with lnk := { on.lnk with mode := .auto }, settings := { sets := Vector.replicate 4 { rankOverride := 1 } } }
     let c := testFrame [5, 0, 100, 0, 10, 0, 0, 0, 0, 0, 10]
     let i := testFrame [31, 3, 0, 1, 0]
     let lat := { s with settings := { inputs := Vector.replicate 32 { latch := true, mode := .level } } }
     (let many := fun (n k : Nat) => testFrame (n :: List.replicate k 2)
      let plain := fun (n k : Nat) => testFrame (n :: List.replicate k 0)
      (∀ x ∈ [plain 16 9, plain 4 36, plain 6 10, plain 32 4, many 3 36, many 31 4],
          Accepts .configure x (x.len == 10 || x.len == 37 || x.len == 11 || x.len == 5) s)
        ∧ 16 ≤ (plain 16 9).byte 0 ∧ 4 ≤ (plain 4 36).byte 0 ∧ 6 ≤ (plain 6 10).byte 0 ∧ 32 ≤ (plain 32 4).byte 0
        ∧ gensetWrongMode (many 3 36) s = false ∧ SetSettings.ofBytes ((many 3 36).payload.drop 1) = none
        ∧ InputSettings.ofBytes ((many 31 4).payload.drop 1) = none)
      ∧ (let x := testFrame [5, 1, 100, 0, 10, 0, 90, 0, 0, 0, 10]
         Accepts .configure x (x.len == 11) liveAuto ∧ liveAuto.lnk.mode = .auto
          ∧ liveAuto.settings.channels[5].hostCeiling ≠ (PvSettings.ofBytes (x.payload.drop 1)).clamped.hostCeiling
          ∧ (PvSettings.ofBytes (x.payload.drop 1)).clamped.inService = true)
      ∧ Accepts .configure f (f.len == 10) s ∧ f.byte 0 = 15
      ∧ (FeederSettings.ofBytes (f.payload.drop 1)).inService ≠ s.settings.feeders[15].inService
      ∧ Accepts .configure o (o.len == 10) l ∧ listed l 15 = true ∧ l.settings.feeders[15].inService = true
      ∧ (FeederSettings.ofBytes (o.payload.drop 1)).inService = false ∧ l.feeders[15].state ≠ .outOfService
      ∧ Accepts .configure g (g.len == 37) s ∧ gensetWrongMode g s = false ∧ g.byte 0 = 3
      ∧ Accepts .configure g (g.len == 37) wrong ∧ gensetWrongMode g wrong = true
      ∧ (SetSettings.ofBytes (g.payload.drop 1)).map (·.inService) = some true ∧ s.settings.sets[3].inService = false
      ∧ (SetSettings.ofBytes (h.payload.drop 1)).map (·.inService) = some false
      ∧ Accepts .configure h (h.len == 37) (withSet 3 .online on) ∧ gensetWrongMode h on = false
      ∧ (withSet 3 .online on).settings.sets[3].inService = true
      ∧ (withSet 3 .online on).gen.sets[3].state.stoppable = true
      ∧ (withSet 3 .standby on).gen.sets[3].state.stoppable = false
      ∧ setReady (withInput 19 true s) 3 = true
      ∧ Accepts .configure c (c.len == 11) s ∧ c.byte 0 = 5 ∧ (PvSettings.ofBytes (c.payload.drop 1)).inService = false
      ∧ ({ s with settings := { channels := Vector.replicate 6 { inService := true } } }).settings.channels[5].inService = true
      ∧ Accepts .configure i (i.len == 5) lat ∧ i.byte 0 = 31
      ∧ InputSettings.ofBytes (i.payload.drop 1) = some { debounce := 3, latch := false, mode := .level, category := .protection }
      ∧ lat.settings.inputs[31].latch = true ∧ lat.settings.inputs[31].mode = .level
      ∧ s.settings.inputs[31].mode ≠ .level) := by
  simp only [accepts_iff]
  decide +kernel

end Sys2Proof.Machine
end

/-! ## The bus frequency monitor: events, notices and the statements of chapter 1 -/

namespace Sys2Proof.Machine

/-! ### Events of the blocks -/

/-- An event of a running part: the block acts, then the event is concluded (section 2.5). -/
theorem event_running {act : State → State} {s : State} (h : s.phase = .running) :
    event act s = conclude (act s) := by simp only [event, h]

/-- An event while the settings load runs is passed over (R198). -/
theorem event_loading {act : State → State} {s : State} (h : s.phase = .loading) : event act s = s := by
  simp only [event, h]

/-- A command leads to the state that its event leads to. -/
theorem next_congr {t u : State} (h : t = u) :
    (Host.Outcome.next t : Host.Outcome State Fault Refusal) = .next u := congrArg _ h

theorem exec_crossing_running {s : State} (h : s.phase = .running) :
    exec .crossing s = .next (conclude (crossingArrives s)) :=
  next_congr (event_running h)

theorem exec_deadBusTimerExpiry_running {s : State} (h : s.phase = .running) :
    exec .deadBusTimerExpiry s = .next (conclude (deadBusExpires s)) :=
  next_congr (event_running h)

/-! ### Bus notices and the records that go with them -/

@[simp] theorem emitBus_fmon (n : BusNotice) (s : State) : (emitBus n s).fmon = s.fmon := rfl
@[simp] theorem emitBus_evr (n : BusNotice) (s : State) : (emitBus n s).evr = s.evr := rfl

/-- A notice of a change of bus state goes to GEN too (R11). -/
theorem emitBus_announced_change {n : BusNotice} (h : n.bus ≠ n.prev) (s : State) :
    Announced [.shd, .rst, .cur, .blk, .gen] (fun c => .bus c n) s (emitBus n s) := by
  have e := emit_announced [.shd, .rst, .cur, .blk, .gen] (fun c => .bus c n) s
  rwa [emitBus, if_pos (Or.inl h)]

/-- A notice without a change of bus state, and of no reset, goes to four consumers (R11). -/
theorem emitBus_announced_same {n : BusNotice} (h : n.bus = n.prev) (hr : n.reset = false) (s : State) :
    Announced [.shd, .rst, .cur, .blk] (fun c => .bus c n) s (emitBus n s) := by
  have e := emit_announced [.shd, .rst, .cur, .blk] (fun c => .bus c n) s
  rwa [emitBus, if_neg (by simp [h, hr])]

/-- What a record adds to EVR is a matter of EVR and the part time (R195). -/
theorem journal_evr_congr (k : JournalKind) (o : Nat) (v : Int) {s t : State} (he : t.evr = s.evr)
    (ht : t.time = s.time) : (journal k o v t).evr = (journal k o v s).evr := by
  simp only [journal, he, ht]
  split_ifs <;> simp [setAdv, State.withEvr, he]

theorem setProt_evr_congr (k : ProtFlag) {s t : State} (he : t.evr = s.evr) :
    (setProt k t).evr = (setProt k s).evr := by
  simp only [setProt, State.withEvr, he]

/-! ### What a crossing is (R1 to R6) -/

section Crossing

variable {s : State} {r : Stamp} {p : Nat}

/-- The crossing accepted as the reference (R1). -/
def crossingAccepted (s : State) : State := modFmon (fun m => { m with reference := some s.time.capture }) s

@[simp] theorem crossingAccepted_fmon (s : State) :
    (crossingAccepted s).fmon = { s.fmon with reference := some s.time.capture } := rfl

theorem crossingAccepted_frame (s : State) : SameBut [.fmon] s (crossingAccepted s) := modFmon_frame _ s

theorem crossingArrives_first (h : s.fmon.reference = none) :
    crossingArrives s =
      emitBus { bus := .settling, prev := s.fmon.bus }
        (journal .busState BusState.settling.code 0
          (modFmon (fun m => { m with bus := .settling, origin := .atDead }) (crossingAccepted s))) := by
  simp only [crossingArrives, h, crossingAccepted]

theorem crossingArrives_short (h : s.fmon.reference = some r)
    (hc : classify s.settings.sys.fNom (correctedPeriod (s.time.capture - r).toNat s.settings.sys.timeTrim) = .short) :
    crossingArrives s = modFmon (fun m => { m with rejected := min 65535 (m.rejected + 1) }) s := by
  simp only [crossingArrives, h, hc]

theorem crossingArrives_long (h : s.fmon.reference = some r)
    (hp : p = correctedPeriod (s.time.capture - r).toNat s.settings.sys.timeTrim)
    (hc : classify s.settings.sys.fNom p = .long) : crossingArrives s = breakRun p (crossingAccepted s) := by
  subst hp
  simp only [crossingArrives, h, hc, crossingAccepted]

theorem crossingArrives_valid (h : s.fmon.reference = some r)
    (hp : p = correctedPeriod (s.time.capture - r).toNat s.settings.sys.timeTrim)
    (hc : classify s.settings.sys.fNom p = .valid) : crossingArrives s = acceptValid p (crossingAccepted s) := by
  subst hp
  simp only [crossingArrives, h, hc, crossingAccepted]

end Crossing

/-! ### Rings (R6, R7) -/

/-- A ring with a free place grows; a full one drops its oldest element. -/
theorem ringPush_eq {α : Type} {n : Nat} {l : List α} (h : l.length ≤ n) (x : α) :
    ringPush n l x = (if l.length = n then l.drop 1 else l) ++ [x] := by
  unfold ringPush
  rcases Nat.lt_or_eq_of_le h with lt | eq
  · rw [if_pos lt, if_neg (Nat.ne_of_lt lt)]
  · rw [if_neg (by omega), if_pos eq, show l.length + 1 - n = 1 by omega]

/-- A ring of three or more places taken keeps four or more with the new one. -/
theorem four_le_ringPush_length {α : Type} {n : Nat} {l : List α} (hn : 4 ≤ n) (h : 3 ≤ l.length)
    (hl : l.length ≤ n) (x : α) : 4 ≤ (ringPush n l x).length := by
  rw [ringPush_eq hl]
  split <;> simp <;> omega

/-- The oldest element of a full ring, read as an option and with a default. -/
theorem head?_map_of_length {β : Type} (g : Nat → β) : ∀ l : List Nat,
    (if l.length = 5 then l.head?.map g else none) = if l.length = 5 then some (g (l.headD 0)) else none
  | [] => rfl
  | _ :: _ => rfl

/-! ### The break and the entry into DEAD (R5, R12, R15) -/

section Break

variable {s : State} (p : Nat)

/-- The break on a bus that is not LIVE: rings and present values go. -/
theorem breakRun_fmon_other (h : s.fmon.bus ≠ .live) :
    (breakRun p s).fmon = { s.fmon with periodRing := [], freqRing := [], present := none } := by
  unfold breakRun
  cases e : s.fmon.bus <;> first | rfl | exact absurd e h

/-- The break on a LIVE bus, which becomes SETTLING. -/
theorem breakRun_fmon_live (h : s.fmon.bus = .live) :
    (breakRun p s).fmon =
      { s.fmon with periodRing := [], freqRing := [], present := none, bus := .settling, origin := .fromBreak } := by
  unfold breakRun
  simp [h]

theorem breakRun_evr_live (h : s.fmon.bus = .live) :
    (breakRun p s).evr = (journal .busState BusState.settling.code p s).evr := by
  unfold breakRun
  simp only [h, emitBus_evr]
  exact journal_evr_congr _ _ _ rfl rfl

theorem breakRun_announced_live (h : s.fmon.bus = .live) :
    Announced [.shd, .rst, .cur, .blk, .gen] (fun c => .bus c { bus := .settling, prev := .live, brk := true }) s
      (breakRun p s) := by
  unfold breakRun
  simp only [h]
  exact (emitBus_announced_change (by decide) _).congr (by simp) rfl

theorem breakRun_announced_other (h : s.fmon.bus ≠ .live) :
    Announced [.shd, .rst, .cur, .blk]
      (fun c => .bus c { bus := s.fmon.bus, prev := s.fmon.bus, brk := true }) s (breakRun p s) := by
  unfold breakRun
  cases e : s.fmon.bus
  case live => exact absurd e h
  all_goals exact (emitBus_announced_same rfl rfl _).congr rfl rfl

/-- The timer of a run that a crossing has broken counts from that crossing (R5). -/
theorem sinceReference_breakRun (s : State) : sinceReference (breakRun p (crossingAccepted s)) = some 0 := by
  have ht : (breakRun p (crossingAccepted s)).time = s.time := (breakRun_frame p _).time (by decide)
  have hr : (breakRun p (crossingAccepted s)).fmon.reference = some s.time.capture := by
    by_cases h : (crossingAccepted s).fmon.bus = .live
    · rw [breakRun_fmon_live p h]; rfl
    · rw [breakRun_fmon_other p h]; rfl
  rw [sinceReference, hr, ht, Option.map_some, BitVec.sub_self]
  rfl

/-- A break on a bus that is not LIVE writes no record (R5). -/
theorem breakRun_frame_other (h : s.fmon.bus ≠ .live) : SameBut [.fmon, .notices, .draws] s (breakRun p s) := by
  unfold breakRun
  cases e : s.fmon.bus
  case live => exact absurd e h
  all_goals simp

@[simp] theorem enterDead_fmon (s : State) :
    (enterDead s).fmon =
      { s.fmon with
        reference := none, periodRing := [], freqRing := [], present := none, bus := .dead, origin := .none } := by
  simp [enterDead]

theorem enterDead_evr (s : State) :
    (enterDead s).evr = (journal .busState BusState.dead.code s.fmon.bus.code (setProt .busDead s)).evr :=
  journal_evr_congr _ _ _ (setProt_evr_congr _ rfl) rfl

theorem enterDead_announced (h : s.fmon.bus ≠ .dead) :
    Announced [.shd, .rst, .cur, .blk, .gen] (fun c => .bus c { bus := .dead, prev := s.fmon.bus, brk := true }) s
      (enterDead s) :=
  (emitBus_announced_change (Ne.symm h) _).congr (by simp [setProt, State.withEvr]) rfl

end Break

/-! ### Frequency values (R7 to R10) -/

section Value

variable {s : State} (ring : List Nat)

/-- The present-value record that a period ring gives a state (R10). -/
def valueFormed (ring : List Nat) (s : State) : PresentValue :=
  valueOf ring (ringPush 5 s.fmon.freqRing (freqOf (sumNewest4 ring))) (freqOf (sumNewest4 ring)) s

theorem formValue_fmon (s : State) :
    (formValue ring s).fmon =
      { s.fmon with
        periodRing := ring, freqRing := ringPush 5 s.fmon.freqRing (freqOf (sumNewest4 ring))
        present := some (valueFormed ring s), seq := (valueFormed ring s).seq, bus := .live, origin := .none } := by
  simp only [formValue, valueFormed]
  split <;> simp

theorem formValue_announced_live (h : s.fmon.bus = .live) :
    Announced [.shd, .rst, .cur, .blk]
      (fun c => .bus c { bus := .live, prev := .live, value := some (valueFormed ring s) }) s (formValue ring s) := by
  simp only [formValue, if_pos h]
  exact (emitBus_announced_same rfl rfl _).congr rfl rfl

theorem formValue_frame_live (h : s.fmon.bus = .live) : SameBut [.fmon, .notices, .draws] s (formValue ring s) := by
  simp [formValue, h]

theorem formValue_announced_other (h : s.fmon.bus ≠ .live) :
    Announced [.shd, .rst, .cur, .blk, .gen]
      (fun c => .bus c
        { bus := .live, prev := s.fmon.bus, afterDead := decide (s.fmon.origin = .atDead)
          value := some (valueFormed ring s) }) s (formValue ring s) := by
  simp only [formValue, if_neg h]
  exact (emitBus_announced_change (Ne.symm h) _).congr (by simp [setProt, State.withEvr]) rfl

theorem formValue_evr_other (h : s.fmon.bus ≠ .live) :
    (formValue ring s).evr =
      (journal .busState BusState.live.code (freqOf (sumNewest4 ring)) (setProt .busLive s)).evr := by
  simp only [formValue, if_neg h]
  exact journal_evr_congr _ _ _ (setProt_evr_congr _ rfl) rfl

theorem acceptValid_early {p : Nat} (h : s.fmon.periodRing.length < 3) :
    acceptValid p s = modFmon (fun m => { m with periodRing := m.periodRing ++ [p] }) s := by
  have e : ringPush 8 s.fmon.periodRing p = s.fmon.periodRing ++ [p] := by
    rw [ringPush, if_pos (show s.fmon.periodRing.length < 8 by omega)]
  have hl : ¬ 4 ≤ (s.fmon.periodRing ++ [p]).length := by simp; omega
  simp only [acceptValid, e, if_neg hl, modFmon]

theorem acceptValid_value {p : Nat} (h : 3 ≤ s.fmon.periodRing.length) (hl : s.fmon.periodRing.length ≤ 8) :
    acceptValid p s = formValue (ringPush 8 s.fmon.periodRing p) s := by
  simp only [acceptValid, if_pos (four_le_ringPush_length (by decide) h hl p)]

/-- The rate of change of a value is present once the frequency ring is full (R8). -/
theorem valueFormed_r (s : State) :
    (valueFormed ring s).r =
      (let freqs := ringPush 5 s.fmon.freqRing (valueFormed ring s).f
       if freqs.length = 5 then
         some (clampInt (-20000) 20000
           (((((valueFormed ring s).f : Int) - (freqs.headD 0 : Nat)) * 10 ^ 7).tdiv (valueFormed ring s).s4))
       else none) :=
  head?_map_of_length _ _

end Value

/-! ### Windows and figures (R3, R7) -/

/-- The classes of a corrected period by the bounds of the window (R3). -/
theorem classify_iff (n : NominalFreq) (p : Nat) :
    (classify n p = .short ↔ p < n.pMin) ∧ (classify n p = .long ↔ n.pMax < p)
      ∧ (classify n p = .valid ↔ n.pMin ≤ p ∧ p ≤ n.pMax) := by
  have hw : n.pMin ≤ n.pMax := by cases n <;> decide
  unfold classify
  split_ifs <;> simp <;> omega

/-- The sum of the four newest of four or more valid periods lies within four times the window (R3, R7). -/
theorem sumNewest4_bounds {n : NominalFreq} {ring : List Nat} (hl : 4 ≤ ring.length)
    (hv : ∀ p ∈ ring, classify n p = .valid) :
    4 * n.pMin ≤ sumNewest4 ring ∧ sumNewest4 ring ≤ 4 * n.pMax := by
  have hd : (ring.drop (ring.length - 4)).length = 4 := by simp; omega
  have hb : ∀ p ∈ ring.drop (ring.length - 4), n.pMin ≤ p ∧ p ≤ n.pMax := fun p hp =>
    (classify_iff n p).2.2.mp (hv p (List.mem_of_mem_drop hp))
  have lo := List.card_nsmul_le_sum _ n.pMin fun p hp => (hb p hp).1
  have hi := List.sum_le_card_nsmul _ n.pMax fun p hp => (hb p hp).2
  rw [hd, smul_eq_mul] at lo hi
  exact ⟨lo, hi⟩

/-- The rounded frequency of a sum within four times the window (R7). -/
theorem freqOf_bounds {n : NominalFreq} {x : Nat} (lo : 4 * n.pMin ≤ x) (hi : x ≤ 4 * n.pMax) :
    n.mHz * 8 ≤ 10 * freqOf x ∧ 10 * freqOf x ≤ n.mHz * 12 := by
  have key : ∀ m : Nat, 0 < x → (m * (2 * x) ≤ 2 * (4 * 10 ^ 10) + x ↔ m ≤ freqOf x) := fun m hx =>
    (Nat.le_div_iff_mul_le (by omega)).symm
  cases n <;> simp only [NominalFreq.pMin, NominalFreq.pMax, NominalFreq.mHz] at *
  · have a := (key 40000 (by omega)).mp (by omega)
    have b := (not_congr (key 60001 (by omega))).mp (by omega)
    omega
  · have a := (key 48000 (by omega)).mp (by omega)
    have b := (not_congr (key 72001 (by omega))).mp (by omega)
    omega

/-! ### The statements of chapter 1 -/

/-- Settles O19: the crossing's two cases (no reference; a valid period into a ring that stays short). -/
theorem earlyCrossingsOfARunFormNoValue : Obligations.EarlyCrossingsOfARunFormNoValue := by
  refine ⟨fun s hrun href hbus => ?_, fun s r p hrun href hp hc hring => ?_⟩
  · refine ⟨crossingArrives s, exec_crossing_running hrun, ?_, ?_, ?_, crossingArrives_frame s⟩
    all_goals rw [crossingArrives_first href, hbus]
    · simp
    · rw [emitBus_evr]
      exact journal_evr_congr _ _ _ rfl rfl
    · exact (emitBus_announced_change (by decide) _).congr (by simp [crossingAccepted]) rfl
  · refine ⟨crossingArrives s, exec_crossing_running hrun, ?_, ?_⟩
    all_goals rw [crossingArrives_valid href hp hc, acceptValid_early (by exact hring)]
    · rfl
    · exact (crossingAccepted_frame s).trans (modFmon_frame _ _)

/-- Settles O21: a valid period into a ring of three or more forms the value of `valueFormed`. -/
theorem valueCrossingFormsAFrequencyValue : Obligations.ValueCrossingFormsAFrequencyValue := by
  intro s r p ring hrun href hp hc hring hlo hhi hfreq
  have hr : ringPush 8 s.fmon.periodRing p = ring := by rw [ringPush_eq hhi, hring]
  have hact : crossingArrives s = formValue ring (crossingAccepted s) := by
    rw [crossingArrives_valid href hp hc, ← hr]
    exact acceptValid_value (s := crossingAccepted s) hlo hhi
  have hfreqs := ringPush_eq hfreq (freqOf (sumNewest4 ring))
  have hframe := (crossingAccepted_frame s).widen [.fmon, .notices, .draws] rfl
  refine ⟨crossingArrives s, valueFormed ring (crossingAccepted s), _, exec_crossing_running hrun, rfl, rfl,
    hfreqs.symm ▸ rfl, valueFormed_r ring (crossingAccepted s), rfl, rfl, rfl, rfl, ?_, ?_, ?_⟩
  all_goals rw [hact]
  · exact formValue_fmon ring (crossingAccepted s)
  · intro h
    have hlive : (crossingAccepted s).fmon.bus = .live := h
    exact ⟨(formValue_announced_live ring hlive).congr rfl rfl, hframe.trans (formValue_frame_live ring hlive)⟩
  · intro h
    have hother : (crossingAccepted s).fmon.bus ≠ .live := h
    refine ⟨(formValue_announced_other ring hother).congr rfl rfl, ?_,
      (hframe.widen _ rfl).trans (formValue_frame ring _)⟩
    rw [formValue_evr_other ring hother]
    exact journal_evr_congr _ _ _ (setProt_evr_congr _ rfl) rfl

/-- Settles O22: the break of the run, on a LIVE bus and on one that is not. -/
theorem longCrossingBreaksTheRun : Obligations.LongCrossingBreaksTheRun := by
  intro s r p hrun href hp hc
  have hframe := (crossingAccepted_frame s).widen [.fmon, .notices, .draws] rfl
  refine ⟨crossingArrives s, exec_crossing_running hrun, ?_, fun h => ?_, fun h => ?_⟩
  all_goals rw [crossingArrives_long href hp hc]
  · exact sinceReference_breakRun p s
  · have hlive : (crossingAccepted s).fmon.bus = .live := h
    refine ⟨breakRun_fmon_live p hlive, ?_, (breakRun_announced_live p hlive).congr rfl rfl,
      (hframe.widen _ rfl).trans (breakRun_frame p _)⟩
    rw [breakRun_evr_live p hlive]
    exact journal_evr_congr _ _ _ rfl rfl
  · have hother : (crossingAccepted s).fmon.bus ≠ .live := h
    exact ⟨breakRun_fmon_other p hother, (breakRun_announced_other p hother).congr rfl rfl,
      hframe.trans (breakRun_frame_other p hother)⟩

/-- Settles O23: the entry into DEAD, which a DEAD bus does not make again. -/
theorem deadBusTimerExpiryEntersDead : Obligations.DeadBusTimerExpiryEntersDead := by
  intro s hrun
  refine ⟨deadBusExpires s, exec_deadBusTimerExpiry_running hrun, fun hdead => if_pos hdead, fun hother => ?_⟩
  rw [deadBusExpires, if_neg hother]
  exact ⟨enterDead_fmon s, enterDead_evr s, enterDead_announced hother, enterDead_frame s⟩

/-- Settles O24: the bounds of the classes, and those of the rounded quotient over them. -/
theorem frequencyValuesLieInTheWindow : Obligations.FrequencyValuesLieInTheWindow := by
  refine ⟨fun p => ?_, fun n ring hl hv => ?_⟩
  · obtain ⟨s50, l50, v50⟩ := classify_iff .hz50 p
    obtain ⟨s60, l60, v60⟩ := classify_iff .hz60 p
    exact ⟨s50, l50, v50, s60, l60, v60⟩
  · obtain ⟨lo, hi⟩ := sumNewest4_bounds hl hv
    exact freqOf_bounds lo hi

end Sys2Proof.Machine

/-! ## The end of an event, requests, and the statements of resets and queries -/

namespace Sys2Proof.Machine

/-! ### The end of an event (section 2.5) -/

/-- The parts that the delivery of an event's notices and the driving of the lines can reach. -/
def concludeParts : List Part := [.feeders, .shd, .rst, .gen, .cur, .blk, .evr, .notices, .draws]

theorem withNotices_frame (l : List Notice) (s : State) : SameBut [.notices] s { s with notices := l } := by simp

theorem settle_frame : ∀ (fuel : Nat) (s : State), SameBut concludeParts s (settle fuel s)
  | 0, s =>
    (((withNotices_frame [] s).widen concludeParts rfl).trans
      (SameBut.foldl (fun t n => deliver_frame n t) s.notices _)).trans ((withNotices_frame [] _).widen _ rfl)
  | fuel + 1, s => by
    unfold settle
    split
    · exact SameBut.refl _ s
    · exact (((withNotices_frame _ s).widen _ rfl).trans (deliver_frame _ _)).trans (settle_frame fuel _)

/-- The end of an event reaches only the consumers of its notices, the lines and the alert lines. -/
theorem conclude_frame (s : State) : SameBut concludeParts s (conclude s) :=
  ((settle_frame Config.settleFuel s).trans ((driveSets_frame _).widen _ rfl)).trans ((driveAlerts_frame _).widen _ rfl)

@[simp] theorem conclude_fmon (s : State) : (conclude s).fmon = s.fmon := (conclude_frame s).fmon (by decide)
@[simp] theorem conclude_settings (s : State) : (conclude s).settings = s.settings :=
  (conclude_frame s).settings (by decide)
@[simp] theorem conclude_lnk (s : State) : (conclude s).lnk = s.lnk := (conclude_frame s).lnk (by decide)

/-! ### Supervision by a frame (R183) -/

theorem restoreSupervision_lnk (s : State) : (restoreSupervision s).lnk = { s.lnk with supervised := true } := by
  unfold restoreSupervision
  split
  next h => rw [← h]
  next h =>
    rw [(curOnSupervision_frame _ _).lnk (by decide), journal_lnk, (setAdv_frame _ _).lnk (by decide)]
    rfl

/-- A well-framed frame changes of LNK the supervision and its timer alone. -/
theorem superviseFrame_lnk (l : Link) (s : State) :
    ∃ (timer : Timer) (present : Bool),
      (superviseFrame l s).lnk = { s.lnk with supTimer := timer, supervised := present } := by
  cases l with
  | a => exact ⟨supervisionStart s, true, restoreSupervision_lnk _⟩
  | b => exact ⟨s.lnk.supTimer, s.lnk.supervised, rfl⟩

section Supervised

variable (l : Link) (s : State)

@[simp] theorem superviseFrame_phase : (superviseFrame l s).phase = s.phase :=
  (superviseFrame_frame l s).phase (by decide)
@[simp] theorem superviseFrame_time : (superviseFrame l s).time = s.time := (superviseFrame_frame l s).time (by decide)
@[simp] theorem superviseFrame_settings : (superviseFrame l s).settings = s.settings :=
  (superviseFrame_frame l s).settings (by decide)
@[simp] theorem superviseFrame_fmon : (superviseFrame l s).fmon = s.fmon := (superviseFrame_frame l s).fmon (by decide)
@[simp] theorem superviseFrame_inputs : (superviseFrame l s).inputs = s.inputs :=
  (superviseFrame_frame l s).inputs (by decide)
@[simp] theorem superviseFrame_feeders : (superviseFrame l s).feeders = s.feeders :=
  (superviseFrame_frame l s).feeders (by decide)
@[simp] theorem superviseFrame_shd : (superviseFrame l s).shd = s.shd := (superviseFrame_frame l s).shd (by decide)
@[simp] theorem superviseFrame_blk : (superviseFrame l s).blk = s.blk := (superviseFrame_frame l s).blk (by decide)
@[simp] theorem superviseFrame_sto : (superviseFrame l s).sto = s.sto := (superviseFrame_frame l s).sto (by decide)

@[simp] theorem superviseFrame_link (k : Link) : (superviseFrame l s).link k = s.link k := by
  obtain ⟨timer, present, e⟩ := superviseFrame_lnk l s
  cases k <;> simp only [State.link, e]
@[simp] theorem superviseFrame_reset : (superviseFrame l s).lnk.reset = s.lnk.reset := by
  obtain ⟨timer, present, e⟩ := superviseFrame_lnk l s
  rw [e]
@[simp] theorem superviseFrame_mode : (superviseFrame l s).lnk.mode = s.lnk.mode := by
  obtain ⟨timer, present, e⟩ := superviseFrame_lnk l s
  rw [e]
@[simp] theorem superviseFrame_isLocal : (superviseFrame l s).lnk.isLocal = s.lnk.isLocal := by
  obtain ⟨timer, present, e⟩ := superviseFrame_lnk l s
  rw [e]
@[simp] theorem superviseFrame_operateLink : operateLink (superviseFrame l s) = operateLink s := by
  simp [operateLink]

end Supervised

/-! ### Requests that pass the checks (R179 to R183) -/

section Requests

variable {g : Group} {kind : Byte} {f : Frame} {ok : Bool} {s : State}

theorem takeFrame_loading {check : State → Option Status} {perform : State → Answer} (h : s.phase = .loading) :
    takeFrame kind f check perform s = s := by simp only [takeFrame, h]

/-- A request that its conditions let pass finds no fault in the checks of LNK (R182). -/
theorem Accepts.lnkCheck_eq_none (h : Accepts g f ok s) : lnkCheck g ok f.link (superviseFrame f.link s) = none := by
  have hbusy : isBusy g f.link (superviseFrame f.link s) = false := by
    simp only [isBusy, superviseFrame_link, superviseFrame_sto, h.free]
    by_cases hg : g = .configure
    · simp [h.noWrite hg]
    · simp [hg]
  have hperm : ¬ (g ≠ .either ∧ f.link ≠ operateLink (superviseFrame f.link s)) := fun ⟨hg, hl⟩ =>
    hl (by rw [superviseFrame_operateLink]; exact h.permitted hg)
  simp only [lnkCheck, h.length, hbusy, if_neg hperm]
  rfl

/-- A request that passes the checks is performed by its block, on the state in which LNK has noted its frame. -/
theorem request_accepted {perform : State → Answer} (h : Accepts g f ok s) :
    request kind g f ok perform s = answer kind f (perform (superviseFrame f.link s)) := by
  have hroom : ¬ Config.replyListMax ≤ ((superviseFrame f.link s).link f.link).waiting.length := by
    rw [superviseFrame_link]
    exact Nat.not_le.mpr h.room
  have hdrain : (superviseFrame f.link s).lnk.reset ≠ .draining := by
    rw [superviseFrame_reset]
    exact h.notDraining
  simp only [request, takeFrame, h.running, h.enabled, if_true, if_neg hdrain, if_neg hroom, h.lnkCheck_eq_none]

theorem answer_refuse (st : Status) : answer kind f (refuse st s) = withReply kind f st [] (conclude s) := rfl

theorem answer_queryReply (body : List Byte) :
    answer kind f (queryReply body s) = withReply kind f .ok body (conclude s) := rfl

theorem answer_reply (st : Status) (body : State → List Byte) :
    answer kind f (reply st body s) = withReply kind f st (body (conclude s)) (conclude s) := rfl

/-- A request reaches no part but those that its block, LNK and the end of an event reach. -/
theorem takeFrame_frame {ps : List Part} {check : State → Option Status} {perform : State → Answer}
    (hps : (.lnk :: concludeParts).all (· ∈ ps) = true) (h : ∀ t, SameBut ps t (perform t).state) :
    SameBut ps s (takeFrame kind f check perform s) := by
  have sub {qs : List Part} (hq : qs.all (· ∈ .lnk :: concludeParts) = true) {t u : State} (k : SameBut qs t u) :
      SameBut ps t u := (k.widen _ hq).widen ps hps
  have hanswer : ∀ a : Answer, SameBut ps a.state (answer kind f a) := fun a => by
    have hc := sub rfl (conclude_frame a.state)
    unfold answer
    dsimp only
    split
    · exact hc
    · exact hc.trans (sub rfl (modLink_frame _ _ _))
  have hv := sub rfl (superviseFrame_frame f.link s)
  unfold takeFrame
  dsimp only
  split
  · exact SameBut.refl ps s
  · split
    · split
      · exact hv.trans (sub rfl (conclude_frame _))
      · split
        · exact (hv.trans (sub rfl (setLinkError_frame _ _ _))).trans (sub rfl (conclude_frame _))
        · split
          · exact hv.trans (hanswer (refuse _ _))
          · exact (hv.trans (h _)).trans (hanswer _)
    · exact SameBut.refl ps s

/-- A query without payload leaves the monitor alone. -/
theorem plainQuery_fmon (body : State → List Byte) : (plainQuery kind f body s).fmon = s.fmon :=
  (takeFrame_frame (ps := .lnk :: concludeParts) rfl fun t => SameBut.refl _ t).fmon (by decide)

end Requests

/-! ### The two forms of a command -/

/-- A request command is the request of its kind, group, frame and length that Table 10-1 has. -/
theorem exec_request {c : Instr} {kind : Byte} {g : Group} {f : Frame} {ok : Bool}
    (h : requestOf c = some (kind, g, f, ok)) :
    ∃ perform, ∀ s, exec c s = .next (request kind g f ok perform s) := by
  cases c <;> cases h <;> exact ⟨_, fun _ => rfl⟩

/-- A command that is neither a frame nor concerns a reset is an event of the blocks. -/
theorem exec_event {c : Instr} (hr : requestOf c = none) (hu : ∀ kind f, c ≠ .unknownKind kind f)
    (hp : c ≠ .powerOnReset) (hs : c ≠ .softReset) (hl : ∀ image, c ≠ .settingsLoadEnd image) :
    ∃ act, ∀ s, exec c s = .next (event act s) := by
  cases c with
  | powerOnReset => exact absurd rfl hp
  | softReset => exact absurd rfl hs
  | settingsLoadEnd image => exact absurd rfl (hl image)
  | unknownKind kind f => exact absurd rfl (hu kind f)
  | _ => cases hr <;> exact ⟨_, fun _ => rfl⟩

/-! ### The settings load and the resets -/

/-- While the settings load runs, every command but the two of the reset is passed over (R186, R198). -/
theorem exec_loading {c : Instr} {s : State} (h : s.phase = .loading) (hp : c ≠ .powerOnReset)
    (hl : ∀ image, c ≠ .settingsLoadEnd image) : exec c s = .next s := by
  cases hr : requestOf c with
  | some r =>
    obtain ⟨perform, e⟩ := exec_request hr
    rw [e, request, takeFrame_loading h]
  | none =>
    by_cases hs : c = .softReset
    · subst hs
      simp only [exec, execSoftReset, h]
    · by_cases hu : ∃ kind f, c = .unknownKind kind f
      · obtain ⟨kind, f, rfl⟩ := hu
        exact next_congr (takeFrame_loading h)
      · obtain ⟨act, e⟩ := exec_event hr (fun kind f hc => hu ⟨kind, f, hc⟩) hp hs hl
        rw [e, event_loading h]

/-- The reset notice reaches only the consumers of notices. -/
theorem takeResetNotice_frame (s : State) : SameBut concludeParts s (takeResetNotice s) := by
  simp [takeResetNotice, concludeParts]

/-- FMON after the blocks have initialised (Table 1-3). -/
theorem initialise_fmon (kind : ResetKind) (mode : Mode) (s : State) : (initialise kind mode s).fmon = {} :=
  (takeResetNotice_frame _).fmon (by decide)

@[simp] theorem driveAlerts_fmon (s : State) : (driveAlerts s).fmon = s.fmon := (driveAlerts_frame s).fmon (by decide)

theorem softReset_fmon (s : State) : (softReset s).fmon = {} := by
  rw [softReset, driveAlerts_fmon, initialise_fmon]

theorem loadEnds_fmon (image : List Byte) (s : State) : (loadEnds image s).fmon = {} := by
  unfold loadEnds
  dsimp only
  split
  · rw [driveAlerts_fmon, initialise_fmon]
  · rw [driveAlerts_fmon, reportDefaulted, journal_fmon, (setAdv_frame _ _).fmon (by decide), initialise_fmon]

/-- Settles O20: a short period is counted; READ_FREQUENCY reaches no part of FMON, and both resets begin it afresh. -/
theorem shortCrossingIsCountedOnly : Obligations.ShortCrossingIsCountedOnly := by
  refine ⟨fun s r hrun href hc => ?_, fun f s => ⟨_, rfl, plainQuery_fmon _⟩, fun s hrun hready => ?_,
    fun image s hload => ?_⟩
  · refine ⟨crossingArrives s, exec_crossing_running hrun, ?_, ?_⟩
    all_goals rw [crossingArrives_short href hc]
    · rfl
    · exact modFmon_frame _ s
  · refine ⟨softReset s, ?_, by rw [softReset_fmon]⟩
    simp only [exec, execSoftReset, hrun, hready, if_true]
  · refine ⟨loadEnds image s, ?_, by rw [loadEnds_fmon]⟩
    simp only [exec, execSettingsLoadEnd, hload]

/-- Settles O3: the lines, counts and links that `powerOn` writes, and the pins, bytes and commands that it keeps. -/
theorem powerOnResetReleasesEveryLine : Obligations.PowerOnResetReleasesEveryLine := by
  intro s
  refine ⟨powerOn s, rfl, rfl, rfl, ?_, ?_, ?_, rfl, rfl, rfl, ?_, rfl, rfl, rfl, rfl⟩
  all_goals simp [powerOn, setpointOutput]

/-- Settles O4: requests and events alike are passed over while the settings load runs. -/
theorem loadingPartPassesOverEveryEvent : Obligations.LoadingPartPassesOverEveryEvent :=
  fun _ _ h hp hl => exec_loading h hp hl

end Sys2Proof.Machine

namespace Sys2Proof.Machine

/-! ### Numbers of objects and sections -/

theorem objectOf_val {n : Nat} (i : Fin n) : objectOf n i.val = some i := dif_pos i.isLt

theorem objectOf_of_le {n k : Nat} (h : n ≤ k) : objectOf n k = none := dif_neg (Nat.not_lt.mpr h)

/-- READ_CONFIG has a reply for the sections 0 to 7 (R187). -/
theorem exists_configBody {sec : Nat} (h : sec ≤ 7) (s : State) : ∃ body, configBody sec s = some body := by
  rcases Nat.lt_or_ge sec 4 with lt | ge
  · interval_cases sec <;> exact ⟨_, rfl⟩
  · obtain ⟨p, rfl⟩ : ∃ p : Fin 4, sec = 4 + p.val := ⟨⟨sec - 4, by omega⟩, by simp; omega⟩
    fin_cases p <;> exact ⟨_, rfl⟩

/-- There is no section above 7 (R187). -/
theorem configBody_of_le {sec : Nat} (h : 8 ≤ sec) (s : State) : configBody sec s = none := by
  obtain ⟨n, rfl⟩ := Nat.exists_eq_add_of_le h
  have e : configBody (8 + n) s = (objectOf 4 (8 + n - 4)).map fun p => s.settings.plans[p].bytes := by
    rw [Nat.add_comm]; rfl
  rw [e, objectOf_of_le (by omega)]
  rfl

/-! ### Queries -/

section Queries

variable {kind : Byte} {f : Frame} {ok : Bool} {s : State}

/-- A query without payload replies with its figures as they stand when the request is taken (R188). -/
theorem plainQuery_accepted {body : State → List Byte} (h : Accepts .either f (f.len == 0) s) :
    plainQuery kind f body s =
      withReply kind f .ok (body (superviseFrame f.link s)) (conclude (superviseFrame f.link s)) := by
  rw [plainQuery, request_accepted h, answer_queryReply]

/-- A request whose block answers with a query's reply. -/
theorem request_query {g : Group} {perform : State → Answer} {body : List Byte} (h : Accepts g f ok s)
    (hp : perform (superviseFrame f.link s) = queryReply body (superviseFrame f.link s)) :
    request kind g f ok perform s = withReply kind f .ok body (conclude (superviseFrame f.link s)) := by
  rw [request_accepted h, hp, answer_queryReply]

/-- A request that its block refuses: nothing is done, and the reply carries the status alone (R179, R182). -/
theorem request_refused {g : Group} {perform : State → Answer} {st : Status} (h : Accepts g f ok s)
    (hp : perform (superviseFrame f.link s) = refuse st (superviseFrame f.link s)) :
    request kind g f ok perform s = withReply kind f st [] (conclude (superviseFrame f.link s)) := by
  rw [request_accepted h, hp, answer_refuse]

/-- A request that its block performs: the reply shows the state after the event (R179). -/
theorem request_performed {g : Group} {perform : State → Answer} {st : Status} {body : State → List Byte}
    {u : State} (h : Accepts g f ok s) (hp : perform (superviseFrame f.link s) = reply st body u) :
    request kind g f ok perform s = withReply kind f st (body (conclude u)) (conclude u) := by
  rw [request_accepted h, hp, answer_reply]

theorem readFeeders_of_val {first : Fin 16} (h : f.byte 0 = first) :
    readFeeders f s = queryReply (feedersBody first (f.byte 1) s) s := by
  simp only [readFeeders, h, objectOf_val]

theorem readFeeders_of_le (h : 16 ≤ f.byte 0) : readFeeders f s = refuse .badIndex s := by
  simp only [readFeeders, objectOf_of_le h]

theorem readGensets_of_val {g : Fin 4} (h : f.byte 0 = g) : readGensets f s = queryReply (gensetsBody g s) s := by
  simp only [readGensets, h, objectOf_val]

theorem readGensets_of_le (h : 4 ≤ f.byte 0) : readGensets f s = refuse .badIndex s := by
  simp only [readGensets, objectOf_of_le h]

theorem readConfig_of_body {body : List Byte} (h : configBody (f.byte 0) s = some body) :
    readConfig f s = queryReply body s := by
  simp only [readConfig, h]

theorem readConfig_of_le (h : 8 ≤ f.byte 0) : readConfig f s = refuse .badIndex s := by
  simp only [readConfig, configBody_of_le h]

end Queries

/-- Settles O56: each query by the rule of its form, and the bounds of its operand. -/
theorem queriesReplyAndChangeNothing : Obligations.QueriesReplyAndChangeNothing := by
  intro f s
  refine ⟨fun acc => ?_, fun acc => ⟨fun first hf => ?_, fun hf => ?_⟩,
    fun acc => ⟨fun g hg => ?_, fun hg => ?_, fun hsec => ?_, fun hsec => ?_⟩⟩
  · refine ⟨?_, ?_, ?_, ?_, ?_, ?_, ?_⟩ <;> exact next_congr (plainQuery_accepted acc)
  · exact next_congr (request_query acc (readFeeders_of_val hf))
  · exact next_congr (request_refused acc (readFeeders_of_le hf))
  · exact next_congr (request_query acc (readGensets_of_val hg))
  · exact next_congr (request_refused acc (readGensets_of_le hg))
  · obtain ⟨body, hb⟩ := exists_configBody hsec (superviseFrame f.link s)
    exact ⟨body, hb, next_congr (request_query acc (readConfig_of_body hb))⟩
  · exact next_congr (request_refused acc (readConfig_of_le hsec))

end Sys2Proof.Machine

/-! ## CONFIGURE_SYSTEM, CONFIGURE_STAGES, CONFIGURE_PLAN and CONFIGURE_DIRECTORY -/

namespace Sys2Proof.Machine

/-! ### Notices that wait -/

theorem Announced.mem {dests : List Consumer} {mk : Consumer → Notice} {s t : State} (h : Announced dests mk s t)
    {c : Consumer} (hc : c ∈ dests) : mk c ∈ t.notices := by
  obtain ⟨l, hl, e⟩ := h
  rw [e]
  exact List.mem_append_right _ (List.mem_map_of_mem (hl.mem_iff.mpr hc))

theorem Announced.keeps {dests : List Consumer} {mk : Consumer → Notice} {s t : State} (h : Announced dests mk s t)
    {n : Notice} (hn : n ∈ s.notices) : n ∈ t.notices := by
  obtain ⟨l, -, e⟩ := h
  rw [e]
  exact List.mem_append_left _ hn

/-! ### A changed nominal frequency (R17) -/

section Nominal

variable (s : State)

/-- The state of the bus after a break (R5). -/
def busAfterBreak (b : BusState) : BusState := if b = .live then .settling else b

/-- The break is announced, with or without a change of bus state (R5, R11). -/
theorem breakRun_notice_mem (p : Nat) {c : Consumer} (hc : c ∈ [Consumer.shd, .rst, .cur, .blk]) :
    .bus c { bus := busAfterBreak s.fmon.bus, prev := s.fmon.bus, brk := true } ∈ (breakRun p s).notices := by
  by_cases h : s.fmon.bus = .live
  · have m := (breakRun_announced_live p h).mem (List.mem_append_left [.gen] hc)
    rwa [busAfterBreak, if_pos h, h]
  · have m := (breakRun_announced_other p h).mem hc
    rwa [busAfterBreak, if_neg h]

theorem breakRun_bus (p : Nat) : (breakRun p s).fmon.bus = busAfterBreak s.fmon.bus := by
  by_cases h : s.fmon.bus = .live
  · rw [breakRun_fmon_live p h, busAfterBreak, if_pos h]
  · rw [breakRun_fmon_other p h, busAfterBreak, if_neg h]

theorem breakRun_reference (p : Nat) : (breakRun p s).fmon.reference = s.fmon.reference := by
  by_cases h : s.fmon.bus = .live
  · rw [breakRun_fmon_live p h]
  · rw [breakRun_fmon_other p h]

/-- The dead-bus timer has run out when a bus that is not DEAD has been without a crossing for its length (R15). -/
theorem deadBusDue_iff :
    deadBusDue s = true ↔ s.fmon.bus ≠ .dead
      ∧ ∃ r, s.fmon.reference = some r ∧ deadBusTicks s.settings.sys.fNom ≤ (s.time.capture - r).toNat := by
  unfold deadBusDue sinceReference
  cases s.fmon.bus <;> cases s.fmon.reference <;> simp

/-- The break leaves the dead-bus timer as it runs. -/
theorem deadBusDue_breakRun (p : Nat) : deadBusDue (breakRun p s) = deadBusDue s := by
  have hf := breakRun_frame p s
  have hb : (breakRun p s).fmon.bus = .dead ↔ s.fmon.bus = .dead := by
    rw [breakRun_bus]
    cases s.fmon.bus <;> simp [busAfterBreak]
  rw [Bool.eq_iff_iff, deadBusDue_iff, deadBusDue_iff, breakRun_reference, hf.settings (by decide),
    hf.time (by decide), ne_eq, hb]

/-- The monitor after a changed nominal frequency: a break, and DEAD once the new length has elapsed. -/
theorem nominalChanged_fmon :
    (nominalChanged s).fmon =
      (let broken := { s.fmon with periodRing := [], freqRing := [], present := none }
       if deadBusDue s then { broken with bus := .dead, origin := .none, reference := none }
       else if s.fmon.bus = .live then { broken with bus := .settling, origin := .fromBreak }
       else broken) := by
  simp only [nominalChanged, deadBusDue_breakRun]
  by_cases hl : s.fmon.bus = .live
  · split <;> simp [breakRun_fmon_live 0 hl]
  · split <;> simp [breakRun_fmon_other 0 hl]

/-- The break is announced before an entry into DEAD of the same event (log 50). -/
theorem nominalChanged_notice_mem {c : Consumer} (hc : c ∈ [Consumer.shd, .rst, .cur, .blk]) :
    .bus c { bus := busAfterBreak s.fmon.bus, prev := s.fmon.bus, brk := true } ∈ (nominalChanged s).notices
      ∧ (deadBusDue s = true →
          .bus c { bus := .dead, prev := busAfterBreak s.fmon.bus, brk := true } ∈ (nominalChanged s).notices) := by
  have hbreak := breakRun_notice_mem s 0 hc
  simp only [nominalChanged, deadBusDue_breakRun]
  split
  next hdue =>
    have hbus : (breakRun 0 s).fmon.bus ≠ .dead := by
      rw [← deadBusDue_breakRun s 0] at hdue
      exact ((deadBusDue_iff _).mp hdue).1
    have ha := enterDead_announced hbus
    rw [breakRun_bus] at ha
    exact ⟨ha.keeps hbreak, fun _ => ha.mem (List.mem_append_left [Consumer.gen] hc)⟩
  next hdue => exact ⟨hbreak, fun h => absurd h hdue⟩

end Nominal

/-! ### Lines after a change of style (R37) -/

section Lines

variable (old : Settings) (s : State) (f : Fin 16)

/-- A feeder's record after its effective style has changed to the one now in force (R37). -/
def restyledFeeder : FeederCtl :=
  if effectiveStyle s.settings f = .maintained then
    { s.feeders[f] with
      trip := false, close := feederStatus s f, commanded := feederStatus s f, pulse := .idle }
  else { s.feeders[f] with trip := false, close := false, pulse := .idle }

theorem lineRestyle_self : (lineRestyle f s).feeders[f] = restyledFeeder s f := by
  unfold lineRestyle restyledFeeder
  cases effectiveStyle s.settings f <;> exact modFeeder_self _ _ _

theorem lineRestyle_other {f k : Fin 16} (h : k ≠ f) : (lineRestyle f s).feeders[k] = s.feeders[k] := by
  unfold lineRestyle
  cases effectiveStyle s.settings f <;> exact modFeeder_other _ _ h

/-- The restyled record of a feeder is a matter of its own record, the settings and the inputs. -/
theorem restyledFeeder_congr {s t : State} {f : Fin 16} (hf : t.feeders[f] = s.feeders[f])
    (hs : t.settings = s.settings) (hi : t.inputs = s.inputs) : restyledFeeder t f = restyledFeeder s f := by
  simp only [restyledFeeder, feederStatus, hf, hs, hi]

/-- The feeders of a list whose effective style has changed are restyled, the others stand. -/
theorem restyle_foldl : ∀ (l : List (Fin 16)) (s : State), l.Nodup →
    (l.foldl (fun t k =>
        if effectiveStyle old k = effectiveStyle t.settings k then t else lineRestyle k t) s).feeders[f] =
      if f ∈ l ∧ effectiveStyle old f ≠ effectiveStyle s.settings f then restyledFeeder s f else s.feeders[f]
  | [], s, _ => by simp
  | k :: l, s, h => by
    obtain ⟨hk, hl⟩ := List.nodup_cons.mp h
    rw [List.foldl_cons, restyle_foldl l _ hl]
    by_cases same : effectiveStyle old k = effectiveStyle s.settings k
    · rw [if_pos same]
      by_cases e : f = k
      · subst e; simp [same]
      · simp [e]
    · have fr := lineRestyle_frame k s
      rw [if_neg same]
      simp only [fr.settings (by decide)]
      by_cases e : f = k
      · subst e
        rw [if_neg (fun h => hk h.1), if_pos ⟨List.mem_cons_self, same⟩, lineRestyle_self]
      · rw [restyledFeeder_congr (lineRestyle_other s e) (fr.settings (by decide)) (fr.inputs (by decide)),
          lineRestyle_other s e]
        simp [e]

theorem linesRestyled_feeder :
    (linesRestyled old s).feeders[f] =
      if effectiveStyle old f = effectiveStyle s.settings f then s.feeders[f] else restyledFeeder s f := by
  rw [linesRestyled, restyle_foldl old f _ s (List.nodup_finRange 16)]
  by_cases e : effectiveStyle old f = effectiveStyle s.settings f <;> simp [e]

end Lines

/-! ### Changed system settings -/

section System

variable (old : Settings) (s : State)

theorem whenChanged_frame {ps : List Part} {act : State → State} (b : Bool) (h : ∀ t, SameBut ps t (act t))
    (s : State) : SameBut ps s (whenChanged b act s) := by
  unfold whenChanged
  exact SameBut.ite (h s) (SameBut.refl ps s)

/-- The effects on points, dispatch and shares (R47, R136, R149). -/
def pointsAndDispatch (b : SystemSettings) (t : State) : State :=
  let a := old.sys
  whenChanged (a.mlMargin != b.mlMargin) recomputeShares
    (whenChanged (a.srMin != b.srMin) evalDispatch
      (whenChanged (a.measTimeoutMs != b.measTimeoutMs) pointsGoStale t))

/-- The effects that follow those on monitor and lines, the last of them on supervision (R183). -/
def laterEffects (b : SystemSettings) (t : State) : State :=
  whenChanged (old.sys.supervision != b.supervision) supervisionChanged (pointsAndDispatch old b t)

theorem pointsAndDispatch_frame (b : SystemSettings) (t : State) :
    SameBut [.meas, .gen, .cur, .evr, .notices, .draws] t (pointsAndDispatch old b t) :=
  (((whenChanged_frame _ pointsGoStale_frame t).widen _ rfl).trans
    ((whenChanged_frame _ evalDispatch_frame _).widen _ rfl)).trans
      ((whenChanged_frame _ recomputeShares_frame _).widen _ rfl)

theorem laterEffects_frame (b : SystemSettings) (t : State) :
    SameBut [.meas, .gen, .cur, .lnk, .evr, .notices, .draws] t (laterEffects old b t) :=
  ((pointsAndDispatch_frame old b t).widen _ rfl).trans
    ((whenChanged_frame _ supervisionChanged_frame _).widen _ rfl)

theorem pointsGoStale_keeps_notice {n : Notice} {t : State} (h : n ∈ t.notices) :
    n ∈ (pointsGoStale t).notices := by
  unfold pointsGoStale
  dsimp only
  split
  · exact h
  · exact (emit_announced _ _ _).keeps h

/-- None of the later effects takes a notice away. -/
theorem laterEffects_keeps_notice (b : SystemSettings) {n : Notice} {t : State} (h : n ∈ t.notices) :
    n ∈ (laterEffects old b t).notices := by
  rw [laterEffects, (whenChanged_frame _ supervisionChanged_frame _).notices (by decide), pointsAndDispatch,
    (whenChanged_frame _ recomputeShares_frame _).notices (by decide),
    (whenChanged_frame _ evalDispatch_frame _).notices (by decide)]
  unfold whenChanged
  split
  · exact pointsGoStale_keeps_notice h
  · exact h

/-- A changed supervision setting reaches of LNK the supervision and its timer alone. -/
theorem supervisionChanged_lnk (t : State) :
    (supervisionChanged t).lnk.mode = t.lnk.mode ∧ (supervisionChanged t).lnk.isLocal = t.lnk.isLocal := by
  unfold supervisionChanged
  dsimp only
  split
  · rw [restoreSupervision_lnk]; exact ⟨rfl, rfl⟩
  · exact ⟨rfl, rfl⟩

theorem laterEffects_lnk (b : SystemSettings) (t : State) :
    (laterEffects old b t).lnk.mode = t.lnk.mode ∧ (laterEffects old b t).lnk.isLocal = t.lnk.isLocal := by
  rw [laterEffects, ← (pointsAndDispatch_frame old b t).lnk (by decide), whenChanged]
  split
  · exact supervisionChanged_lnk _
  · exact ⟨rfl, rfl⟩

/-- The stage thresholds in the range of a nominal frequency (R17, R69). -/
def stagesClamped (n : NominalFreq) (t : Settings) : Settings :=
  { t with stages := { t.stages with threshold := t.stages.threshold.map (clampThreshold n) } }

theorem nominalTaken_eq :
    nominalTaken s = nominalChanged { s with settings := stagesClamped s.settings.sys.fNom s.settings } := rfl

theorem nominalTaken_frame : SameBut [.settings, .fmon, .evr, .notices, .draws] s (nominalTaken s) := by
  rw [nominalTaken_eq]
  simp

theorem nominalTaken_settings : (nominalTaken s).settings = stagesClamped s.settings.sys.fNom s.settings := by
  rw [nominalTaken_eq, (nominalChanged_frame _).settings (by decide)]

end System

/-! ### CONFIGURE_SYSTEM (R189) -/

section SystemWritten

variable (t : SystemSettings) (s : State)

/-- The system settings have been replaced, before any effect. -/
def systemTaken : State := { s with settings := { s.settings with sys := t } }

/-- The state after the effects of the system settings `t`. -/
def systemWritten : State := systemChanged s.settings (systemTaken t s)

/-- What a changed nominal frequency makes of the state with the new settings (R17). -/
def nominalWritten : State := whenChanged (decide (s.settings.sys.fNom ≠ t.fNom)) nominalTaken (systemTaken t s)

theorem nominalWritten_same (h : t.fNom = s.settings.sys.fNom) : nominalWritten t s = systemTaken t s := by
  simp [nominalWritten, whenChanged, h]

theorem nominalWritten_changed (h : t.fNom ≠ s.settings.sys.fNom) :
    nominalWritten t s = nominalTaken (systemTaken t s) := by
  simp [nominalWritten, whenChanged, Ne.symm h]

theorem systemWritten_eq :
    systemWritten t s = laterEffects s.settings t (linesRestyled s.settings (nominalWritten t s)) := rfl

/-- The effects after the monitor's reach neither the monitor nor the settings. -/
theorem systemWritten_frame :
    SameBut [.meas, .feeders, .gen, .cur, .lnk, .evr, .notices, .draws] (nominalWritten t s) (systemWritten t s) :=
  ((linesRestyled_frame _ _).widen _ rfl).trans ((laterEffects_frame _ _ _).widen _ rfl)

theorem nominalWritten_frame : SameBut [.settings, .fmon, .evr, .notices, .draws] s (nominalWritten t s) :=
  have taken : SameBut [.settings] s (systemTaken t s) := by simp [systemTaken]
  (taken.widen _ rfl).trans (whenChanged_frame _ nominalTaken_frame _)

theorem nominalWritten_settings :
    (nominalWritten t s).settings =
      { s.settings with
        sys := t
        stages :=
          if t.fNom = s.settings.sys.fNom then s.settings.stages
          else { s.settings.stages with
            threshold := s.settings.stages.threshold.map (clampThreshold t.fNom) } } := by
  by_cases h : t.fNom = s.settings.sys.fNom
  · rw [nominalWritten_same t s h, if_pos h]
    rfl
  · rw [nominalWritten_changed t s h, nominalTaken_settings, if_neg h]
    rfl

/-- With f_nom as it was the monitor is left alone. -/
theorem systemWritten_fmon_same (h : t.fNom = s.settings.sys.fNom) : (systemWritten t s).fmon = s.fmon := by
  rw [(systemWritten_frame t s).fmon (by decide), nominalWritten_same t s h]
  rfl

/-- The time since the last accepted crossing has reached the new length of the dead-bus timer (R17). -/
theorem deadBusDue_taken (x : Settings) :
    deadBusDue { s with settings := x } = true ↔ s.fmon.bus ≠ .dead
      ∧ ∃ r, s.fmon.reference = some r ∧ deadBusTicks x.sys.fNom ≤ (s.time.capture - r).toNat :=
  deadBusDue_iff { s with settings := x }

theorem systemWritten_nominal (h : t.fNom ≠ s.settings.sys.fNom) :
    ∃ x : Settings, x.sys = t
      ∧ (systemWritten t s).fmon = (nominalChanged { s with settings := x }).fmon
      ∧ ∀ n ∈ (nominalChanged { s with settings := x }).notices, n ∈ (systemWritten t s).notices := by
  refine ⟨stagesClamped t.fNom (systemTaken t s).settings, rfl, ?_, fun n hn => ?_⟩
  · rw [(systemWritten_frame t s).fmon (by decide), nominalWritten_changed t s h]
    rfl
  · rw [systemWritten_eq]
    refine laterEffects_keeps_notice _ _ ?_
    rw [(linesRestyled_frame _ _).notices (by decide), nominalWritten_changed t s h]
    exact hn

theorem systemWritten_feeder (f : Fin 16) :
    (systemWritten t s).feeders[f] =
      if effectiveStyle (systemWritten t s).settings f = effectiveStyle s.settings f then s.feeders[f]
      else if effectiveStyle (systemWritten t s).settings f = .maintained then
        { s.feeders[f] with
          trip := false, close := feederStatus s f, commanded := feederStatus s f, pulse := .idle }
      else { s.feeders[f] with trip := false, close := false, pulse := .idle } := by
  have fr := nominalWritten_frame t s
  have hs : (systemWritten t s).settings = (nominalWritten t s).settings :=
    (systemWritten_frame t s).settings (by decide)
  rw [systemWritten_eq, (laterEffects_frame _ _ _).feeders (by decide), ← systemWritten_eq, linesRestyled_feeder, hs]
  simp only [restyledFeeder, feederStatus, fr.feeders (by decide), fr.inputs (by decide),
    eq_comm (a := effectiveStyle s.settings f)]

theorem systemWritten_lnk :
    (systemWritten t s).lnk.mode = s.lnk.mode ∧ (systemWritten t s).lnk.isLocal = s.lnk.isLocal := by
  obtain ⟨hmode, hlocal⟩ := laterEffects_lnk s.settings t (linesRestyled s.settings (nominalWritten t s))
  have hl := ((linesRestyled_frame s.settings (nominalWritten t s)).lnk (by decide)).trans
    ((nominalWritten_frame t s).lnk (by decide))
  rw [hl] at hmode hlocal
  exact ⟨hmode, hlocal⟩

end SystemWritten

theorem changedTo_eq {α : Type} [DecidableEq α] (a b : α) : changedTo a b = if b = a then none else some b := by
  simp only [changedTo, eq_comm]

/-- The line settings of a reply are those that its request has changed (R176). -/
theorem lineChange_eq_some_iff (a b : SystemSettings) (p : LineChange) :
    lineChange a b = some p ↔
      (b.rateA ≠ a.rateA ∨ b.rateB ≠ a.rateB ∨ b.linkBEnabled ≠ a.linkBEnabled)
        ∧ p.rateA = (if b.rateA = a.rateA then none else some b.rateA)
        ∧ p.rateB = (if b.rateB = a.rateB then none else some b.rateB)
        ∧ p.linkB = (if b.linkBEnabled = a.linkBEnabled then none else some b.linkBEnabled) := by
  obtain ⟨rateA, rateB, linkB⟩ := p
  have same : (a.rateA = b.rateA ∧ a.rateB = b.rateB ∧ a.linkBEnabled = b.linkBEnabled)
      ↔ ¬ (b.rateA ≠ a.rateA ∨ b.rateB ≠ a.rateB ∨ b.linkBEnabled ≠ a.linkBEnabled) := by
    simp only [not_or, not_not, eq_comm]
  simp only [lineChange, same, changedTo_eq]
  split
  next h => simp [h]
  next h => simp only [Option.some.injEq, LineChange.mk.injEq, not_not.mp h, true_and, eq_comm]

section ConfigureSystem

variable {fr : Frame} {s : State}

theorem configureSystem_auto (h : s.lnk.mode = .auto) : configureSystem fr s = refuse .wrongMode s := if_pos h

theorem configureSystem_badItem (h : s.lnk.mode = .monitor)
    (hi : systemItems (systemItemsOf fr) s.settings.sys = none) : configureSystem fr s = refuse .badIndex s := by
  simp only [configureSystem, h, reduceCtorEq, if_false, hi]

theorem configureSystem_items {t : SystemSettings} {clamped : Bool} (h : s.lnk.mode = .monitor)
    (hi : systemItems (systemItemsOf fr) s.settings.sys = some (t, clamped)) :
    configureSystem fr s =
      { state := systemWritten t s, status := okStatus clamped, lines := lineChange s.settings.sys t } := by
  simp only [configureSystem, h, reduceCtorEq, if_false, hi]
  rfl

theorem okStatus_code (clamped : Bool) : (okStatus clamped).code = if clamped then 0x01 else 0x00 := by
  cases clamped <;> rfl

/-- The status tells whether the values written are those that were sent (R182). -/
theorem okStatus_ne {α : Type} [DecidableEq α] (a b : α) :
    okStatus (decide (a ≠ b)) = if a = b then .ok else .okClamped := by
  by_cases h : a = b <;> simp [okStatus, h]

end ConfigureSystem

/-! ### CONFIGURE_STAGES, CONFIGURE_PLAN and CONFIGURE_DIRECTORY (R69, R160) -/

section Others

variable {fr : Frame} {s : State}

theorem configureStages_auto (h : s.lnk.mode = .auto) : configureStages fr s = refuse .wrongMode s := if_pos h

theorem configureStages_monitor (h : s.lnk.mode = .monitor) :
    configureStages fr s =
      (let raw := ShedSettings.ofBytes fr.payload
       let t := raw.clamped s.settings.sys.fNom
       reply (okStatus (decide (t ≠ raw))) (fun _ => []) (stagesWritten t s)) := by
  simp only [configureStages, h, reduceCtorEq, if_false]

theorem stagesWritten_frame (t : ShedSettings) (s : State) : SameBut [.settings, .shd] s (stagesWritten t s) := by
  simp [stagesWritten]

theorem stagesWritten_count (t : ShedSettings) (s : State) (i : Fin 4) :
    (stagesWritten t s).shd.counts[i] =
      if t.threshold[i] = s.settings.stages.threshold[i] then s.shd.counts[i] else 0 := by
  simp [stagesWritten]

theorem configurePlan_bad (h : 4 ≤ fr.byte 0 ∨ stepsOf (fr.byte 1) (fr.payload.drop 2) = none) :
    configurePlan fr s = refuse .badIndex s := by
  rcases h with h | h
  · simp only [configurePlan, objectOf_of_le h]
  · unfold configurePlan
    rw [h]
    cases objectOf 4 (fr.byte 0) <;> rfl

theorem configurePlan_inUse {p : Fin 4} {raw : List PlanStep} (hp : fr.byte 0 = p)
    (hs : stepsOf (fr.byte 1) (fr.payload.drop 2) = some raw) (ha : blkActive s = true) (hr : s.blk.run.plan = some p) :
    configurePlan fr s = refuse .inUse s := by
  simp only [configurePlan, hp, objectOf_val, hs, ha, hr, and_self, if_true]

theorem configurePlan_free {p : Fin 4} {raw : List PlanStep} (hp : fr.byte 0 = p)
    (hs : stepsOf (fr.byte 1) (fr.payload.drop 2) = some raw)
    (hfree : blkActive s = false ∨ s.blk.run.plan ≠ some p) :
    configurePlan fr s =
      reply (okStatus (decide (raw.map PlanStep.clamped ≠ raw))) (fun t => [t.settings.plans[p].inst])
        (planWritten p (raw.map PlanStep.clamped) s) := by
  have h : ¬ (blkActive s = true ∧ s.blk.run.plan = some p) := by
    rcases hfree with h | h <;> simp [h]
  simp only [configurePlan, hp, objectOf_val, hs, if_neg h]

/-- The reply to CONFIGURE_PLAN shows the increased count of the plan (R160). -/
theorem conclude_planWritten_inst (p : Fin 4) (steps : List PlanStep) (s : State) :
    (conclude (planWritten p steps s)).settings.plans[p].inst = s.settings.plans[p].inst + 1 := by
  rw [conclude_settings]
  simp [planWritten]

theorem configureDirectory_bad (h : directoryOf fr.payload = none) : configureDirectory fr s = refuse .badIndex s := by
  simp only [configureDirectory, h]

theorem configureDirectory_written {d : Vector (Option (Fin 4)) 4} (h : directoryOf fr.payload = some d) :
    configureDirectory fr s = reply .ok (fun _ => []) { s with settings := { s.settings with directory := d } } := by
  simp only [configureDirectory, h]

end Others

/-! ### The statement of the configuring requests -/

section Statement

variable {fr : Frame} {s : State}

theorem configureSystem_accepted {t : SystemSettings} {clamped : Bool} (acc : Accepts .configure fr (systemLength fr) s)
    (hm : s.lnk.mode = .monitor) (hi : systemItems (systemItemsOf fr) s.settings.sys = some (t, clamped)) :
    exec (.configureSystem fr) s =
      .next (modLink fr.link
        (LinkCtl.enqueue
          { kind := 0xC0, tag := fr.tag, payload := [if clamped then 0x01 else 0x00]
            lines := lineChange s.settings.sys t })
        (conclude (systemWritten t (superviseFrame fr.link s)))) := by
  have hperform := configureSystem_items (s := superviseFrame fr.link s) (by rw [superviseFrame_mode]; exact hm)
    (by rw [superviseFrame_settings]; exact hi)
  refine next_congr ((request_accepted acc).trans ?_)
  rw [hperform, superviseFrame_settings, ← okStatus_code]
  rfl

/-- The monitor and the notices of the break after a CONFIGURE_SYSTEM has changed f_nom (R17). -/
theorem systemWritten_break {t : SystemSettings} (hn : t.fNom ≠ s.settings.sys.fNom) {elapsed : Prop}
    [Decidable elapsed]
    (he : elapsed ↔ s.fmon.bus ≠ .dead
      ∧ ∃ r, s.fmon.reference = some r ∧ deadBusTicks t.fNom ≤ (s.time.capture - r).toNat) :
    (systemWritten t s).fmon =
        (let broken := { s.fmon with periodRing := [], freqRing := [], present := none }
         if elapsed then { broken with bus := .dead, origin := .none, reference := none }
         else if s.fmon.bus = .live then { broken with bus := .settling, origin := .fromBreak }
         else broken)
      ∧ (∀ c ∈ [Consumer.shd, .rst, .cur, .blk],
          .bus c { bus := busAfterBreak s.fmon.bus, prev := s.fmon.bus, brk := true } ∈ (systemWritten t s).notices
            ∧ (elapsed → .bus c { bus := .dead, prev := busAfterBreak s.fmon.bus, brk := true }
                ∈ (systemWritten t s).notices)) := by
  obtain ⟨x, hx, hfmon, hkeeps⟩ := systemWritten_nominal t s hn
  have hdue : deadBusDue { s with settings := x } = true ↔ elapsed := by rw [deadBusDue_taken, hx, he]
  refine ⟨?_, fun c hc => ?_⟩
  · rw [hfmon, nominalChanged_fmon]
    simp only [hdue]
  · obtain ⟨hbreak, hdead⟩ := nominalChanged_notice_mem { s with settings := x } hc
    exact ⟨hkeeps _ hbreak, fun h => hkeeps _ (hdead (hdue.mpr h))⟩

end Statement

/-- Settles O59: each request by what its block makes of the state in which LNK has noted the frame. -/
theorem configureSystemStagesAndPlans : Obligations.ConfigureSystemStagesAndPlans := by
  intro fr s
  have mode {m : Mode} (e : s.lnk.mode = m) : (superviseFrame fr.link s).lnk.mode = m := by
    rw [superviseFrame_mode, e]
  refine ⟨fun acc => ⟨fun hm => ?_, fun hm hi => ?_, fun t clamped hm hi => ?_⟩,
    fun acc => ⟨fun hm => ?_, fun hm => ?_⟩, fun acc hbad => ?_,
    fun acc p raw hp hs => ⟨fun ha hr => ?_, fun hfree => ?_⟩, fun acc => ⟨fun hd => ?_, fun d hd => ?_⟩⟩
  · exact next_congr (request_refused acc (configureSystem_auto (mode hm)))
  · refine next_congr (request_refused acc (configureSystem_badItem (mode hm) ?_))
    rw [superviseFrame_settings]
    exact hi
  · have hfeeder := systemWritten_feeder t (superviseFrame fr.link s)
    have hbreak (hn : t.fNom ≠ s.settings.sys.fNom) :=
      systemWritten_break (s := superviseFrame fr.link s) (t := t) (by rwa [superviseFrame_settings]) Iff.rfl
    have hsame (hn : t.fNom = s.settings.sys.fNom) :=
      systemWritten_fmon_same t (superviseFrame fr.link s) (by rwa [superviseFrame_settings])
    obtain ⟨hmode, hlocal⟩ := systemWritten_lnk t (superviseFrame fr.link s)
    simp only [superviseFrame_settings, superviseFrame_fmon, superviseFrame_time, superviseFrame_feeders, feederStatus,
      superviseFrame_inputs] at hfeeder hbreak hsame
    refine ⟨systemWritten t (superviseFrame fr.link s), configureSystem_accepted acc hm hi, ?_,
      lineChange_eq_some_iff s.settings.sys t, hsame, hbreak, hfeeder, hmode.trans (mode hm),
      hlocal.trans (superviseFrame_isLocal _ _)⟩
    rw [(systemWritten_frame _ _).settings (by decide), nominalWritten_settings, superviseFrame_settings]
  · exact next_congr (request_refused acc (configureStages_auto (mode hm)))
  · refine ⟨stagesWritten ((ShedSettings.ofBytes fr.payload).clamped s.settings.sys.fNom) (superviseFrame fr.link s),
      next_congr ?_, ?_, fun i => ?_, ?_, ?_, stagesWritten_frame _ _⟩
    · rw [request_performed acc (configureStages_monitor (mode hm)), okStatus_ne, superviseFrame_settings]
    · simp only [stagesWritten, modShd_settings, superviseFrame_settings]
    · rw [stagesWritten_count, superviseFrame_settings, superviseFrame_shd]
    · simp [stagesWritten]
    · simp [stagesWritten]
  · exact next_congr (request_refused acc (configurePlan_bad hbad))
  · refine next_congr (request_refused acc (configurePlan_inUse hp hs ?_ ?_))
    · simpa [blkActive] using ha
    · rw [superviseFrame_blk]
      exact hr
  · refine ⟨planWritten p (raw.map PlanStep.clamped) (superviseFrame fr.link s), next_congr ?_, ?_, ?_⟩
    · rw [request_performed acc (configurePlan_free hp hs ?_), okStatus_ne, conclude_planWritten_inst,
        superviseFrame_settings]
      simpa only [blkActive, superviseFrame_blk] using hfree
    · simp only [planWritten, superviseFrame_settings]
    · simp [planWritten]
  · exact next_congr (request_refused acc (configureDirectory_bad hd))
  · refine ⟨{ superviseFrame fr.link s with settings := { s.settings with directory := d } },
      next_congr ?_, rfl, by simp⟩
    rw [request_performed acc (configureDirectory_written hd), superviseFrame_settings]

end Sys2Proof.Machine

/-! ## An idle step: the part's own time -/

namespace Sys2Proof.Machine

/-! ### One tick of the reference (R1, R154) -/

section Tick

variable {s : State}

/-- With nothing due, an idle step is one tick of the reference (log 1). -/
theorem step_tick (hp : s.pending = []) (hh : happenings s = []) : step s = .next (referenceTick s) := by
  simp only [step, hp, idle, hh, List.getElem?_nil]

/-- The counts of one tick of the reference, before a millisecond that ends with it. -/
def countsTick (s : State) : State :=
  { s with
    time := { s.time with capture := s.time.capture + 1, sub := s.time.sub + 1 }
    cur := { s.cur with
      channels :=
        match s.phase with
        | .loading => s.cur.channels
        | .running => s.cur.channels.map fun c => { c with pwm := c.pwm.tick } } }

theorem referenceTick_eq (s : State) :
    referenceTick s = if 10000 ≤ s.time.sub + 1 then millisecond (countsTick s) else countsTick s := by
  unfold referenceTick countsTick
  cases s.phase <;> rfl

theorem countsTick_channel (s : State) (j : Fin 6) :
    (countsTick s).cur.channels[j] =
      (let c := s.cur.channels[j]
       if s.phase = .running then { c with pwm := { c.pwm with pos := c.pwm.pos + 1 } } else c) := by
  unfold countsTick
  cases s.phase <;> simp [Pwm.tick]

end Tick

/-! ### The ticks of the measurement table (R45) -/

section Table

variable (s : State)

/-- A fresh point that the next tick of the table makes older than the timeout (R45). -/
def goesStale (s : State) (p : Point) : Prop :=
  p.stale = false ∧ s.settings.sys.measTimeoutMs < min 65535 (p.age + 1)

theorem overAge_agePoint (p : Point) : overAge (agePoints s) (agePoint p) = true ↔ goesStale s p := by
  simp [overAge, goesStale, agePoint, agePoints]

/-- Points become stale at the next tick exactly when some fresh point passes the timeout (R45). -/
theorem goingStale_isEmpty_iff :
    (goingStale s).isEmpty = true ↔
      ¬ ((∃ k : Fin 16, goesStale s s.meas.feeders[k]) ∨ (∃ g : Fin 4, goesStale s s.meas.sets[g])
        ∨ ∃ j : Fin 6, goesStale s s.meas.channels[j]) := by
  have hfeeder (k : Fin 16) : (agePoints s).meas.feeders[k] = agePoint s.meas.feeders[k] := by simp [agePoints]
  have hset (g : Fin 4) : (agePoints s).meas.sets[g] = agePoint s.meas.sets[g] := by simp [agePoints]
  have hchannel (j : Fin 6) : (agePoints s).meas.channels[j] = agePoint s.meas.channels[j] := by simp [agePoints]
  simp only [goingStale, staleNames, PointNames.isEmpty, Bool.and_eq_true, List.isEmpty_iff, List.filter_eq_nil_iff,
    List.mem_finRange, true_imp_iff, hfeeder, hset, hchannel, overAge_agePoint, not_or, not_exists, and_assoc]

/-- Some fresh point passes the timeout at the next tick of the table (R45). -/
def pointsPass : Prop :=
  (∃ k : Fin 16, goesStale s s.meas.feeders[k]) ∨ (∃ g : Fin 4, goesStale s s.meas.sets[g])
    ∨ ∃ j : Fin 6, goesStale s s.meas.channels[j]

/-- A tick at which points become stale is the command that comes next (log 3). -/
theorem tableTick_pass (h : pointsPass s) : tableTick s = { s with pending := .pointsBecomeStale :: s.pending } :=
  if_neg fun k => (goingStale_isEmpty_iff s).mp k h

/-- At another tick every point ages (R45). -/
theorem tableTick_age (h : ¬ pointsPass s) : tableTick s = agePoints s := if_pos ((goingStale_isEmpty_iff s).mpr h)

theorem exists_tableTick_eq : ∃ m p, tableTick s = { s with meas := m, pending := p } := by
  unfold tableTick
  split <;> exact ⟨_, _, rfl⟩

end Table

/-! ### A millisecond of part time -/

section Millisecond

variable (s : State)

/-- A sample changes no debounced value (R23). -/
theorem setRunning_sampled (m : MeasTable) (p : List Instr) (g : Fin 4) :
    setRunning (sampleInputs { s with meas := m, pending := p }) g = setRunning s g := by
  simp [setRunning, sampleInputs, sampleInput]

/-- The blocks after a millisecond, each part by itself. -/
theorem blocksTick_eq :
    blocksTick s =
      { s with
        inputs := (sampleInputs s).inputs, meas := (tableTick s).meas, pending := (tableTick s).pending
        feeders := s.feeders.map FeederCtl.tick
        shd := { s.shd with holdoff := s.shd.holdoff.tick }
        rst :=
          { s.rst with
            delay := s.rst.delay.tick, interval := s.rst.interval.tick, startDelay := s.rst.startDelay.tick }
        gen :=
          { s.gen with
            sets := Vector.ofFn fun g => s.gen.sets[g].tick (setRunning s g)
            lowReserve := s.gen.lowReserve.tick, stopTimer := s.gen.stopTimer.tick }
        cur := { s.cur with rampDue := s.cur.rampDue || s.time.tenth == 0 }
        blk :=
          { s.blk with
            confirm := s.blk.confirm.tick
            run :=
              { s.blk.run with
                stepTimer := s.blk.run.stepTimer.tick, waitTimer := s.blk.run.waitTimer.tick } }
        lnk :=
          { s.lnk with
            linkA := s.lnk.linkA.tick, linkB := s.lnk.linkB.tick, supTimer := s.lnk.supTimer.tick }
        sto := { s.sto with write := s.sto.write.map fun w => { w with left := w.left.tick } } } := by
  unfold blocksTick
  obtain ⟨m, p, e⟩ := exists_tableTick_eq s
  simp only [e, setRunning_sampled]
  simp only [sampleInputs]

/-- The counts of time at a millisecond (R1, R151, R198). -/
def millisecondTime : TimeBase :=
  { capture := s.time.capture + 1, part := s.time.part + 1, sub := 0, tenth := (s.time.tenth + 1) % 100
    load := s.time.load.tick }

/-- The state that the blocks' millisecond begins with. -/
def millisecondBegun : State := { countsTick s with time := millisecondTime s }

variable {s}

theorem referenceTick_between (h : s.time.sub + 1 < 10000) : referenceTick s = countsTick s := by
  rw [referenceTick_eq, if_neg (by omega)]

theorem millisecond_loading (h : s.phase = .loading) :
    millisecond s =
      { s with time :=
          { s.time with
            part := s.time.part + 1, sub := 0, tenth := (s.time.tenth + 1) % 100, load := s.time.load.tick } } := by
  unfold millisecond
  dsimp only
  split
  · rfl
  next hr => exact absurd (h.symm.trans hr) (by decide)

theorem millisecond_running (h : s.phase = .running) :
    millisecond s =
      blocksTick { s with time :=
          { s.time with
            part := s.time.part + 1, sub := 0, tenth := (s.time.tenth + 1) % 100, load := s.time.load.tick } } := by
  unfold millisecond
  dsimp only
  split
  next hl => exact absurd (h.symm.trans hl) (by decide)
  · rfl

/-- While the settings load runs, a millisecond changes time alone (R198). -/
theorem referenceTick_loading (h : 10000 ≤ s.time.sub + 1) (hl : s.phase = .loading) :
    referenceTick s = millisecondBegun s := by
  rw [referenceTick_eq, if_pos h, millisecond_loading (s := countsTick s) hl]
  rfl

theorem referenceTick_running (h : 10000 ≤ s.time.sub + 1) (hr : s.phase = .running) :
    referenceTick s = blocksTick (millisecondBegun s) := by
  rw [referenceTick_eq, if_pos h, millisecond_running (s := countsTick s) hr]
  rfl

variable (s)

/-- One sample of an input leaves its debounced value and marks a change that is due (R21, R23). -/
theorem sampleInputs_input (i : Fin 32) :
    (sampleInputs s).inputs[i] =
      (let a := s.inputs[i]
       let n := if a.raw = a.prev then min 255 (a.counter + 1) else 0
       { a with
         prev := a.raw, counter := n
         changeDue := decide (a.raw ≠ a.debounced ∧ s.settings.inputs[i].debounce ≤ n) }) := by
  simp [sampleInputs, sampleInput, bne, Bool.beq_eq_decide_eq]

theorem SetCtl.tick_eq (running : Bool) (c : SetCtl) :
    c.tick running = { c with timer := c.timer.tick, partHour := c.partHour + if running then 1 else 0 } := by
  cases running <;> rfl

/-- What a tick of the reference is: between milliseconds, at one of a loading part, and at one of a running part. -/
theorem referenceTick_cases :
    referenceTick s = countsTick s ∨ referenceTick s = millisecondBegun s
      ∨ referenceTick s = blocksTick (millisecondBegun s) := by
  rcases Nat.lt_or_ge (s.time.sub + 1) 10000 with h | h
  · exact Or.inl (referenceTick_between h)
  · cases hp : s.phase with
    | loading => exact Or.inr (Or.inl (referenceTick_loading h hp))
    | running => exact Or.inr (Or.inr (referenceTick_running h hp))

theorem referenceTick_capture : (referenceTick s).time.capture = s.time.capture + 1 := by
  rcases referenceTick_cases s with e | e | e <;> rw [e]
  · rfl
  · rfl
  · rw [blocksTick_eq]
    rfl

theorem referenceTick_channels : (referenceTick s).cur.channels = (countsTick s).cur.channels := by
  rcases referenceTick_cases s with e | e | e <;> rw [e]
  · rfl
  · rw [blocksTick_eq]
    rfl

/-- The commands that a tick of the reference brings: none but the tick at which points become stale. -/
theorem referenceTick_pending :
    (referenceTick s).pending = s.pending ∨ (referenceTick s).pending = .pointsBecomeStale :: s.pending := by
  rcases referenceTick_cases s with e | e | e <;> rw [e]
  · exact Or.inl rfl
  · exact Or.inl rfl
  · rw [blocksTick_eq]
    by_cases h : pointsPass (millisecondBegun s)
    · rw [tableTick_pass _ h]
      exact Or.inr rfl
    · rw [tableTick_age _ h]
      exact Or.inl rfl

end Millisecond

/-! ### What comes next (logs 1 to 3) -/

section Next

theorem mem_dueWhen {cond : Bool} {c d : Instr} : d ∈ dueWhen cond c ↔ cond = true ∧ d = c := by
  cases cond <;> simp [dueWhen]

/-- The changes of a sample are those that stand as due, each at the sampled level (R21). -/
theorem mem_sampleChanges (s : State) (i : Fin 32) (level : Bool) :
    Instr.debouncedChange i level ∈ sampleChanges s ↔
      s.inputs[i].changeDue = true ∧ level = s.inputs[i].prev := by
  simp only [sampleChanges, List.mem_flatMap, List.mem_finRange, true_and, mem_dueWhen, Instr.debouncedChange.injEq]
  constructor
  · rintro ⟨k, hk, rfl, hl⟩
    exact ⟨hk, hl⟩
  · rintro ⟨hd, hl⟩
    exact ⟨i, hd, rfl, hl⟩

/-- A command is the debounced change of an input. -/
def inputChange : Instr → Bool
  | .debouncedChange _ _ => true
  | _ => false

theorem any_dueWhen (cond : Bool) (c : Instr) : (dueWhen cond c).any inputChange = (cond && inputChange c) := by
  cases cond <;> simp [dueWhen]

theorem any_dueOfSet (s : State) (g : Fin 4) : (dueOfSet s g).any inputChange = false := by
  have expiry (x : SetState) : (stateExpiry g x).toList.any inputChange = false := by cases x <;> rfl
  rw [dueOfSet, List.any_append, any_dueWhen]
  split
  · rw [expiry]; simp [inputChange]
  · simp [inputChange]

theorem any_dueOfFeeder (s : State) (f : Fin 16) : (dueOfFeeder s f).any inputChange = false := by
  simp [dueOfFeeder, any_dueWhen, inputChange]

theorem any_dueOfChannel (s : State) (j : Fin 6) : (dueOfChannel s j).any inputChange = false := by
  simp [dueOfChannel, any_dueWhen, inputChange]

theorem any_dueOfLink (s : State) (l : Link) : (dueOfLink s l).any inputChange = false := by
  simp [dueOfLink, any_dueWhen, inputChange]

theorem any_creditDue (l : List CreditItem) :
    (l.map fun c => Instr.creditItemExpiry c.feeder).any inputChange = false := by
  simp [inputChange]

/-- A change of a sample is not among the commands that come due in the blocks. -/
theorem any_dueInBlocks (s : State) : (dueInBlocks s).any inputChange = false := by
  have all {α : Type} {l : List α} : (l.any fun _ => false) = false := by simp
  unfold dueInBlocks
  simp only [List.any_append, List.any_flatMap, any_dueWhen, any_dueOfFeeder, any_dueOfSet, any_dueOfChannel,
    any_dueOfLink, any_creditDue, all, Bool.or_false]
  simp only [inputChange, Bool.and_false, Bool.or_false]

/-- The bytes of a line complete no change of an input (R177). -/
theorem commandOfFrame_ne (kind : Byte) (f : Frame) (i : Fin 32) (level : Bool) :
    commandOfFrame kind f ≠ .debouncedChange i level := by
  fun_cases commandOfFrame kind f <;> exact Instr.noConfusion

theorem receiveByte_ne (l : Link) (b : Byte) (r : Receiver) (i : Fin 32) (level : Bool) :
    (receiveByte l b r).2 ≠ some (.debouncedChange i level) := by
  fun_cases receiveByte l b r
  all_goals simp [commandOfFrame_ne]

/-- At most one command waits, and it is no change of an input. -/
def loneEvent (l : List Instr) : Prop := ∀ c ∈ l, l = [c] ∧ ∀ i level, c ≠ .debouncedChange i level

theorem loneEvent_nil : loneEvent [] := fun _ h => absurd h List.not_mem_nil

theorem loneEvent_singleton {c : Instr} (h : ∀ i level, c ≠ .debouncedChange i level) : loneEvent [c] := by
  intro d hd
  rw [List.mem_singleton.mp hd]
  exact ⟨rfl, h⟩

theorem loneEvent_toList {o : Option Instr} (h : ∀ i level, o ≠ some (.debouncedChange i level)) :
    loneEvent o.toList := by
  cases o with
  | none => exact loneEvent_nil
  | some c => exact loneEvent_singleton fun i level e => h i level (congrArg some e)

/-- A command that comes due by itself is no change of an input. -/
theorem command_ne_of_happening {s : State} {c : Instr} (h : .command c ∈ happenings s) (i : Fin 32) (level : Bool) :
    c ≠ .debouncedChange i level := by
  rintro rfl
  have hbytes : .command (.debouncedChange i level) ∉ waitingBytes s := by
    unfold waitingBytes
    split <;> split <;> simp
  have hdue := any_dueInBlocks s
  unfold happenings at h
  rcases (List.mem_append.mp h).resolve_right hbytes with h
  split at h
  · simp [mem_dueWhen] at h
  · have hsample :
        .command (.debouncedChange i level) ∉ if (sampleChanges s).isEmpty then [] else [Happening.sample] := by
      split <;> simp
    obtain ⟨d, hd, e⟩ := List.mem_map.mp ((List.mem_append.mp h).resolve_left hsample)
    rw [List.any_eq_false] at hdue
    exact hdue d hd (by cases e; rfl)

/-- A byte that is received brings the command that it completes, if any (R177). -/
theorem takeByte_pending {s : State} (l : Link) (h : s.pending = []) : loneEvent (takeByte l s).pending := by
  have kept (m : LinkCtl → LinkCtl) : loneEvent (modLink l m s).pending := by
    rw [(modLink_frame l m s).pending (by decide), h]
    exact loneEvent_nil
  unfold takeByte
  split
  · exact kept _
  · unfold receiveNext
    dsimp only
    split
    · rw [h]
      exact loneEvent_nil
    · split
      · rw [(modLink_frame l _ s).pending (by decide), h, List.append_nil]
        exact loneEvent_toList fun i level => receiveByte_ne l _ _ i level
      · exact kept _

/-- What an idle step brings into the queue: all changes of one sample, or at most one other command (logs 1, 3). -/
theorem idle_pending {s : State} (h : s.pending = []) :
    (idle s).pending.Perm (sampleChanges s) ∨ loneEvent (idle s).pending := by
  unfold idle
  dsimp only
  split
  · refine Or.inr ?_
    rcases referenceTick_pending s with e | e <;> rw [e, h]
    · exact loneEvent_nil
    · exact loneEvent_singleton fun _ _ => Instr.noConfusion
  next c e => exact Or.inr (loneEvent_singleton (command_ne_of_happening (List.mem_of_getElem? e)))
  next => exact Or.inl (permute_perm _ _)
  next l e => exact Or.inr (takeByte_pending l h)

end Next

/-! ### The statement of an idle step -/

/-- Settles O2: the tick between milliseconds, the millisecond of a loading and of a running part, and what an idle step
brings into the queue. -/
theorem idleStepIsOneTick : Obligations.IdleStepIsOneTick := by
  refine ⟨fun s hp hh => ⟨referenceTick s, step_tick hp hh, ?_, ?_, fun hsub => ?_, fun hsub => ?_⟩,
    fun n => ⟨rfl, rfl⟩, rfl, rfl, fun s t hp ht => ?_, mem_sampleChanges⟩
  · exact referenceTick_capture s
  · rw [referenceTick_channels]
    exact countsTick_channel s
  · rw [referenceTick_between hsub]
    exact ⟨rfl, rfl, by simp [countsTick]⟩
  · refine ⟨?_, fun hl => ?_, fun hr => ?_⟩
    · cases hph : s.phase with
      | loading => rw [referenceTick_loading hsub hph]; rfl
      | running => rw [referenceTick_running hsub hph, blocksTick_eq]; rfl
    · rw [referenceTick_loading hsub hl]
      have hc : countsTick s = { s with time := (countsTick s).time } := by
        simp only [countsTick, hl]
      rw [millisecondBegun, hc]
      simp
    · rw [referenceTick_running hsub hr, blocksTick_eq]
      refine ⟨sampleInputs_input (millisecondBegun s), ⟨fun hpass => ?_, fun hquiet => ?_⟩, fun k => ?_, rfl, rfl,
        fun g => ?_, rfl, ?_, rfl, fun l => ?_, rfl, rfl, ?_⟩
      · rw [tableTick_pass (millisecondBegun s) hpass]
        exact ⟨rfl, congrArg _ hp⟩
      · rw [tableTick_age (millisecondBegun s) hquiet]
        refine ⟨fun k => ?_, fun g => ?_, fun j => ?_, hp⟩
        all_goals simp [agePoints, millisecondBegun, countsTick, agePoint]
      · simp [millisecondBegun, countsTick, FeederCtl.tick]
      · rw [Fin.getElem_fin, Vector.getElem_ofFn]
        exact SetCtl.tick_eq (setRunning s g) s.gen.sets[g]
      · rfl
      · cases l <;> rfl
      · simp [millisecondBegun, countsTick]
  · simp only [step, hp, Host.Outcome.next.injEq] at ht
    subst ht
    exact idle_pending hp

end Sys2Proof.Machine

/-! ## The law of the feeder lines -/

namespace Sys2Proof.Machine

/-! ### What the law speaks of (R34 to R37) -/

/-- The parts that the law of the feeder lines does not speak of: all but the feeders and the settings. -/
def offLines : List Part :=
  [.phase, .time, .fmon, .inputs, .meas, .shd, .rst, .gen, .cur, .blk, .lnk, .evr, .sto, .notices, .draws, .pending]

@[simp] theorem mem_offLines (p : Part) : p ∈ offLines ↔ p ≠ .feeders ∧ p ≠ .settings := by
  cases p <;> decide

section Rules

variable {s t : State}

/-- The law is a matter of the feeders' records and of their effective styles. -/
theorem LinesLaw.congr (h : LinesLaw s) (hs : ∀ f : Fin 16, effectiveStyle t.settings f = effectiveStyle s.settings f)
    (hf : t.feeders = s.feeders) : LinesLaw t := by
  intro f
  rw [hs f, hf]
  exact h f

/-- What leaves feeders and settings alone keeps the law. -/
theorem LinesLaw.after (h : LinesLaw s) (k : SameBut offLines s t) : LinesLaw t :=
  h.congr (fun f => by rw [k.settings (by decide)]) (k.feeders (by decide))

/-- The law stands when one feeder's record is replaced by one whose lines are right. -/
theorem LinesLaw.set (h : LinesLaw s) {f : Fin 16} {c : FeederCtl} (hs : t.settings = s.settings)
    (hf : t.feeders = s.feeders.set f c) (hc : LinesOk (effectiveStyle s.settings f) c) : LinesLaw t := by
  intro k
  rw [hs, hf]
  by_cases e : k = f
  · subst e
    simpa using hc
  · have hv : f.val ≠ k.val := fun e' => e (Fin.ext e'.symm)
    simpa [hv] using h k

theorem LinesLaw.ite {c : Prop} [Decidable c] (hs : LinesLaw s) (ht : LinesLaw t) : LinesLaw (if c then s else t) := by
  split
  · exact hs
  · exact ht

theorem modFeeder_lines (h : LinesLaw s) {f : Fin 16} {m : FeederCtl → FeederCtl}
    (hm : LinesOk (effectiveStyle s.settings f) (m s.feeders[f])) : LinesLaw (modFeeder f m s) :=
  h.set rfl rfl hm

/-- Lines that are both released are right in PULSE style. -/
theorem linesOk_released (c : FeederCtl) : LinesOk .pulse { c with trip := false, close := false, pulse := .idle } := by
  simp [LinesOk]

/-- A line command gives lines that are right: in PULSE style one line with its pulse, in MAINTAINED style CLOSE at the
commanded position (R35, R36). -/
theorem lineCommand_lines (h : LinesLaw s) (f : Fin 16) (closed : Bool) : LinesLaw (lineCommand f closed s) := by
  have hf := h f
  unfold lineCommand
  split
  next e => exact modFeeder_lines h (by cases closed <;> simp [LinesOk, e, Timer.isRunning])
  next e =>
    rw [e] at hf
    obtain ⟨-, -, hm⟩ := hf
    have hp : s.feeders[f].pulse = .idle := (hm rfl).2.2
    exact modFeeder_lines h ⟨by simp, by simp [e], fun _ => ⟨rfl, rfl, hp⟩⟩

theorem lineAlign_lines (h : LinesLaw s) (f : Fin 16) (closed : Bool) : LinesLaw (lineAlign f closed s) := by
  unfold lineAlign
  split
  · exact h
  · exact lineCommand_lines h f closed

/-- The lines of a feeder that has taken another style are right in it (R37). -/
theorem restyledFeeder_linesOk (s : State) (f : Fin 16) : LinesOk (effectiveStyle s.settings f) (restyledFeeder s f) := by
  unfold restyledFeeder
  cases e : effectiveStyle s.settings f with
  | pulse => exact linesOk_released _
  | maintained => simp [LinesOk]

theorem pulseEnds_lines (h : LinesLaw s) (f : Fin 16) : LinesLaw (pulseEnds f s) := by
  unfold pulseEnds
  split
  next hr =>
    cases e : effectiveStyle s.settings f with
    | pulse => exact modFeeder_lines h (e ▸ linesOk_released _)
    | maintained =>
      have hf := h f
      rw [e] at hf
      obtain ⟨-, -, hm⟩ := hf
      rw [(hm rfl).2.2] at hr
      exact absurd hr (by decide)
  next => exact h

/-! ### Feeder states (chapter 4) -/

/-- A change of a feeder's state moves no line. -/
theorem changeFeeder_lines (h : LinesLaw s) (f : Fin 16) (new : FeederState) (c : FeederCause) :
    LinesLaw (changeFeeder f new c s) :=
  h.set ((changeFeeder_frame f new c s).settings (by decide)) (changeFeeder_feeder f new c s) (h f)

theorem beginOperation_lines (h : LinesLaw s) (f : Fin 16) (closing : Bool) (o : OpOrigin) :
    LinesLaw (beginOperation f closing o s) :=
  changeFeeder_lines (lineCommand_lines (modFeeder_lines h (h f)) f closing) f _ _

theorem acceptPosition_lines (h : LinesLaw s) (f : Fin 16) (closed : Bool) : LinesLaw (acceptPosition f closed s) :=
  changeFeeder_lines (lineAlign_lines h f closed) f _ _

theorem operate_lines (h : LinesLaw s) (f : Fin 16) (closing : Bool) (o : OpOrigin) :
    LinesLaw (operate f closing o s).1 := by
  have begun : ∀ b, LinesLaw (beginOperation f b o s) := fun b => beginOperation_lines h f b o
  have accepted : ∀ b, LinesLaw (acceptPosition f b s) := fun b => acceptPosition_lines h f b
  unfold operate
  cases s.feeders[f].state with
  | failed dir => cases dir <;> cases closing <;> simp [begun, accepted]
  | _ => cases closing <;> simp [h, begun]

/-- The state that a request for an operation is seen to leave. -/
theorem lines_of_operate {f : Fin 16} {closing : Bool} {o : OpOrigin} {r : OpOutcome} (h : LinesLaw s)
    (e : operate f closing o s = (t, r)) : LinesLaw t := by
  have k := operate_lines h f closing o
  rwa [e] at k

theorem operateTimerExpires_lines (h : LinesLaw s) (f : Fin 16) : LinesLaw (operateTimerExpires f s) := by
  have idle := modFeeder_lines (f := f) (m := fun c => { c with timer := .idle }) h (h f)
  unfold operateTimerExpires
  dsimp only
  split
  · exact changeFeeder_lines (idle.after (by simp)) f _ _
  · exact changeFeeder_lines (idle.after (by simp)) f _ _
  · exact h

theorem feederStatusChange_lines (h : LinesLaw s) (f : Fin 16) (level : Bool) :
    LinesLaw (feederStatusChange f level s) := by
  have operated := modFeeder_lines (f := f) (m := fun c => { c with operated := true }) h (h f)
  have idle := modFeeder_lines (f := f) (m := fun c => { c with timer := .idle }) operated (operated f)
  have align {t : State} (k : LinesLaw t) (c : FeederCause) :
      LinesLaw (changeFeeder f (stateOfStatus level) c (lineAlign f level t)) :=
    changeFeeder_lines (lineAlign_lines k f level) f _ _
  unfold feederStatusChange
  dsimp only
  split
  · exact changeFeeder_lines idle f _ _
  · exact changeFeeder_lines idle f _ _
  · split
    · exact operated
    · exact align (operated.after (by simp)) _
  · split
    · exact operated
    · exact align (operated.after (by simp)) _
  · exact align (operated.after (by simp)) _
  · exact operated

theorem feederServiceChange_lines (h : LinesLaw s) (f : Fin 16) : LinesLaw (feederServiceChange f s) := by
  unfold feederServiceChange
  dsimp only
  split
  · exact changeFeeder_lines (lineAlign_lines h f _) f _ _
  · exact changeFeeder_lines (modFeeder_lines h (h f)) f _ _

/-! ### The restorer (chapter 6) -/

theorem restoreClose_lines (h : LinesLaw s) (i : Nat) (x : StackItem) : LinesLaw (restoreClose i x s) := by
  unfold restoreClose
  split
  next e => exact (lines_of_operate (h.after (by simp)) e).after (by simp)
  next => exact h

theorem examine_lines : ∀ (n : Nat) {s : State}, LinesLaw s → LinesLaw (examine n s)
  | 0, s, h => h.after (by simp [examine])
  | n + 1, s, h => by
    have k : LinesLaw (keepEpisode s) := h.after (by simp)
    unfold examine
    dsimp only
    repeat' split
    · exact k
    · exact k
    · exact k.after (by simp)
    · exact examine_lines n (k.after (by simp))
    · exact restoreClose_lines k _ _
    · exact k

theorem restorerTurn_lines (h : LinesLaw s) : LinesLaw (restorerTurn s) := examine_lines _ h

theorem push_lines (h : LinesLaw s) (k : EntryKind) (v : Int) (f : Nat) (l : List StackItem) :
    LinesLaw (push k v f l s) :=
  restorerTurn_lines (h.after (by simp))

theorem pushHeader_lines (h : LinesLaw s) : LinesLaw (pushHeader s) := restorerTurn_lines (h.after (by simp))

theorem removeHeader_lines (h : LinesLaw s) : LinesLaw (removeHeader s) := by
  unfold removeHeader
  split
  · exact restorerTurn_lines (h.after (by simp))
  · exact h

theorem restoreDelayExpires_lines (h : LinesLaw s) : LinesLaw (restoreDelayExpires s) := by
  unfold restoreDelayExpires
  split
  · exact restorerTurn_lines (h.after (by simp))
  · exact h

theorem intervalExpires_lines (h : LinesLaw s) : LinesLaw (intervalExpires s) := by
  unfold intervalExpires
  split
  · exact restorerTurn_lines (h.after (by simp))
  · exact h

theorem rstOnBus_lines (h : LinesLaw s) (n : BusNotice) : LinesLaw (rstOnBus n s) := by
  have k : LinesLaw (testDelay s) := h.after (by simp)
  unfold rstOnBus
  dsimp only
  repeat' split
  · exact h
  · exact h.after (by simp)
  · exact restorerTurn_lines k
  · exact k

theorem rstOnFeeder_lines (h : LinesLaw s) (f : Fin 16) (turn : Bool) : LinesLaw (rstOnFeeder f turn s) := by
  unfold rstOnFeeder
  split
  · exact restorerTurn_lines h
  · exact h

theorem rstOnMode_lines (h : LinesLaw s) : LinesLaw (rstOnMode s) := restorerTurn_lines (h.after (by simp))

/-! ### Shedding (chapter 5) -/

theorem tripFeeders_lines (o : OpOrigin) : ∀ (fs : List (Fin 16)) {s : State}, LinesLaw s →
    LinesLaw (tripFeeders o fs s).1
  | [], _, h => h
  | f :: fs, s, h => by
    unfold tripFeeders
    dsimp only
    split
    all_goals
      rename_i e
      exact tripFeeders_lines o fs (lines_of_operate h e)

theorem fireStage_lines (h : LinesLaw s) (f : Nat) (i : Fin 4) : LinesLaw (fireStage f i s) := by
  have disarmed : LinesLaw (modShd (fun h => { h with armed := h.armed.set i false }) s) := h.after (by simp)
  unfold fireStage
  dsimp only
  generalize modShd (fun h => { h with armed := h.armed.set i false }) s = u at disarmed ⊢
  have tripped := tripFeeders_lines .autoShed (stageEligible u i) disarmed
  split
  · exact disarmed.after (by simp)
  · split
    · exact tripped.after (by simp)
    · exact (push_lines tripped .ufShed (i.val + 1 : Nat) f (tripFeeders .autoShed (stageEligible u i) u).2).after
        (by simp)

theorem modShd_lines (h : LinesLaw s) (m : Shd → Shd) : LinesLaw (modShd m s) := h.after (modShd_frame m s |>.widen _ rfl)

/-- What every step of a run over a list keeps, the run keeps. -/
theorem foldl_lines {α : Type} {act : State → α → State} (k : ∀ s x, LinesLaw s → LinesLaw (act s x)) :
    ∀ (l : List α) {s : State}, LinesLaw s → LinesLaw (l.foldl act s)
  | [], _, h => h
  | x :: l, s, h => foldl_lines k l (k s x h)

theorem stageFunction_lines (h : LinesLaw s) (f : Nat) : LinesLaw (stageFunction f s) := by
  have counted : LinesLaw (modShd (fun h => { h with counts := stageCountsAfter s f }) s) := h.after (by simp)
  exact modShd_lines (foldl_lines (fun _ i k => fireStage_lines k f i) _ counted) _

theorem rocofShed_lines (h : LinesLaw s) (v : PresentValue) (r a : Int) : LinesLaw (rocofShed v r a s) := by
  have tripped := tripFeeders_lines .autoShed (selection s a) h
  unfold rocofShed
  dsimp only
  split
  · exact tripped.after (by simp)
  · exact (push_lines tripped .rocofShed r v.f (tripFeeders .autoShed (selection s a) s).2).after (by simp)

theorem rocofAct_lines (h : LinesLaw s) (v : PresentValue) (r d : Int) : LinesLaw (rocofAct v r d s) := by
  unfold rocofAct
  dsimp only
  split
  · exact h.after (by simp)
  · split
    · exact modShd_lines (rocofShed_lines h v r _) _
    · exact h.after (by simp)

theorem rocofFunction_lines (h : LinesLaw s) (v : PresentValue) : LinesLaw (rocofFunction v s) := by
  unfold rocofFunction
  dsimp only
  repeat' split
  · exact h
  · exact h.after (by simp)
  · exact rocofAct_lines (h.after (by simp)) v _ _
  · exact h.after (by simp)

theorem shdValue_lines (h : LinesLaw s) (v : PresentValue) : LinesLaw (shdValue v s) := by
  have k : LinesLaw (drawn s) := h.after (by simp)
  unfold shdValue
  dsimp only
  split
  · exact rocofFunction_lines (stageFunction_lines k _) v
  · exact stageFunction_lines (rocofFunction_lines k v) _

theorem shdOnBus_lines (h : LinesLaw s) (n : BusNotice) : LinesLaw (shdOnBus n s) := by
  unfold shdOnBus
  dsimp only
  cases n.value with
  | none => exact h.after (by simp)
  | some v =>
    have taken {t : State} (k : SameBut offLines s t) : LinesLaw (shdValue v t) := shdValue_lines (h.after k) v
    split
    · exact modShd_lines (taken (by simp)) _
    · exact taken (by simp)

/-! ### The black-start sequencer (chapter 9) -/

theorem modRun_lines (h : LinesLaw s) (m : RunRecord → RunRecord) : LinesLaw (modRun m s) :=
  h.after ((modRun_frame m s).widen _ rfl)

theorem clearBus_lines (h : LinesLaw s) : LinesLaw (clearBus s) :=
  modRun_lines (foldl_lines (fun _ f k => operate_lines k f false .blackstart) _ h) _

theorem failRun_lines (h : LinesLaw s) (code : Nat) : LinesLaw (failRun code s) := by
  unfold failRun
  exact (removeHeader_lines h).after (by simp)

theorem retryRun_lines (h : LinesLaw s) : LinesLaw (retryRun s) := by
  have cleared : LinesLaw (clearReleases (clearBus s)) := (clearBus_lines h).after (by simp)
  unfold retryRun
  dsimp only
  generalize clearReleases (clearBus s) = u at cleared ⊢
  split
  · exact failRun_lines cleared 1
  · split
    · exact failRun_lines cleared 1
    · exact cleared.after (by simp)

theorem attemptFail_lines (h : LinesLaw s) (code : Nat) : LinesLaw (attemptFail code s) := by
  unfold attemptFail
  exact LinesLaw.ite (retryRun_lines (h.after (by simp))) (failRun_lines (h.after (by simp)) code)

theorem stepFails_lines (h : LinesLaw s) (st : PlanStep) (expired : Bool) : LinesLaw (stepFails st expired s) := by
  unfold stepFails
  split
  · exact h.after (by simp)
  · exact attemptFail_lines h _

theorem stepDone_lines (h : LinesLaw s) (st : PlanStep) : LinesLaw (stepDone st s) := h.after (by simp)

theorem endRun_lines (h : LinesLaw s) : LinesLaw (endRun s) := by
  have grant : LinesLaw (withdrawGrant s) := h.after (by simp)
  unfold endRun
  exact (removeHeader_lines grant).after (by simp)

/-- A start of a set by the plan, as it is seen to leave the part. -/
theorem lines_of_startByPlan {g : Fin 4} {b : Bool} (h : LinesLaw s) (e : startByPlan g s = (t, b)) : LinesLaw t := by
  have k := startByPlan_frame g s
  rw [e] at k
  exact h.after (k.widen _ rfl)

theorem stepAction_lines (h : LinesLaw s) (st : PlanStep) : LinesLaw (stepAction st s) := by
  unfold stepAction
  cases st.kind with
  | startLead =>
    dsimp only
    split
    · exact stepFails_lines h st false
    · split
      · exact stepDone_lines h st
      · split
        next e => exact lines_of_startByPlan h e
        next e => exact stepFails_lines (lines_of_startByPlan h e) st false
  | closeFeeder =>
    dsimp only
    split
    · split
      next e => exact lines_of_operate h e
      next e => exact stepDone_lines (lines_of_operate h e) st
      next e => exact stepFails_lines (lines_of_operate h e) st false
    · exact stepFails_lines h st false
  | wait =>
    dsimp only
    split
    · exact stepDone_lines h st
    · exact modRun_lines h _
  | waitStable => exact h
  | startNext =>
    dsimp only
    split
    · exact stepFails_lines h st false
    · split
      next e => exact modRun_lines (lines_of_startByPlan h e) _
      next e => exact stepFails_lines (lines_of_startByPlan h e) st false
  | releasePv =>
    dsimp only
    split
    · split
      · exact stepDone_lines (h.after (by simp)) st
      · exact stepFails_lines h st false
    · exact stepFails_lines h st false
  | stop => exact endRun_lines (h.after (by simp))

theorem beginStep_lines (h : LinesLaw s) : LinesLaw (beginStep s) := by
  unfold beginStep
  split
  · split
    · exact endRun_lines h
    · exact stepAction_lines (modRun_lines h _) _
  · exact h

theorem examineStep_lines (h : LinesLaw s) (st : PlanStep) : LinesLaw (examineStep st s) := by
  unfold examineStep
  split
  · exact h
  · exact stepDone_lines h st
  · exact h.after (by simp)
  · exact stepFails_lines h st false

theorem examineAfresh_lines (h : LinesLaw s) (st : PlanStep) : LinesLaw (examineAfresh st s) := by
  unfold examineAfresh
  split
  · exact h
  · exact examineStep_lines h st

theorem resumeRun_lines (h : LinesLaw s) : LinesLaw (resumeRun s) := by
  have resumed : LinesLaw (journal .blkResumed 0 0 (blkEnter .running s)) := h.after (by simp)
  unfold resumeRun
  dsimp only
  split
  · split
    · exact examineAfresh_lines (modRun_lines resumed _) _
    · exact modRun_lines resumed _
  · exact resumed.after (by simp)

theorem blkOnStack_lines (h : LinesLaw s) : LinesLaw (blkOnStack s) := by
  have held (b : Bool) : LinesLaw (modRun (fun r => { r with holdStack := b }) s) := modRun_lines h _
  unfold blkOnStack
  dsimp only
  split
  · split
    · split
      · exact (held true).after (by simp)
      · exact held true
    · split
      · exact resumeRun_lines (held false)
      · exact held false
  · exact h

theorem beginRun_lines (h : LinesLaw s) (how : RunStart) : LinesLaw (beginRun how s) := by
  have cleared : LinesLaw (clearBus { s with blk := { s.blk with confirm := .idle, run := { begunBy := some how } } }) :=
    clearBus_lines (h.after (by simp))
  unfold beginRun
  dsimp only
  generalize clearBus _ = u at cleared ⊢
  split
  · exact failRun_lines cleared 1
  · split
    · exact failRun_lines cleared 1
    · exact (pushHeader_lines cleared).after (by simp)

theorem confirmed_lines (h : LinesLaw s) : LinesLaw (confirmed s) := by
  unfold confirmed
  split
  · exact beginRun_lines h .timer
  · exact h.after (by simp)

theorem confirmExpires_lines (h : LinesLaw s) : LinesLaw (confirmExpires s) := by
  unfold confirmExpires
  split
  · split
    · exact confirmed_lines h
    · exact h.after (by simp)
  · exact h

theorem stepTimerExpires_lines (h : LinesLaw s) : LinesLaw (stepTimerExpires s) := by
  unfold stepTimerExpires
  split
  · split
    · exact stepFails_lines h _ true
    · exact h
  · exact h

theorem waitTimerExpires_lines (h : LinesLaw s) : LinesLaw (waitTimerExpires s) := by
  unfold waitTimerExpires
  split
  · split
    · exact stepDone_lines h _
    · exact h
  · exact h

theorem stableOnBus_lines (h : LinesLaw s) (st : PlanStep) (n : BusNotice) : LinesLaw (stableOnBus st n s) := by
  unfold stableOnBus
  split <;> exact h.after (by simp)

theorem followOn_lines : ∀ (k : Nat) (n : BusNotice) {s : State}, LinesLaw s → LinesLaw (followOn k n s)
  | 0, _, _, h => h
  | k + 1, n, s, h => by
    have begun := beginStep_lines h
    unfold followOn
    dsimp only
    split
    · split
      · split
        · exact followOn_lines k n (stableOnBus_lines begun _ n)
        · exact begun
      · exact followOn_lines k n begun
    · exact h

theorem runOnBus_lines (h : LinesLaw s) (n : BusNotice) : LinesLaw (runOnBus n s) := by
  unfold runOnBus
  split
  · split
    · split
      · exact followOn_lines 13 n (examineStep_lines h _)
      · exact examineStep_lines h _
    · split
      · exact followOn_lines 13 n (stableOnBus_lines h _ n)
      · exact stableOnBus_lines h _ n
    · exact h
  · exact h

theorem blkOnBusEvent_lines (h : LinesLaw s) (n : BusNotice) : LinesLaw (blkOnBusEvent n s) := by
  have begun : LinesLaw (if n.bus = .live ∧ n.prev ≠ .live then modRun (fun r => { r with clearing := [] }) s else s) :=
    h.after (by simp)
  unfold blkOnBusEvent
  dsimp only
  generalize (if n.bus = .live ∧ n.prev ≠ .live then modRun (fun r => { r with clearing := [] }) s else s) = u
    at begun ⊢
  split
  · exact begun.after (by simp)
  · split
    · exact begun.after (by simp)
    · split
      · exact confirmed_lines begun
      · exact begun
  · exact begun.after (by simp)
  · split
    · exact attemptFail_lines begun 4
    · exact runOnBus_lines begun n
  · split
    · exact attemptFail_lines begun 4
    · exact begun
  · exact begun

theorem blkOnBus_lines (h : LinesLaw s) (n : BusNotice) : LinesLaw (blkOnBus n s) := by
  unfold blkOnBus
  split
  · exact h.after (by simp)
  · exact blkOnBusEvent_lines h n

theorem blkOnSet_lines (h : LinesLaw s) (g : Fin 4) (a b : SetState) : LinesLaw (blkOnSet g a b s) := by
  unfold blkOnSet
  split
  · exact h.after (by simp)
  · exact h.after (by simp)
  · exact h.after (by simp)
  · split
    · split
      · exact examineStep_lines h _
      · exact h
    · exact h
  · exact h

theorem clearingOnFeeder_lines (h : LinesLaw s) (f : Fin 16) : LinesLaw (clearingOnFeeder f s) := by
  unfold clearingOnFeeder
  dsimp only
  split
  · split
    · exact operate_lines (modRun_lines h _) f false .blackstart
    · exact modRun_lines h _
  · exact h

theorem blkOnFeeder_lines (h : LinesLaw s) (f : Fin 16) : LinesLaw (blkOnFeeder f s) := by
  have cleared := clearingOnFeeder_lines h f
  unfold blkOnFeeder
  dsimp only
  split
  · split
    · exact examineStep_lines cleared _
    · exact cleared
  · exact cleared

theorem blkOnMode_lines (h : LinesLaw s) (m : Mode) : LinesLaw (blkOnMode m s) := by
  unfold blkOnMode
  split
  · exact attemptFail_lines h 5
  · exact h

/-! ### Notices and the end of an event (section 2.5) -/

theorem supplement_lines (h : LinesLaw s) (f : Fin 16) (amount : Int) : LinesLaw (supplement f amount s) := by
  unfold supplement
  dsimp only
  split
  · exact (tripFeeders_lines .autoShed (selection s amount) h).after (by simp)
  · exact h.after (by simp)

theorem shdOnFeeder_lines (h : LinesLaw s) (f : Fin 16) (after : FeederState) (cause : FeederCause) :
    LinesLaw (shdOnFeeder f after cause s) := by
  have credit : LinesLaw (if after.endsCredit then
      modShd (fun h => { h with credit := h.credit.filter fun c => c.feeder ≠ f }) s else s) := h.after (by simp)
  unfold shdOnFeeder
  dsimp only
  generalize (if after.endsCredit then
    modShd (fun h => { h with credit := h.credit.filter fun c => c.feeder ≠ f }) s else s) = u at credit ⊢
  split
  · exact credit
  · have left := modShd_lines credit fun h => { h with targets := h.targets.filter fun t => t.feeder ≠ f }
    split
    · exact left
    · exact left
    · split
      · exact supplement_lines left f _
      · exact left
    · exact credit

theorem deliver_lines (h : LinesLaw s) (n : Notice) : LinesLaw (deliver n s) := by
  unfold deliver
  split
  · exact shdOnBus_lines h _
  · exact rstOnBus_lines h _
  · exact h.after (by simp)
  · exact blkOnBus_lines h _
  · exact h.after (by simp)
  · exact shdOnFeeder_lines h _ _ _
  · exact rstOnFeeder_lines h _ _
  · exact blkOnFeeder_lines h _
  · exact h
  · exact blkOnSet_lines h _ _ _
  · exact h.after (by simp)
  · exact h.after (by simp)
  · exact h
  · exact blkOnStack_lines h
  · exact h.after (by simp)
  · exact h
  · exact restorerTurn_lines h
  · exact h.after (by simp)
  · exact h.after (by simp)
  · exact h
  · exact restorerTurn_lines h
  · exact h.after (by simp)
  · exact h.after (by simp)
  · exact h
  · exact rstOnMode_lines h
  · exact h.after (by simp)
  · exact h.after (by simp)
  · exact blkOnMode_lines h _
  · exact h
  · exact beginStep_lines h

theorem settle_lines : ∀ (fuel : Nat) {s : State}, LinesLaw s → LinesLaw (settle fuel s)
  | 0, s, h => by
    have delivered : LinesLaw (s.notices.foldl (fun t n => deliver n t) { s with notices := [] }) :=
      foldl_lines (fun _ n k => deliver_lines k n) _ (h.after (by simp))
    exact delivered.after ((withNotices_frame [] _).widen _ rfl)
  | fuel + 1, s, h => by
    unfold settle
    split
    · exact h
    · exact settle_lines fuel (deliver_lines (h.after (by simp)) _)

/-- The end of an event keeps the law of the lines. -/
theorem conclude_lines (h : LinesLaw s) : LinesLaw (conclude s) := by
  have settled := settle_lines Config.settleFuel h
  exact settled.after (((driveSets_frame _).widen _ rfl).trans ((driveAlerts_frame _).widen _ rfl))

end Rules

end Sys2Proof.Machine

/-! ## The blocks after a reset, and the end of the settings load -/

namespace Sys2Proof.Machine

/-! ### The reset notice (R19, R175) -/

/-- On a bus that is not LIVE the dispatch timers stay idle (R136, R137). -/
theorem evalDispatch_eq_self {s : State} (hb : s.fmon.bus ≠ .live) (hl : s.gen.lowReserve = .idle)
    (hs : s.gen.stopTimer = .idle) : evalDispatch s = s := by
  have low : lowReserveCondition s = false := by simp [lowReserveCondition, hb]
  have stop : stopCondition s = false := by simp [stopCondition, hb]
  have same : { s.gen with lowReserve := .idle, stopTimer := .idle } = s.gen := by
    cases e : s.gen
    simp_all
  simp only [evalDispatch, modGen, low, stop, conditionTimer, same]

theorem retarget_self (s : State) : retarget s s = s := by
  have stays : ∀ l : List (Fin 6), l.foldl
      (fun t j => if constraintsOf s j = constraintsOf s j then t else applyTarget j t) s = s := fun l => by
    induction l with
    | nil => rfl
    | cons j l ih => rw [List.foldl_cons, if_pos rfl, ih]
  exact stays _

theorem ceilingsChanged_self (s : State) : ceilingsChanged s s = s := by
  rw [ceilingsChanged, if_pos rfl, retarget_self]

/-- A part whose blocks have just been reset, before the reset notice: no sequencer state stands, and the dispatcher
has no timer running and no grant given. -/
structure FreshBlocks (s : State) : Prop where
  shd : s.shd = {}
  bus : s.fmon.bus = .dead
  grant : s.gen.grant = none
  lowReserve : s.gen.lowReserve = .idle
  stopTimer : s.gen.stopTimer = .idle
  seqActive : s.cur.seqActive = false

/-- The confirmation of the dead bus that BLK begins at the reset notice (R175). -/
def confirmingDeadBus (s : State) : State :=
  { s with blk := { s.blk with state := .confirming, confirm := .running s.settings.sys.deadConfirmMs } }

/-- The reset notice lets BLK confirm the dead bus when no set is ONLINE, and does nothing else (R175). -/
theorem takeResetNotice_eq {s : State} (h : FreshBlocks s) :
    takeResetNotice s = if noneOnline s then confirmingDeadBus s else s := by
  obtain ⟨hshd, hbus, hgrant, hlow, hstop, hseq⟩ := h
  have shd : shdOnBus resetNotice s = s := by
    have e : shdOnBus resetNotice s = { s with shd := { s.shd with counts := Vector.replicate 4 0, qual := 0 } } := rfl
    have k : ({ s.shd with counts := Vector.replicate 4 0, qual := 0 } : Shd) = s.shd := by rw [hshd]
    rw [e, k]
  have cur : curOnBus resetNotice s = s := by
    simp [curOnBus, curBusChange, resetNotice, holdOrDroopMoved]
  have gen : genOnSequencer (confirmingDeadBus s) = confirmingDeadBus s := by
    have dropped : modGen (fun n => { n with grant := none }) (confirmingDeadBus s) = confirmingDeadBus s := by
      have k : { s.gen with grant := none } = s.gen := by rw [← hgrant]
      simp only [modGen, confirmingDeadBus, k]
    have notRunning : (confirmingDeadBus s).blk.state ≠ .running := by simp [confirmingDeadBus]
    rw [genOnSequencer, if_neg notRunning, dropped]
    exact evalDispatch_eq_self (by simp [confirmingDeadBus, hbus]) hlow hstop
  have seq : curOnSequencer .idle .confirming (confirmingDeadBus s) = confirmingDeadBus s := by
    have same : modCur (fun c => { c with seqActive := false }) (confirmingDeadBus s) = confirmingDeadBus s := by
      have k : { s.cur with seqActive := false } = s.cur := by rw [← hseq]
      simp only [modCur, confirmingDeadBus, k]
    simp only [curOnSequencer, same, ceilingsChanged_self]
  have rst : rstOnBus resetNotice s = s := rfl
  have genBus : genOnBus resetNotice s = s := rfl
  have blk : blkOnBus resetNotice s = blkOnReset s := rfl
  rw [takeResetNotice, shd, rst, cur, genBus, blk, blkOnReset]
  split
  · exact (congrArg _ gen).trans seq
  · rfl

/-! ### The blocks initialise (R19, R33, R200) -/

section Initialise

variable (kind : ResetKind) (mode : Mode) (s : State)

/-- The blocks with their reset values, before the reset notice. -/
def blocksReset : State :=
  resetLnk mode (resetBlk (resetCur (resetRst kind (resetShd (resetGen kind (resetFeeders kind
    (resetMeas (resetInputs (resetFmon (resetEvr kind { s with notices := [], phase := .running }))))))))))

theorem blocksReset_fresh : FreshBlocks (blocksReset kind mode s) := ⟨rfl, rfl, rfl, rfl, rfl, rfl⟩

theorem initialise_eq :
    initialise kind mode s =
      if noneOnline (blocksReset kind mode s) then confirmingDeadBus (blocksReset kind mode s)
      else blocksReset kind mode s :=
  takeResetNotice_eq (blocksReset_fresh kind mode s)

/-- The reset notice concerns BLK alone. -/
theorem initialise_frame : SameBut [.blk] (blocksReset kind mode s) (initialise kind mode s) := by
  rw [initialise_eq]
  split
  · simp [confirmingDeadBus]
  · exact SameBut.refl _ _

/-- The inputs after their reset sample (R33). -/
theorem blocksReset_input (i : Fin 32) :
    (blocksReset kind mode s).inputs[i] =
      { raw := s.inputs[i].raw, prev := s.inputs[i].raw, debounced := s.inputs[i].raw
        lastRead := s.inputs[i].raw, view := s.inputs[i].raw } := by
  simp [blocksReset, resetLnk, resetBlk, resetCur, resetRst, resetShd, resetGen, resetFeeders, resetMeas, resetInputs,
    resetInput, resetFmon, resetEvr]

/-- The feeders after a reset (R38, R67). -/
theorem blocksReset_feeder (f : Fin 16) :
    (blocksReset kind mode s).feeders[f] =
      { state := if s.settings.feeders[f].inService then stateOfStatus (feederStatus (blocksReset kind mode s) f)
          else .outOfService
        generation :=
          match kind with
          | .powerOn => 0
          | .soft => s.feeders[f].generation
        close := decide (effectiveStyle s.settings f = .maintained) && feederStatus (blocksReset kind mode s) f
        commanded := feederStatus (blocksReset kind mode s) f } := by
  exact Vector.getElem_ofFn _

/-- The sets after a reset (R132, R139). -/
theorem blocksReset_set (g : Fin 4) :
    (blocksReset kind mode s).gen.sets[g] =
      { state := derivedState (blocksReset kind mode s) g
        timer := if derivedState (blocksReset kind mode s) g = .syncing
          then .running s.settings.sets[g].syncTimeoutMs else .idle
        partHour :=
          match kind with
          | .powerOn => 0
          | .soft => s.gen.sets[g].partHour
        run := (derivedState (blocksReset kind mode s) g).runs } := by
  exact Vector.getElem_ofFn _

/-- The channels after a reset (Table 8-2). -/
theorem blocksReset_channel (j : Fin 6) :
    (blocksReset kind mode s).cur.channels[j] =
      { pwm := { periodMs := s.settings.channels[j].pwmPeriodMs, inverted := s.settings.channels[j].inverted } } := by
  exact Vector.getElem_ofFn _

theorem derivedState_eq_syncing (t : State) (g : Fin 4) :
    derivedState t g = .syncing ↔ (!setBreaker t g && setRunning t g) = true := by
  unfold derivedState
  cases setBreaker t g <;> cases setRunning t g <;> simp
  split <;> simp

theorem derivedState_runs (t : State) (g : Fin 4) :
    (derivedState t g).runs = (setBreaker t g || setRunning t g) := by
  unfold derivedState
  cases setBreaker t g <;> cases setRunning t g <;> try rfl
  cases setReady t g && t.settings.sets[g].inService <;> rfl

/-- The blocks have initialised, whatever BLK makes of the reset notice in accordance with R175. -/
theorem blocksReset_initialised {b : Blk} (hrun : b.run = {})
    (hconfirm : noneOnline (blocksReset kind mode s) = true →
      b.state = .confirming ∧ b.confirm = .running s.settings.sys.deadConfirmMs)
    (hidle : noneOnline (blocksReset kind mode s) = false → b.state = .idle ∧ b.confirm = .idle) :
    BlocksInitialised s { blocksReset kind mode s with blk := b } := by
  refine ⟨rfl, rfl, rfl, rfl, rfl, blocksReset_input kind mode s, fun f => ?_, rfl, rfl, rfl, rfl, fun g => ?_, rfl,
    rfl, rfl, rfl, rfl, fun j => ?_, rfl, rfl, rfl, rfl, rfl, rfl, hrun, hconfirm, hidle, fun l => ?_, rfl, rfl, ?_, ?_⟩
  · have e := blocksReset_feeder kind mode s f
    dsimp only
    rw [e]
    refine ⟨rfl, rfl, rfl, rfl, rfl, rfl, rfl, rfl, ?_⟩
    simp only [Bool.and_eq_true, decide_eq_true_eq]
    exact Iff.rfl
  · have e := blocksReset_set kind mode s g
    dsimp only
    rw [e]
    exact ⟨rfl, if_congr (derivedState_eq_syncing _ g) rfl rfl, rfl, rfl, rfl, derivedState_runs _ g, rfl, rfl, rfl, rfl⟩
  · have e := blocksReset_channel kind mode s j
    have out : setpointOutput { blocksReset kind mode s with blk := b } j
        = some (blocksReset kind mode s).cur.channels[j].pwm.level := rfl
    rw [out]
    dsimp only
    rw [e]
    simp [Pwm.level]
    rfl
  · cases l <;> exact ⟨rfl, rfl, rfl, rfl, rfl, rfl, rfl⟩
  · have e := blocksReset_input kind mode s 28
    exact congrArg InputCtl.debounced e
  · cases kind <;> rfl

theorem initialise_initialised : BlocksInitialised s (initialise kind mode s) := by
  rw [initialise_eq]
  split
  next h => exact blocksReset_initialised kind mode s rfl (fun _ => ⟨rfl, rfl⟩) fun k => absurd (h.symm.trans k) (by decide)
  next h => exact blocksReset_initialised (b := {}) kind mode s rfl (fun k => absurd k h) fun _ => ⟨rfl, rfl⟩

/-- The counts and generations after a reset (R53, R94, R132). -/
theorem initialise_kept :
    (∀ f : Fin 16, (initialise kind mode s).feeders[f].generation =
        match kind with
        | .powerOn => 0
        | .soft => s.feeders[f].generation)
      ∧ (∀ g : Fin 4, (initialise kind mode s).gen.sets[g].partHour =
        match kind with
        | .powerOn => 0
        | .soft => s.gen.sets[g].partHour) := by
  have fr := initialise_frame kind mode s
  refine ⟨fun f => ?_, fun g => ?_⟩
  · rw [fr.feeders (by decide), blocksReset_feeder]
  · rw [fr.gen (by decide), blocksReset_set]

end Initialise

/-! ### The end of the settings load (R198, R200) -/

/-- Two states that differ in EVR alone. -/
theorem eq_withEvr {s t : State} (h : SameBut [.evr] s t) : t = s.withEvr fun _ => t.evr := by
  cases t
  simp only [State.withEvr, State.mk.injEq]
  exact ⟨h.phase (by decide), h.time (by decide), h.settings (by decide), h.fmon (by decide), h.inputs (by decide),
    h.meas (by decide), h.feeders (by decide), h.shd (by decide), h.rst (by decide), h.gen (by decide),
    h.cur (by decide), h.blk (by decide), h.lnk (by decide), trivial, h.sto (by decide), h.notices (by decide),
    h.draws (by decide), h.pending (by decide)⟩

/-- EVR bears on no block's reset state, but that no PROTECTION flag is set (R200). -/
theorem BlocksInitialised.after {s t u : State} (h : BlocksInitialised s t) (k : SameBut [.evr] t u)
    (hp : u.evr.protection = 0) : BlocksInitialised s u := by
  obtain ⟨h1, h2, h3, h4, h5, h6, h7, h8, h9, h10, h11, h12, h13, h14, h15, h16, h17, h18, h19, h20, h21, h22, h23, h24,
    h25, h26, h27, h28, h29, h30, h31, -⟩ := h
  rw [eq_withEvr k]
  exact ⟨h1, h2, h3, h4, h5, h6, h7, h8, h9, h10, h11, h12, h13, h14, h15, h16, h17, h18, h19, h20, h21, h22, h23, h24,
    h25, h26, h27, h28, h29, h30, h31, hp⟩

/-- What the alert lines leave of EVR (R193). -/
theorem driveAlerts_evr (s : State) :
    ∃ a b : Bool, (driveAlerts s).evr = { s.evr with alert0 := a, alert1 := b } := by
  unfold driveAlerts
  simp only [withEvr_evr]
  split <;> exact ⟨_, _, rfl⟩

theorem reportDefaulted_frame (reason : Nat) (s : State) : SameBut [.evr] s (reportDefaulted reason s) := by
  simp [reportDefaulted]

/-- The record and the flag of a rejected load, on the EVR that the blocks' initialisation leaves (R198). -/
theorem reportDefaulted_evr (reason : Nat) {s : State} (h : s.evr = {}) :
    (reportDefaulted reason s).evr =
      { advisory := 0x0400, journal := [{ time := s.time.part, kind := 51, object := 0, value := reason }] } := by
  simp [reportDefaulted, journal, h, State.withEvr, setAdv, journalPush, JournalKind.code, AdvFlag.bit,
    Config.journalMax]

section LoadEnds

variable (image : List Byte) (s : State)

/-- A running load's end with an image, read through what `loadImage` makes of it. -/
theorem exec_settingsLoadEnd {s : State} (h : s.phase = .loading) :
    exec (.settingsLoadEnd image) s = .next (loadEnds image s) :=
  next_congr (by simp only [h])

/-- The part as the load's end hands it to the blocks: its limit idle, with the settings that now stand. -/
def loadTaken (t : Settings) (i : ImageState) : State :=
  { s with time := { s.time with load := .idle }, settings := t, sto := { image := i } }

variable {image s}

theorem loadEnds_accepted {t : Settings} (h : loadImage image = .inl t) :
    loadEnds image s = driveAlerts (initialise .powerOn t.sys.startMode (loadTaken s t .loaded)) := by
  simp only [loadEnds, h, loadTaken]

theorem loadEnds_rejected {reason : Nat} (h : loadImage image = .inr reason) :
    loadEnds image s =
      driveAlerts (reportDefaulted reason (initialise .powerOn .monitor (loadTaken s {} (.defaulted reason)))) := by
  simp only [loadEnds, h, loadTaken]

end LoadEnds

/-- What stands after the blocks have initialised at a power-on reset, in whatever way EVR has reported since: the
blocks, the counts, the generations and masks, and the settings and mode that were given (R198, R200). -/
theorem powerOn_initialised {s u : State} {t : Settings} {i : ImageState} {m : Mode}
    (k : SameBut [.evr] (initialise .powerOn m (loadTaken s t i)) u) (hp : u.evr.protection = 0)
    (hm : u.evr.maskProtection = true)
    (ha : u.evr.maskAdvisory = true) :
    BlocksInitialised s u ∧ (∀ f : Fin 16, u.feeders[f].generation = 0) ∧ u.rst.nextTag = 0
      ∧ (∀ g : Fin 4, u.gen.sets[g].partHour = 0) ∧ u.evr.maskProtection = true ∧ u.evr.maskAdvisory = true
      ∧ u.time = { s.time with load := .idle } ∧ u.settings = t ∧ u.lnk.mode = m ∧ u.sto.image = i := by
  have fr := initialise_frame .powerOn m (loadTaken s t i)
  obtain ⟨hgen, hpart⟩ := initialise_kept .powerOn m (loadTaken s t i)
  have init : BlocksInitialised s (initialise .powerOn m (loadTaken s t i)) :=
    initialise_initialised .powerOn m (loadTaken s t i)
  refine ⟨init.after k hp, fun f => ?_, ?_, fun g => ?_, hm, ha, ?_, ?_, ?_, ?_⟩
  · rw [k.feeders (by decide)]; exact hgen f
  · rw [k.rst (by decide), fr.rst (by decide)]; rfl
  · rw [k.gen (by decide)]; exact hpart g
  · rw [k.time (by decide), fr.time (by decide)]; rfl
  · rw [k.settings (by decide), fr.settings (by decide)]; rfl
  · rw [k.lnk (by decide), fr.lnk (by decide)]; rfl
  · rw [k.sto (by decide), fr.sto (by decide)]; rfl

/-- Settles O5: the accepted image and the rejected one, each with the blocks initialised and EVR's report. -/
theorem settingsLoadEndInitialisesTheBlocks : Obligations.SettingsLoadEndInitialisesTheBlocks := by
  intro image s hload
  have fresh (m : Mode) (t : Settings) (i : ImageState) : (initialise .powerOn m (loadTaken s t i)).evr = {} :=
    (initialise_frame .powerOn m (loadTaken s t i)).evr (by decide)
  refine ⟨loadEnds image s, exec_settingsLoadEnd image hload, ?_⟩
  cases himage : loadImage image with
  | inl t =>
    rw [loadEnds_accepted himage]
    obtain ⟨a, b, hevr⟩ := driveAlerts_evr (initialise .powerOn t.sys.startMode (loadTaken s t .loaded))
    rw [fresh] at hevr
    obtain ⟨hblocks, hgen, htag, hpart, hprot, hadv, htime, hset, hmode, hsto⟩ :=
      powerOn_initialised (driveAlerts_frame _) (by rw [hevr]) (by rw [hevr]) (by rw [hevr])
    refine ⟨hblocks, hgen, htag, hpart, hprot, hadv, htime, fun settings e => ?_, fun reason e => nomatch e⟩
    cases e
    exact ⟨hset, hmode, by rw [hevr], by rw [hevr], hsto⟩
  | inr reason =>
    rw [loadEnds_rejected himage]
    obtain ⟨a, b, hevr⟩ := driveAlerts_evr
      (reportDefaulted reason (initialise .powerOn .monitor (loadTaken s {} (.defaulted reason))))
    rw [reportDefaulted_evr reason (fresh _ _ _),
      (initialise_frame .powerOn .monitor (loadTaken s {} (.defaulted reason))).time (by decide)] at hevr
    obtain ⟨hblocks, hgen, htag, hpart, hprot, hadv, htime, hset, hmode, hsto⟩ :=
      powerOn_initialised ((reportDefaulted_frame reason _).trans (driveAlerts_frame _)) (by rw [hevr]) (by rw [hevr]) (by rw [hevr])
    refine ⟨hblocks, hgen, htag, hpart, hprot, hadv, htime, fun settings e => (nomatch e), fun r e => ?_⟩
    cases e
    exact ⟨hset, hmode, by rw [hevr], by rw [hevr]; rfl, hsto⟩

end Sys2Proof.Machine

/-! ## The law of the feeder lines: commands and steps -/

namespace Sys2Proof.Machine

/-! ### Frames of the configuring requests -/

theorem reclampSet_frame (g : Fin 4) (s : State) : SameBut [.meas, .notices, .draws] s (reclampSet g s) := by
  unfold reclampSet
  dsimp only
  split
  · split <;> simp
  · simp

@[simp] theorem sameBut_reclampSet {ps : List Part} (g : Fin 4) {s t : State}
    (hp : [Part.meas, .notices, .draws].all (· ∈ ps) = true) :
    SameBut ps s (reclampSet g t) ↔ SameBut ps s t :=
  sameBut_iff (reclampSet_frame g t) hp

theorem reclampChannel_frame (j : Fin 6) (s : State) : SameBut [.meas, .notices, .draws] s (reclampChannel j s) := by
  unfold reclampChannel
  dsimp only
  split
  · split <;> simp
  · simp

@[simp] theorem sameBut_reclampChannel {ps : List Part} (j : Fin 6) {s t : State}
    (hp : [Part.meas, .notices, .draws].all (· ∈ ps) = true) :
    SameBut ps s (reclampChannel j t) ↔ SameBut ps s t :=
  sameBut_iff (reclampChannel_frame j t) hp

theorem writeChannel_frame (j : Fin 6) (t : PvSettings) (s : State) : SameBut [.settings] s (writeChannel j t s) := by
  simp [writeChannel]

theorem inputWritten_frame (i : Fin 32) (t : InputSettings) (s : State) :
    SameBut [.settings, .inputs] s (inputWritten i t s) := by
  simp [inputWritten]

/-! ### CONFIGURE_FEEDER and CONFIGURE_GENSET, by their effects in turn -/

section Written

variable (f : Fin 16) (t : FeederSettings) (s : State)

/-- The settings of a feeder have been replaced and its generation increased (R52, R53). -/
def feederTaken : State :=
  modFeeder f (fun c => { c with generation := c.generation + 1 })
    { s with settings := { s.settings with feeders := s.settings.feeders.set f t } }

/-- The lines of that feeder have followed a changed style (R37). -/
def feederLined : State :=
  if effectiveStyle s.settings f = effectiveStyle (feederTaken f t s).settings f then feederTaken f t s
  else lineRestyle f (feederTaken f t s)

theorem feederWritten_eq :
    feederWritten f t s =
      if s.settings.feeders[f].inService = t.inService then feederLined f t s
      else feederServiceChange f (feederLined f t s) := rfl

theorem feederTaken_frame : SameBut [.settings, .feeders] s (feederTaken f t s) := by simp [feederTaken]

theorem feederLined_frame : SameBut [.feeders] (feederTaken f t s) (feederLined f t s) := by simp [feederLined]

theorem feederTaken_self :
    (feederTaken f t s).feeders[f] = { s.feeders[f] with generation := s.feeders[f].generation + 1 } :=
  modFeeder_self f _ _

theorem feederTaken_other {k : Fin 16} (h : k ≠ f) : (feederTaken f t s).feeders[k] = s.feeders[k] :=
  modFeeder_other _ _ h

theorem feederLined_other {k : Fin 16} (h : k ≠ f) : (feederLined f t s).feeders[k] = s.feeders[k] := by
  unfold feederLined
  split
  · exact feederTaken_other f t s h
  · exact (lineRestyle_other _ h).trans (feederTaken_other f t s h)

/-- The style of another feeder is not touched by CONFIGURE_FEEDER (R34). -/
theorem effectiveStyle_other {k : Fin 16} (h : k ≠ f) :
    effectiveStyle (feederTaken f t s).settings k = effectiveStyle s.settings k := by
  have hv : f.val ≠ k.val := fun e => h (Fin.ext e.symm)
  simp [feederTaken, effectiveStyle, hv]

/-- The settings of a set have been replaced, before any effect (R115). -/
def setTaken (g : Fin 4) (t : SetSettings) (s : State) : State :=
  { s with settings := { s.settings with sets := s.settings.sets.set g t } }

theorem setWritten_frame (g : Fin 4) (t : SetSettings) (s : State) :
    SameBut [.meas, .gen, .cur, .evr, .notices, .draws] (setTaken g t s) (setWritten g t s) := by
  unfold setWritten whenChanged setTaken
  simp

end Written

section Lines

variable {s : State}

theorem feederWritten_lines (h : LinesLaw s) (f : Fin 16) (t : FeederSettings) : LinesLaw (feederWritten f t s) := by
  have lined : LinesLaw (feederLined f t s) := fun k => by
    rw [(feederLined_frame f t s).settings (by decide)]
    by_cases e : k = f
    · subst e
      unfold feederLined
      split
      next same =>
        rw [feederTaken_self]
        exact same ▸ h k
      next => rw [lineRestyle_self]; exact restyledFeeder_linesOk _ k
    · rw [feederLined_other f t s e, effectiveStyle_other f t s e]
      exact h k
  rw [feederWritten_eq]
  exact LinesLaw.ite lined (feederServiceChange_lines lined f)

/-- CONFIGURE_SYSTEM takes the lines along to a changed style (R37). -/
theorem systemWritten_lines (h : LinesLaw s) (t : SystemSettings) : LinesLaw (systemWritten t s) := by
  intro f
  rw [systemWritten_feeder]
  split
  next same => rw [same]; exact h f
  next =>
    split
    next e => rw [e]; simp [LinesOk]
    next e =>
      have hp : effectiveStyle (systemWritten t s).settings f = .pulse := by
        cases k : effectiveStyle (systemWritten t s).settings f
        · rfl
        · exact absurd k e
      rw [hp]
      exact linesOk_released _

/-- Settings of stages, sets, channels, inputs, plans and the directory do not bear on the lines. -/
theorem LinesLaw.withSettings (h : LinesLaw s) {x : Settings} (hsys : x.sys = s.settings.sys)
    (hf : x.feeders = s.settings.feeders) : LinesLaw { s with settings := x } :=
  h.congr (fun f => by simp only [effectiveStyle, hsys, hf]) rfl

theorem setWritten_lines (h : LinesLaw s) (g : Fin 4) (t : SetSettings) : LinesLaw (setWritten g t s) := by
  have taken : LinesLaw (setTaken g t s) := h.withSettings rfl rfl
  exact taken.after ((setWritten_frame g t s).widen _ rfl)

theorem marksCleared_lines (h : LinesLaw s) : LinesLaw (marksCleared s) := by
  intro f
  have e : (marksCleared s).feeders[f] = { s.feeders[f] with operated := false, shed := false } := by
    simp [marksCleared]
  rw [e]
  exact h f

theorem ceilingWritten_lines (h : LinesLaw s) (j : Fin 6) (kw : Nat) : LinesLaw (ceilingWritten j kw s) := by
  have written (t : PvSettings) : LinesLaw (writeChannel j t s) := h.withSettings rfl rfl
  have quiet (m : ChannelCtl → ChannelCtl) (u : State) :
      SameBut offLines u (ceilingsChanged s (if s.lnk.supervised then modChannel j m u else u)) := by simp
  exact (written _).after (quiet _ _)

/-! ### Commands of either form (R179 to R183) -/

/-- An event of the blocks keeps the law when its own block does. -/
theorem event_lines {act : State → State} (h : LinesLaw s) (k : LinesLaw (act s)) : LinesLaw (event act s) := by
  unfold event
  split
  · exact h
  · exact conclude_lines k

/-- An event whose block reaches neither feeders nor settings keeps the law. -/
theorem event_quiet {act : State → State} {ps : List Part} (h : LinesLaw s) (k : SameBut ps s (act s))
    (hp : ps.all (· ∈ offLines) = true) : LinesLaw (event act s) :=
  event_lines h (h.after (k.widen _ hp))

theorem answer_lines {kind : Byte} {f : Frame} {a : Answer} (h : LinesLaw a.state) : LinesLaw (answer kind f a) := by
  have k := conclude_lines h
  unfold answer
  dsimp only
  split
  · exact k
  · exact k.after (by simp)

/-- A frame keeps the law when the block that performs its request does. -/
theorem takeFrame_lines {kind : Byte} {f : Frame} {check : State → Option Status} {perform : State → Answer}
    (h : LinesLaw s) (k : ∀ t, LinesLaw t → LinesLaw (perform t).state) :
    LinesLaw (takeFrame kind f check perform s) := by
  have noted : LinesLaw (superviseFrame f.link s) := h.after (by simp)
  unfold takeFrame
  dsimp only
  split
  · exact h
  · split
    · split
      · exact conclude_lines noted
      · split
        · exact conclude_lines (noted.after (by simp))
        · split
          · exact answer_lines noted
          · exact answer_lines (k _ noted)
    · exact h

theorem plainQuery_lines (h : LinesLaw s) (kind : Byte) (f : Frame) (body : State → List Byte) :
    LinesLaw (plainQuery kind f body s) :=
  takeFrame_lines h fun _ k => k

/-! ### Requests, by the part of their owning block -/

theorem operateFeeder_lines (h : LinesLaw s) (fr : Frame) : LinesLaw (operateFeeder fr s).state := by
  unfold operateFeeder
  split
  · split
    · exact h
    · split
      next => exact h
      next e => exact lines_of_operate h e
  · exact h

theorem manualShed_lines (h : LinesLaw s) (l : Link) (fs : List (Fin 16)) : LinesLaw (manualShed l fs s).1 :=
  (push_lines (tripFeeders_lines .manualShed fs h) _ _ _ _).after ((journal_frame _ _ _ _).widen _ rfl)

theorem shed_lines (h : LinesLaw s) (fr : Frame) : LinesLaw (shed fr s).state := by
  unfold shed
  dsimp only
  split
  · exact h
  · split
    · exact h
    · exact manualShed_lines h fr.link _

/-- A request on an entry keeps the law when the kind's own rule does. -/
theorem onEntry_lines (h : LinesLaw s) {fr : Frame} {act : Nat → Entry → Answer}
    (k : ∀ pos e, LinesLaw (act pos e).state) : LinesLaw (onEntry fr s act).state := by
  unfold onEntry
  dsimp only
  split
  · exact h
  · exact h
  · exact h
  · split
    · exact h
    · exact k _ _

theorem restoreEntry_lines (h : LinesLaw s) (fr : Frame) : LinesLaw (restoreEntry fr s).state := by
  refine onEntry_lines h fun pos e => ?_
  repeat' split
  · exact h
  · exact h
  · exact h
  · exact restorerTurn_lines (h.after (by simp))

theorem holdEntry_lines (h : LinesLaw s) (fr : Frame) : LinesLaw (holdEntry fr s).state := by
  refine onEntry_lines h fun pos e => LinesLaw.ite h ?_
  unfold heldAt
  exact LinesLaw.ite (restorerTurn_lines (h.after (by simp))) (h.after (by simp))

theorem releaseEntry_lines (h : LinesLaw s) (fr : Frame) : LinesLaw (releaseEntry fr s).state :=
  onEntry_lines h fun _ _ => LinesLaw.ite (restorerTurn_lines (h.after (by simp))) h

theorem discardEntry_lines (h : LinesLaw s) (fr : Frame) : LinesLaw (discardEntry fr s).state :=
  onEntry_lines h fun _ _ => restorerTurn_lines (h.after (by simp))

theorem startGenset_frame (fr : Frame) (s : State) : SameBut [.gen, .evr, .notices, .draws] s (startGenset fr s).state := by
  unfold startGenset
  split
  · exact SameBut.refl _ s
  next g _ =>
    have k := startSet_frame g .host s
    split
    next e => rw [e] at k; exact k
    next => exact SameBut.refl _ s

theorem stopGenset_frame (fr : Frame) (s : State) : SameBut [.gen, .evr, .notices, .draws] s (stopGenset fr s).state := by
  unfold stopGenset
  split
  · exact SameBut.refl _ s
  next g _ =>
    split
    · exact stopSet_frame false g .host s
    · exact SameBut.refl _ s

theorem resetLockoutRequest_frame (fr : Frame) (s : State) :
    SameBut [.gen, .evr, .notices, .draws] s (resetLockoutRequest fr s).state := by
  unfold resetLockoutRequest
  split
  · exact SameBut.refl _ s
  next g _ =>
    split
    · exact resetLockout_frame g s
    · exact SameBut.refl _ s

theorem setPvCeiling_lines (h : LinesLaw s) (fr : Frame) : LinesLaw (setPvCeiling fr s).state := by
  unfold setPvCeiling
  split
  · exact h
  · exact ceilingWritten_lines h _ _

theorem setMode_frame (fr : Frame) (s : State) : SameBut [.lnk, .evr, .notices, .draws] s (setMode fr s).state := by
  unfold setMode
  split
  · exact SameBut.refl _ s
  · simp [reply, modeChange]

theorem blkBegin_lines (h : LinesLaw s) : LinesLaw (blkBegin s).state := by
  unfold blkBegin
  split
  · exact beginRun_lines h .begin
  · exact h

theorem blkHold_lines (h : LinesLaw s) : LinesLaw (blkHold s).state := by
  unfold blkHold
  split
  · exact (modRun_lines h _).after (enterHeld_frame 2 _ |>.widen _ rfl)
  · exact modRun_lines h _
  · exact h

theorem blkResume_lines (h : LinesLaw s) : LinesLaw (blkResume s).state := by
  unfold blkResume
  split
  · exact LinesLaw.ite (modRun_lines h _) (resumeRun_lines (modRun_lines h _))
  · exact h

theorem blkAbort_lines (h : LinesLaw s) : LinesLaw (blkAbort s).state := by
  unfold blkAbort
  split
  · exact attemptFail_lines h 5
  · exact h

theorem blkAck_lines (h : LinesLaw s) : LinesLaw (blkAck s).state := by
  unfold blkAck
  split
  · exact h.after (by simp [reply])
  · exact h

/-- A BLACKSTART request keeps the law when the rule of its code does (Table 10-5). -/
theorem blackstart_lines (h : LinesLaw s) (code : Nat) (fr : Frame) {act : State → Answer}
    (k : ∀ t, LinesLaw t → LinesLaw (act t).state) : LinesLaw (blackstart code fr act s) :=
  takeFrame_lines h fun t ht => by
    split
    · exact k t ht
    · exact ht

theorem clearEvents_frame (fr : Frame) (s : State) : SameBut [.inputs, .evr] s (clearEvents fr s).state := by
  unfold clearEvents
  dsimp only
  split
  · exact SameBut.refl _ s
  · simp [reply, eventsCleared]

theorem setEventMask_frame (fr : Frame) (s : State) : SameBut [.evr] s (setEventMask fr s).state := by
  unfold setEventMask
  dsimp only
  split
  · exact SameBut.refl _ s
  · simp [reply, State.withEvr]

theorem clearLinkErrors_frame (fr : Frame) (s : State) : SameBut [.lnk] s (clearLinkErrors fr s).state := by
  unfold clearLinkErrors
  dsimp only
  split
  · exact SameBut.refl _ s
  · simp [reply]

theorem measure_frame (fr : Frame) (s : State) : SameBut [.meas, .notices, .draws] s (measure fr s).state := by
  unfold measure
  split
  · exact SameBut.refl _ s
  · exact applyMeasure_frame _ s

theorem configureSystem_lines (h : LinesLaw s) (fr : Frame) : LinesLaw (configureSystem fr s).state := by
  unfold configureSystem
  split
  · exact h
  · split
    · exact h
    · exact systemWritten_lines h _

theorem configureStages_lines (h : LinesLaw s) (fr : Frame) : LinesLaw (configureStages fr s).state := by
  unfold configureStages
  split
  · exact h
  · exact h.congr (fun _ => rfl) rfl

theorem configureFeeder_lines (h : LinesLaw s) (fr : Frame) : LinesLaw (configureFeeder fr s).state := by
  unfold configureFeeder
  split
  · exact h
  · exact feederWritten_lines h _ _

theorem configureGenset_lines (h : LinesLaw s) (fr : Frame) : LinesLaw (configureGenset fr s).state := by
  unfold configureGenset
  repeat' split
  · exact h
  · exact h
  · exact setWritten_lines h _ _
  · exact h

theorem configurePv_lines (h : LinesLaw s) (fr : Frame) : LinesLaw (configurePv fr s).state := by
  unfold configurePv
  split
  · exact h
  next j _ =>
    have written (t : PvSettings) : LinesLaw (writeChannel j t s) := h.withSettings rfl rfl
    have quiet (u : State) : SameBut offLines u (pvConfigured j s (reclampChannel j u)) := by simp
    exact (written _).after (quiet _)

theorem configureInput_lines (h : LinesLaw s) (fr : Frame) : LinesLaw (configureInput fr s).state := by
  unfold configureInput
  split
  · exact h.congr (fun _ => rfl) rfl
  · exact h

theorem configurePlan_lines (h : LinesLaw s) (fr : Frame) : LinesLaw (configurePlan fr s).state := by
  unfold configurePlan
  split
  · split
    · exact h
    · exact h.withSettings rfl rfl
  · exact h

theorem configureDirectory_lines (h : LinesLaw s) (fr : Frame) : LinesLaw (configureDirectory fr s).state := by
  unfold configureDirectory
  split
  · exact h.withSettings rfl rfl
  · exact h

theorem storeSettings_frame (fr : Frame) (s : State) : SameBut [.lnk, .sto] s (storeSettings fr s).state := by
  simp [storeSettings]

/-! ### Resets and debounced changes (R37, R38) -/

/-- The lines that a reset gives are right (R38). -/
theorem initialise_lines (kind : ResetKind) (mode : Mode) (s : State) : LinesLaw (initialise kind mode s) := by
  have reset : LinesLaw (blocksReset kind mode s) := fun f => by
    have hs : (blocksReset kind mode s).settings = s.settings := rfl
    rw [blocksReset_feeder, hs]
    cases effectiveStyle s.settings f <;> simp [LinesOk]
  exact reset.after ((initialise_frame kind mode s).widen _ rfl)

theorem powerOn_lines (s : State) : LinesLaw (powerOn s) := fun f => by
  have released : (powerOn s).feeders[f] = {} := Vector.getElem_replicate _
  rw [released]
  simp [LinesOk]

theorem loadEnds_lines (image : List Byte) (s : State) : LinesLaw (loadEnds image s) := by
  cases h : loadImage image with
  | inl t =>
    rw [loadEnds_accepted h]
    exact (initialise_lines _ _ _).after ((driveAlerts_frame _).widen _ rfl)
  | inr reason =>
    rw [loadEnds_rejected h]
    exact (initialise_lines _ _ _).after (((reportDefaulted_frame _ _).trans (driveAlerts_frame _)).widen _ rfl)

theorem softReset_lines (s : State) : LinesLaw (softReset s) :=
  (initialise_lines .soft s.lnk.mode s).after ((driveAlerts_frame _).widen _ rfl)

theorem deliverInput_lines (h : LinesLaw s) (i : Fin 32) (level : Bool) : LinesLaw (deliverInput i level s) := by
  unfold deliverInput
  dsimp only
  repeat' split
  · exact feederStatusChange_lines h _ level
  · exact h.after (by simp)
  · exact h.after (by simp)
  · exact h.after (by simp)
  · exact h.after (by simp)
  · exact h

theorem debouncedTo_lines (h : LinesLaw s) (i : Fin 32) (level : Bool) : LinesLaw (debouncedTo i level s) := by
  unfold debouncedTo
  exact LinesLaw.ite h (deliverInput_lines (h.after (by simp)) i level)

theorem tenthHour_lines (h : LinesLaw s) (g : Fin 4) : LinesLaw (tenthHour g s) := h.congr (fun _ => rfl) rfl

theorem discardFrame_frame (e : LinkError) (l : Link) (s : State) : SameBut [.lnk, .evr] s (discardFrame e l s) := by
  simp [discardFrame]

theorem storeEnds_frame (readBack : List Byte) (s : State) : SameBut [.lnk, .evr, .sto] s (storeEnds readBack s) := by
  unfold storeEnds
  split <;> simp

/-! ### A step -/

/-- The commands that concern a reset, and the events of the blocks, keep the law of the lines. -/
theorem exec_event_lines {c : Instr} (hc : requestOf c = none) (h : LinesLaw s) :
    ∃ t, exec c s = .next t ∧ LinesLaw t := by
  cases c with
  | powerOnReset => exact ⟨_, rfl, powerOn_lines s⟩
  | settingsLoadEnd image =>
    refine ⟨_, rfl, ?_⟩
    split
    · exact loadEnds_lines image s
    · exact h
  | softReset =>
    refine ⟨_, rfl, ?_⟩
    split
    · exact h
    · exact LinesLaw.ite (softReset_lines s) h
  | debouncedChange i level => exact ⟨_, rfl, event_lines h (debouncedTo_lines h i level)⟩
  | pulseEnd f => exact ⟨_, rfl, event_lines h (pulseEnds_lines h f)⟩
  | operateTimerExpiry f => exact ⟨_, rfl, event_lines h (operateTimerExpires_lines h f)⟩
  | restoreDelayExpiry => exact ⟨_, rfl, event_lines h (restoreDelayExpires_lines h)⟩
  | intervalTimerExpiry => exact ⟨_, rfl, event_lines h (intervalExpires_lines h)⟩
  | confirmationTimerExpiry => exact ⟨_, rfl, event_lines h (confirmExpires_lines h)⟩
  | stepTimerExpiry => exact ⟨_, rfl, event_lines h (stepTimerExpires_lines h)⟩
  | waitTimerExpiry => exact ⟨_, rfl, event_lines h (waitTimerExpires_lines h)⟩
  | runtimeTenthHour g => exact ⟨_, rfl, event_lines h (tenthHour_lines h g)⟩
  | unknownKind kind f => exact ⟨_, rfl, takeFrame_lines h fun _ k => k⟩
  | crossing => exact ⟨_, rfl, event_quiet h (crossingArrives_frame s) rfl⟩
  | deadBusTimerExpiry => exact ⟨_, rfl, event_quiet h (deadBusExpires_frame s) rfl⟩
  | pointsBecomeStale => exact ⟨_, rfl, event_quiet h (staleTick_frame s) rfl⟩
  | holdoffTimerExpiry => exact ⟨_, rfl, event_quiet h (holdoffExpires_frame s) rfl⟩
  | creditItemExpiry f => exact ⟨_, rfl, event_quiet h (creditExpires_frame f s) rfl⟩
  | startDelayTimerExpiry => exact ⟨_, rfl, event_quiet h (startDelayExpires_frame s) rfl⟩
  | crankOnTimeExpiry g => exact ⟨_, rfl, event_quiet h (crankOnTimeExpires_frame g s) rfl⟩
  | crankRestExpiry g => exact ⟨_, rfl, event_quiet h (crankRestExpires_frame g s) rfl⟩
  | runUpExpiry g => exact ⟨_, rfl, event_quiet h (runUpExpires_frame g s) rfl⟩
  | syncTimeout g => exact ⟨_, rfl, event_quiet h (syncTimesOut_frame g s) rfl⟩
  | unloadTimeout g => exact ⟨_, rfl, event_quiet h (unloadTimesOut_frame g s) rfl⟩
  | cooldownExpiry g => exact ⟨_, rfl, event_quiet h (cooldownExpires_frame g s) rfl⟩
  | lowReserveTimerExpiry => exact ⟨_, rfl, event_quiet h (lowReserveExpires_frame s) rfl⟩
  | stopTimerExpiry => exact ⟨_, rfl, event_quiet h (stopTimerExpires_frame s) rfl⟩
  | rampTick => exact ⟨_, rfl, event_quiet h (rampTickStep_frame s) rfl⟩
  | pwmPeriodStart j => exact ⟨_, rfl, event_quiet h (pwmStart_frame j s) rfl⟩
  | pwmActiveLevelEnd j => exact ⟨_, rfl, event_quiet h (pwmActiveEnds_frame j s) rfl⟩
  | lengthError l => exact ⟨_, rfl, event_quiet h (discardFrame_frame .length l s) rfl⟩
  | checkError l => exact ⟨_, rfl, event_quiet h (discardFrame_frame .check l s) rfl⟩
  | gapError l => exact ⟨_, rfl, event_quiet h (discardFrame_frame .gap l s) rfl⟩
  | replyTransmitted l => exact ⟨_, rfl, event_quiet h (replyDone_frame l s) rfl⟩
  | supervisionTimerExpiry => exact ⟨_, rfl, event_quiet h (supervisionExpires_frame s) rfl⟩
  | storeWriteEnd readBack => exact ⟨_, rfl, event_quiet h (storeEnds_frame readBack s) rfl⟩
  | _ => exact absurd hc (by simp [requestOf])

/-- A request whose block reaches neither feeders nor settings keeps the law. -/
theorem request_quiet {kind : Byte} {g : Group} {f : Frame} {ok : Bool} {perform : State → Answer} {ps : List Part}
    (h : LinesLaw s) (k : ∀ t, SameBut ps t (perform t).state) (hp : ps.all (· ∈ offLines) = true) :
    LinesLaw (request kind g f ok perform s) :=
  takeFrame_lines h fun t ht => ht.after ((k t).widen _ hp)

theorem readFeeders_state (f : Frame) (s : State) : (readFeeders f s).state = s := by
  unfold readFeeders
  split <;> rfl

theorem readGensets_state (f : Frame) (s : State) : (readGensets f s).state = s := by
  unfold readGensets
  split <;> rfl

theorem readConfig_state (f : Frame) (s : State) : (readConfig f s).state = s := by
  unfold readConfig
  split <;> rfl

theorem readJournal_frame (f : Frame) (s : State) : SameBut [.evr] s (readJournal f s).state := by
  simp [readJournal, queryReply, State.withEvr]

theorem inputsRead_frame (s : State) : SameBut [.inputs] s (inputsRead s) := by simp [inputsRead]

/-- The queries, those with side effects, and MEASURE keep the law of the lines. -/
theorem exec_query_lines {c : Instr} {kind : Byte} {f : Frame} {ok : Bool}
    (hc : requestOf c = some (kind, .either, f, ok)) (h : LinesLaw s) : ∃ t, exec c s = .next t ∧ LinesLaw t := by
  cases c with
  | identify f => exact ⟨_, rfl, plainQuery_lines h _ f _⟩
  | getStatus f => exact ⟨_, rfl, plainQuery_lines h _ f _⟩
  | readFrequency f => exact ⟨_, rfl, plainQuery_lines h _ f _⟩
  | readPv f => exact ⟨_, rfl, plainQuery_lines h _ f _⟩
  | readStack f => exact ⟨_, rfl, plainQuery_lines h _ f _⟩
  | readEvents f => exact ⟨_, rfl, plainQuery_lines h _ f _⟩
  | peekInputs f => exact ⟨_, rfl, plainQuery_lines h _ f _⟩
  | readFeeders f => exact ⟨_, rfl, takeFrame_lines h fun t k => by rwa [readFeeders_state]⟩
  | readGensets f => exact ⟨_, rfl, takeFrame_lines h fun t k => by rwa [readGensets_state]⟩
  | readConfig f => exact ⟨_, rfl, takeFrame_lines h fun t k => by rwa [readConfig_state]⟩
  | readJournal f => exact ⟨_, rfl, request_quiet h (readJournal_frame f) rfl⟩
  | readInputs f => exact ⟨_, rfl, request_quiet h inputsRead_frame rfl⟩
  | collectMarks f => exact ⟨_, rfl, takeFrame_lines h fun t k => marksCleared_lines k⟩
  | measure f => exact ⟨_, rfl, request_quiet h (measure_frame f) rfl⟩
  | _ => exact absurd hc (by simp [requestOf])

/-- The operating requests keep the law of the lines. -/
theorem exec_operate_lines {c : Instr} {kind : Byte} {f : Frame} {ok : Bool}
    (hc : requestOf c = some (kind, .operate, f, ok)) (h : LinesLaw s) : ∃ t, exec c s = .next t ∧ LinesLaw t := by
  cases c with
  | operateFeeder f => exact ⟨_, rfl, takeFrame_lines h fun t k => operateFeeder_lines k f⟩
  | shed f => exact ⟨_, rfl, takeFrame_lines h fun t k => shed_lines k f⟩
  | restoreEntry f => exact ⟨_, rfl, takeFrame_lines h fun t k => restoreEntry_lines k f⟩
  | holdEntry f => exact ⟨_, rfl, takeFrame_lines h fun t k => holdEntry_lines k f⟩
  | releaseEntry f => exact ⟨_, rfl, takeFrame_lines h fun t k => releaseEntry_lines k f⟩
  | discardEntry f => exact ⟨_, rfl, takeFrame_lines h fun t k => discardEntry_lines k f⟩
  | setPvCeiling f => exact ⟨_, rfl, takeFrame_lines h fun t k => setPvCeiling_lines k f⟩
  | blackstartBegin f => exact ⟨_, rfl, blackstart_lines h 0 f fun t k => blkBegin_lines k⟩
  | blackstartHold f => exact ⟨_, rfl, blackstart_lines h 1 f fun t k => blkHold_lines k⟩
  | blackstartResume f => exact ⟨_, rfl, blackstart_lines h 2 f fun t k => blkResume_lines k⟩
  | blackstartAbort f => exact ⟨_, rfl, blackstart_lines h 3 f fun t k => blkAbort_lines k⟩
  | blackstartAck f => exact ⟨_, rfl, blackstart_lines h 4 f fun t k => blkAck_lines k⟩
  | startGenset f => exact ⟨_, rfl, request_quiet h (startGenset_frame f) rfl⟩
  | stopGenset f => exact ⟨_, rfl, request_quiet h (stopGenset_frame f) rfl⟩
  | resetLockout f => exact ⟨_, rfl, request_quiet h (resetLockoutRequest_frame f) rfl⟩
  | setMode f => exact ⟨_, rfl, request_quiet h (setMode_frame f) rfl⟩
  | clearEvents f => exact ⟨_, rfl, request_quiet h (clearEvents_frame f) rfl⟩
  | setEventMask f => exact ⟨_, rfl, request_quiet h (setEventMask_frame f) rfl⟩
  | clearLinkErrors f => exact ⟨_, rfl, request_quiet h (clearLinkErrors_frame f) rfl⟩
  | reset f => exact ⟨_, rfl, request_quiet h (fun t => modLnk_frame _ t) rfl⟩
  | _ => exact absurd hc (by simp [requestOf])

/-- The configuring requests keep the law of the lines. -/
theorem exec_configure_lines {c : Instr} {kind : Byte} {f : Frame} {ok : Bool}
    (hc : requestOf c = some (kind, .configure, f, ok)) (h : LinesLaw s) : ∃ t, exec c s = .next t ∧ LinesLaw t := by
  cases c with
  | configureSystem f => exact ⟨_, rfl, takeFrame_lines h fun t k => configureSystem_lines k f⟩
  | configureStages f => exact ⟨_, rfl, takeFrame_lines h fun t k => configureStages_lines k f⟩
  | configureFeeder f => exact ⟨_, rfl, takeFrame_lines h fun t k => configureFeeder_lines k f⟩
  | configureGenset f => exact ⟨_, rfl, takeFrame_lines h fun t k => configureGenset_lines k f⟩
  | configurePv f => exact ⟨_, rfl, takeFrame_lines h fun t k => configurePv_lines k f⟩
  | configureInput f => exact ⟨_, rfl, takeFrame_lines h fun t k => configureInput_lines k f⟩
  | configurePlan f => exact ⟨_, rfl, takeFrame_lines h fun t k => configurePlan_lines k f⟩
  | configureDirectory f => exact ⟨_, rfl, takeFrame_lines h fun t k => configureDirectory_lines k f⟩
  | storeSettings f => exact ⟨_, rfl, request_quiet h (storeSettings_frame f) rfl⟩
  | _ => exact absurd hc (by simp [requestOf])

theorem exec_lines (c : Instr) (h : LinesLaw s) : ∃ t, exec c s = .next t ∧ LinesLaw t := by
  cases hc : requestOf c with
  | none => exact exec_event_lines hc h
  | some r =>
    obtain ⟨kind, group, f, ok⟩ := r
    cases group with
    | either => exact exec_query_lines hc h
    | operate => exact exec_operate_lines hc h
    | configure => exact exec_configure_lines hc h

theorem takeByte_frame (l : Link) (s : State) : SameBut [.lnk, .pending] s (takeByte l s) := by
  unfold takeByte receiveNext
  dsimp only
  repeat' split
  all_goals simp

/-- A tick of the reference leaves a pulse running (R35). -/
theorem referenceTick_lines (h : LinesLaw s) : LinesLaw (referenceTick s) := by
  rcases referenceTick_cases s with e | e | e <;> rw [e]
  · exact h.after (by simp [countsTick])
  · exact h.after (by simp [millisecondBegun, countsTick])
  · intro f
    have hf : (blocksTick (millisecondBegun s)).feeders[f] = s.feeders[f].tick := by
      rw [blocksTick_eq]
      simp [millisecondBegun, countsTick]
    have hs : (blocksTick (millisecondBegun s)).settings = s.settings := by
      rw [blocksTick_eq]
      rfl
    obtain ⟨one, pulse, maintained⟩ := h f
    have ticks : ∀ t : Timer, t.tick.isRunning = t.isRunning := fun t => by cases t <;> rfl
    rw [hf, hs]
    refine ⟨one, fun e k => (ticks _).trans (pulse e k), fun e => ?_⟩
    obtain ⟨ht, hc, hp⟩ := maintained e
    exact ⟨ht, hc, by simp only [FeederCtl.tick, hp, Timer.tick]⟩

theorem idle_lines (h : LinesLaw s) : LinesLaw (idle s) := by
  unfold idle
  dsimp only
  split
  · exact referenceTick_lines h
  · exact h.after (by simp)
  · exact h.after (by simp)
  next l _ => exact h.after (((takeByte_frame l s).widen _ rfl).trans ((drawn_frame _).widen _ rfl))

end Lines

/-- Settles O13: the command at the front of the queue keeps the law, and so does the part's own time. -/
theorem everyStepKeepsTheLinesLaw : Obligations.EveryStepKeepsTheLinesLaw := by
  intro s t h hstep
  unfold step at hstep
  split at hstep
  next c rest _ =>
    obtain ⟨u, hu, lines⟩ := exec_lines c (s := { s with pending := rest }) (h.after (by simp))
    rw [hu] at hstep
    cases hstep
    exact lines
  next =>
    cases hstep
    exact idle_lines h

end Sys2Proof.Machine

/-! ## Inputs, and the timers that only end something -/

namespace Sys2Proof.Machine

/-! ### Debounced changes (R21 to R32) -/

section DebouncedChange

variable (i : Fin 32) (level : Bool) (s : State)

/-- The input has taken its new debounced value, before the value is delivered (R22). -/
def inputChanged : State := modInput i (fun c => changedInput s.settings.inputs[i] c level) s

theorem inputChanged_frame : SameBut [.inputs] s (inputChanged i level s) := modInput_frame _ _ s

theorem inputChanged_self :
    (inputChanged i level s).inputs[i] = changedInput s.settings.inputs[i] s.inputs[i] level := by
  simp [inputChanged]

theorem inputChanged_other {k : Fin 32} (h : k ≠ i) : (inputChanged i level s).inputs[k] = s.inputs[k] := by
  have hv : i.val ≠ k.val := fun e => h (Fin.ext e.symm)
  simp [inputChanged, hv]

variable {i level s}

theorem debouncedTo_changed (h : s.inputs[i].debounced ≠ level) :
    debouncedTo i level s = deliverInput i level (inputChanged i level s) := if_neg h

/-- A status input of a feeder reaches the feeder table (R22). -/
theorem deliverInput_feeder_frame (h : i.val < 16) (t : State) :
    SameBut [.feeders, .rst, .evr, .notices, .draws] t (deliverInput i level t) := by
  rw [deliverInput, dif_pos h]
  exact feederStatusChange_frame _ level t

/-- READY, RUNNING and the breaker input of a set reach the dispatcher (R22). -/
theorem deliverInput_set_frame (h : 16 ≤ i.val) (h' : i.val < 28) (t : State) :
    SameBut [.gen, .evr, .notices, .draws] t (deliverInput i level t) := by
  rw [deliverInput, dif_neg (Nat.not_lt.mpr h)]
  split
  · exact readyChange_frame _ level t
  · split
    · exact runningChange_frame _ level t
    · exact breakerChange_frame _ level t

theorem deliverInput_location (h : i.val = 28) (t : State) : deliverInput i level t = locationChange level t := by
  simp [deliverInput, h]

/-- The inputs above IN28 are assigned to no block (R22). -/
theorem deliverInput_unassigned (h : 28 < i.val) (t : State) : deliverInput i level t = t := by
  have h16 : ¬ i.val < 16 := by omega
  have h20 : ¬ i.val < 20 := by omega
  have h24 : ¬ i.val < 24 := by omega
  have h28 : ¬ i.val < 28 := by omega
  simp [deliverInput, h16, h20, h24, h28, Nat.ne_of_gt h]

/-- No delivery reaches the inputs themselves. -/
theorem deliverInput_inputs (i : Fin 32) (level : Bool) (t : State) : (deliverInput i level t).inputs = t.inputs := by
  rcases Nat.lt_or_ge i.val 16 with h | h
  · exact (deliverInput_feeder_frame h t).inputs (by decide)
  · rcases Nat.lt_trichotomy i.val 28 with h' | h' | h'
    · exact (deliverInput_set_frame h h' t).inputs (by decide)
    · rw [deliverInput_location h']
      exact (locationChange_frame level t).inputs (by decide)
    · rw [deliverInput_unassigned h']

end DebouncedChange

/-- What a debounced change makes of view and flag (R24, R26, R27). -/
theorem changedInput_view (t : InputSettings) (c : InputCtl) (level : Bool) :
    (changedInput t c level).view = if t.latch = true ∧ c.view ≠ c.lastRead then c.view else level := by
  simp [changedInput, viewAfter]

theorem changedInput_flag (t : InputSettings) (c : InputCtl) (level : Bool) :
    (changedInput t c level).flag =
      (match t.mode with
       | .none => c.flag
       | .level =>
         if (changedInput t c level).view ≠ c.lastRead then c.flag || decide (c.view = c.lastRead)
         else if t.latch then c.flag
         else false
       | .rising => c.flag || level
       | .falling => c.flag || !level
       | .any => true) := by
  unfold changedInput flagAfter
  cases t.mode <;> simp

/-- LNK takes the location of IN28 with its flag and record (R32). -/
theorem locationChange_effect (level : Bool) {s t : State} (h : SameBut [.inputs] s t) :
    (locationChange level t).lnk = { s.lnk with isLocal := level }
      ∧ (locationChange level t).evr =
          (journal .locationChanged 0 (if level then 1 else 0) (setAdv .location s)).evr := by
  have hbit : ((bit level : Nat) : Int) = if level then 1 else 0 := by cases level <;> rfl
  have hevr : (setAdv .location (modLnk (fun l => { l with isLocal := level }) t)).evr = (setAdv .location s).evr := by
    simp [h.evr (by decide)]
  refine ⟨?_, ?_⟩
  · simp [locationChange, h.lnk (by decide)]
  · rw [locationChange, hbit]
    exact journal_evr_congr _ _ _ hevr (h.time (by decide))

/-- Settles O25: the input's own record, then the block that the input is assigned to. -/
theorem debouncedChangeUpdatesItsInput : Obligations.DebouncedChangeUpdatesItsInput := by
  intro i level s hrun hne
  have hu := debouncedTo_changed hne
  have hinputs : (debouncedTo i level s).inputs = (inputChanged i level s).inputs := by
    rw [hu, deliverInput_inputs]
  have fr := inputChanged_frame i level s
  refine ⟨debouncedTo i level s, next_congr (event_running hrun), ?_, fun k hk => ?_, fun h => ?_, fun h => ?_,
    fun h => ?_, fun h => ?_⟩
  · have hself := inputChanged_self i level s
    have hview := changedInput_view s.settings.inputs[i] s.inputs[i] level
    have hflag := changedInput_flag s.settings.inputs[i] s.inputs[i] level
    rw [hinputs, hself]
    generalize s.settings.inputs[i] = t at *
    generalize s.inputs[i] = a at *
    refine ⟨rfl, rfl, rfl, rfl, rfl, fun h => ?_, fun h => ?_, fun h => ?_, fun h => ?_, fun h => ?_, fun h => ?_,
      fun h => ?_, fun h => ?_, fun h => ?_⟩
    · rw [hview, if_pos h]
    · rw [hview, if_neg (by rcases h with h | h <;> simp [h])]
    · rw [hflag, h]
    · obtain ⟨hmode, hother⟩ := h
      rw [hflag, hmode]
      exact if_pos hother
    · obtain ⟨hmode, hsame, hlatch⟩ := h
      have hlast : (changedInput t a level).view = a.lastRead := hsame
      simp [hflag, hmode, hlast, hlatch]
    · obtain ⟨hmode, hsame, hlatch⟩ := h
      have hlast : (changedInput t a level).view = a.lastRead := hsame
      simp [hflag, hmode, hlast, hlatch]
    · rw [hflag, h]
    · rw [hflag, h]
    · rw [hflag, h]
  · rw [hinputs]
    exact inputChanged_other i level s hk
  · rw [hu]
    exact (fr.widen _ rfl).trans ((deliverInput_feeder_frame h _).widen _ rfl)
  · obtain ⟨hlo, hhi⟩ := h
    rw [hu]
    exact (fr.widen _ rfl).trans ((deliverInput_set_frame hlo hhi _).widen _ rfl)
  · rw [hu, deliverInput_location h]
    obtain ⟨hlnk, hevr⟩ := locationChange_effect level fr
    exact ⟨hlnk, hevr, (fr.widen _ rfl).trans ((locationChange_frame level _).widen _ rfl)⟩
  · rw [hu, deliverInput_unassigned h]
    exact fr

/-! ### READ_INPUTS (R29, R31) -/

theorem inputsRead_input (s : State) (i : Fin 32) :
    (inputsRead s).inputs[i] = readInput s.settings.inputs[i] s.inputs[i] := by
  simp [inputsRead]

/-- Settles O26: the reply is formed on the inputs as they stood, and each input is re-armed by `readInput`. -/
theorem readInputsReturnsAndRearmsTheViews : Obligations.ReadInputsReturnsAndRearmsTheViews := by
  intro f s acc
  have hbody : readInputsBody (superviseFrame f.link s) = readInputsBody s := by
    simp only [readInputsBody, superviseFrame_inputs]
  refine ⟨inputsRead (superviseFrame f.link s), next_congr ?_, fun i => ?_, inputsRead_frame _⟩
  · rw [request_accepted acc, answer_queryReply, hbody]
  · rw [inputsRead_input, superviseFrame_settings, superviseFrame_inputs]
    exact ⟨rfl, rfl, rfl, rfl, rfl, rfl, rfl⟩

/-! ### Timers that only end something (R35, R82, R83) -/

/-- Settles O31: the end of a running pulse, of the running hold-off, and of a credit item. -/
theorem pulseHoldoffAndCreditExpire : Obligations.PulseHoldoffAndCreditExpire := by
  refine ⟨fun f s hrun hpulse => ?_, fun s hrun hholdoff => ?_, fun f s hrun => ?_⟩
  · have hact : pulseEnds f s = modFeeder f (fun c => { c with trip := false, close := false, pulse := .idle }) s :=
      if_pos hpulse
    refine ⟨pulseEnds f s, next_congr (event_running hrun), ?_, fun k hk => ?_, pulseEnds_frame f s⟩
    · rw [hact, modFeeder_self]
    · rw [hact, modFeeder_other _ _ hk]
  · have hact : holdoffExpires s = modShd (fun h => { h with holdoff := .idle }) s := if_pos hholdoff
    exact ⟨holdoffExpires s, next_congr (event_running hrun), by rw [hact]; rfl, holdoffExpires_frame s⟩
  · refine ⟨creditExpires f s, next_congr (event_running hrun), fun c => ?_, rfl, creditExpires_frame f s⟩
    simp [creditExpires]

end Sys2Proof.Machine

/-! ## CONFIGURE_FEEDER, CONFIGURE_GENSET, CONFIGURE_PV and CONFIGURE_INPUT -/

namespace Sys2Proof.Machine

/-! ### Feeders that leave the stack (R97, R98) -/

section Unlist

variable {f : Fin 16} {s t s' t' : State}

/-- What a feeder leaves behind in the stack is a matter of stack, EVR and part time. -/
theorem LeftTheStack.congr (h : LeftTheStack f s t) (hr : s'.rst = s.rst) (he : s'.evr = s.evr)
    (ht : s'.time = s.time) (hr' : t'.rst = t.rst) (he' : t'.evr = t.evr) : LeftTheStack f s' t' := by
  obtain ⟨below, above, e, hentries, hbelow, hlists, hrst, hlast, hmore⟩ := h
  have hflag : (setAdv .entryRestored s').evr = (setAdv .entryRestored s).evr := by simp [he]
  refine ⟨below, above, e, hr ▸ hentries, hbelow, hlists, ?_, fun hx => ?_, fun hx => ?_⟩
  · rw [hr', hr]
    exact hrst
  · obtain ⟨hgone, hevr⟩ := hlast hx
    exact ⟨hr' ▸ hgone, he'.trans (hevr.trans (journal_evr_congr _ _ _ hflag ht).symm)⟩
  · obtain ⟨hkept, hevr⟩ := hmore hx
    exact ⟨hr' ▸ hkept, he'.trans (hevr.trans he.symm)⟩

/-- A listed feeder stands in a first entry, with the entries below and above it. -/
theorem exists_first_listing (h : listed s f = true) :
    ∃ (i : Nat) (hi : i < s.rst.entries.length), s.rst.entries.findIdx? (fun e => e.lists f) = some i
      ∧ (s.rst.entries[i]).lists f = true ∧ ∀ d ∈ s.rst.entries.take i, d.lists f = false := by
  obtain ⟨i, hfind⟩ : ∃ i, s.rst.entries.findIdx? (fun e => e.lists f) = some i := by
    rw [← Option.isSome_iff_exists, List.findIdx?_isSome]
    exact h
  obtain ⟨hi, hlists, hbelow⟩ := List.findIdx?_eq_some_iff_getElem.mp hfind
  refine ⟨i, hi, hfind, hlists, fun d hd => ?_⟩
  obtain ⟨j, hj, rfl⟩ := List.mem_take_iff_getElem.mp hd
  simpa using hbelow j (by omega)

/-- A listed feeder that is taken out leaves the stack as R97 and R98 have it. -/
theorem unlist_left (h : listed s f = true) : LeftTheStack f s (unlist f s) := by
  obtain ⟨i, hi, hfind, hlists, hbelow⟩ := exists_first_listing h
  have hget : s.rst.entries[i]? = some s.rst.entries[i] := List.getElem?_eq_getElem hi
  have hsplit : s.rst.entries = s.rst.entries.take i ++ s.rst.entries[i] :: s.rst.entries.drop (i + 1) := by
    rw [← List.drop_eq_getElem_cons hi, List.take_append_drop]
  have hempty : ((s.rst.entries[i]).items.filter fun x => decide (x.feeder ≠ f)).isEmpty = true
      ↔ ∀ x ∈ (s.rst.entries[i]).items, x.feeder = f := by
    simp [List.isEmpty_iff, List.filter_eq_nil_iff]
  have hunlist : unlist f s =
      (let items := (s.rst.entries[i]).items.filter fun x => decide (x.feeder ≠ f)
       if items.isEmpty then
         removeEntry i (journal .entryRemoved (s.rst.entries[i]).tag.toNat 0 (setAdv .entryRestored s))
       else modEntry i (fun e => { e with items := items }) s) := by
    simp only [unlist, hfind, hget]
  refine ⟨s.rst.entries.take i, s.rst.entries.drop (i + 1), s.rst.entries[i], hsplit, hbelow, hlists, ?_,
    fun hx => ?_, fun hx => ?_⟩
  · rw [hunlist]
    dsimp only
    split <;> simp [removeEntry, modEntry, emitStack]
  · rw [hunlist]
    dsimp only
    rw [if_pos (hempty.mpr hx)]
    refine ⟨?_, by simp [removeEntry, emitStack]⟩
    simp [removeEntry, emitStack, List.eraseIdx_eq_take_drop_succ]
  · rw [hunlist]
    dsimp only
    have hne : ¬ ∀ x ∈ (s.rst.entries[i]).items, x.feeder = f := fun hall => by
      obtain ⟨x, hmem, hother⟩ := hx
      exact hother (hall x hmem)
    rw [if_neg (fun k => hne (hempty.mp k))]
    refine ⟨?_, rfl⟩
    simp [modEntry, List.modify_eq_take_cons_drop hi]

/-- A feeder that no entry lists leaves stack and EVR as they are, whatever state it enters (R97). -/
theorem changeFeeder_unlisted_frame (new : FeederState) (c : FeederCause) (h : listed s f = false) :
    SameBut [.feeders, .notices, .draws] s (changeFeeder f new c s) := by
  have stays : leaveStack f new (modFeeder f (fun c => { c with state := new }) s)
      = (modFeeder f (fun c => { c with state := new }) s, false) := by
    have k : listed (modFeeder f (fun c => { c with state := new }) s) f = false := h
    simp [leaveStack, k]
  simp only [changeFeeder, stays]
  split <;> simp

theorem listed_congr (h : t.rst = s.rst) : listed t f = listed s f := by simp only [listed, h]

/-- A change of state has the effect of `leaveStack` on stack and EVR; the announcement adds nothing to them. -/
theorem changeFeeder_stack {new : FeederState} (c : FeederCause) (h : s.feeders[f].state ≠ new) :
    (changeFeeder f new c s).rst = (leaveStack f new (modFeeder f (fun c => { c with state := new }) s)).1.rst
      ∧ (changeFeeder f new c s).evr
          = (leaveStack f new (modFeeder f (fun c => { c with state := new }) s)).1.evr := by
  simp only [changeFeeder, if_neg h]
  constructor <;> simp

/-- A listed feeder that goes OUT_OF_SERVICE leaves the stack with the record of its skip (R97, R104). -/
theorem changeFeeder_outOfService_left (c : FeederCause) (h : listed s f = true)
    (hs : s.feeders[f].state ≠ .outOfService) :
    LeftTheStack f (journal .feederSkipped f 4 s) (changeFeeder f .outOfService c s) := by
  obtain ⟨hrst, hevr⟩ := changeFeeder_stack c hs
  generalize hz : modFeeder f (fun c => { c with state := .outOfService }) s = z at hrst hevr
  have hlisted : listed z f = true := by rw [← hz]; exact h
  have hjournal : listed (journal .feederSkipped f 4 z) f = true :=
    (listed_congr (journal_rst _ _ _ z)).trans hlisted
  have hleave : (leaveStack f .outOfService z).1 = unlist f (journal .feederSkipped f 4 z) := by
    simp only [leaveStack, FeederState.unlists, hlisted, Bool.and_self, if_true]
  rw [hleave] at hrst hevr
  have hevr' : s.evr = z.evr := by rw [← hz]; rfl
  have htime : s.time = z.time := by rw [← hz]; rfl
  refine (unlist_left hjournal).congr ?_ (journal_evr_congr _ _ _ hevr' htime) ?_ hrst hevr
  · rw [journal_rst, journal_rst, ← hz]
    rfl
  · rw [journal_time, journal_time, htime]

/-! ### A changed in_service of a feeder (R60) -/

theorem changeFeeder_self (f : Fin 16) (new : FeederState) (c : FeederCause) (s : State) :
    (changeFeeder f new c s).feeders[f] = { s.feeders[f] with state := new } := by
  rw [changeFeeder_feeder]
  simp

theorem changeFeeder_other {k : Fin 16} (new : FeederState) (c : FeederCause) (s : State) (h : k ≠ f) :
    (changeFeeder f new c s).feeders[k] = s.feeders[k] := by
  have hv : f.val ≠ k.val := fun e => h (Fin.ext e.symm)
  rw [changeFeeder_feeder]
  simp [hv]

theorem lineAlign_generation (f : Fin 16) (closed : Bool) (s : State) :
    (lineAlign f closed s).feeders[f].generation = s.feeders[f].generation := by
  unfold lineAlign lineCommand
  cases effectiveStyle s.settings f
  · rfl
  · simp only [modFeeder_self]

theorem lineAlign_other {k : Fin 16} (closed : Bool) (s : State) (h : k ≠ f) :
    (lineAlign f closed s).feeders[k] = s.feeders[k] := by
  unfold lineAlign lineCommand
  cases effectiveStyle s.settings f
  · rfl
  · exact modFeeder_other _ _ h

/-- The feeder takes the state that its in_service and its status give it; its generation stands (R60). -/
theorem feederServiceChange_self (f : Fin 16) (s : State) :
    (feederServiceChange f s).feeders[f].state =
        (if s.settings.feeders[f].inService then stateOfStatus (feederStatus s f) else .outOfService)
      ∧ (feederServiceChange f s).feeders[f].generation = s.feeders[f].generation := by
  unfold feederServiceChange
  split
  · rw [changeFeeder_self]
    exact ⟨rfl, lineAlign_generation f _ s⟩
  · rw [changeFeeder_self, modFeeder_self]
    exact ⟨rfl, rfl⟩

theorem feederServiceChange_other {k : Fin 16} (s : State) (h : k ≠ f) :
    (feederServiceChange f s).feeders[k] = s.feeders[k] := by
  unfold feederServiceChange
  split
  · rw [changeFeeder_other _ _ _ h, lineAlign_other _ _ h]
  · rw [changeFeeder_other _ _ _ h, modFeeder_other _ _ h]

theorem feederServiceChange_unlisted_frame (h : listed s f = false) :
    SameBut [.feeders, .notices, .draws] s (feederServiceChange f s) := by
  unfold feederServiceChange
  split
  · have fr := lineAlign_frame f (feederStatus s f) s
    have unlisted : listed (lineAlign f (feederStatus s f) s) f = false := by
      rw [listed_congr (fr.rst (by decide)), h]
    exact (fr.widen _ rfl).trans (changeFeeder_unlisted_frame _ _ unlisted)
  · have fr := modFeeder_frame f (fun c => { c with timer := .idle }) s
    exact (fr.widen _ rfl).trans (changeFeeder_unlisted_frame _ _ h)

theorem feederServiceChange_left (h : listed s f = true) (ho : s.settings.feeders[f].inService = false)
    (hs : s.feeders[f].state ≠ .outOfService) :
    LeftTheStack f (journal .feederSkipped f 4 s) (feederServiceChange f s) := by
  have hact : feederServiceChange f s
      = changeFeeder f .outOfService .service (modFeeder f (fun c => { c with timer := .idle }) s) := by
    simp only [feederServiceChange, ho, Bool.false_eq_true, if_false]
  have hstate : (modFeeder f (fun c => { c with timer := .idle }) s).feeders[f].state ≠ .outOfService := by
    rw [modFeeder_self]
    exact hs
  have left := changeFeeder_outOfService_left .service (s := modFeeder f (fun c => { c with timer := .idle }) s) h hstate
  rw [hact]
  exact left.congr (by simp) (journal_evr_congr _ _ _ rfl rfl) (by simp) rfl rfl

/-! ### CONFIGURE_FEEDER (R52, R53) -/

theorem feederLined_self (f : Fin 16) (x : FeederSettings) (s : State) :
    (feederLined f x s).feeders[f].state = s.feeders[f].state
      ∧ (feederLined f x s).feeders[f].generation = s.feeders[f].generation + 1 := by
  unfold feederLined
  split
  · rw [feederTaken_self]
    exact ⟨rfl, rfl⟩
  · rw [lineRestyle_self, restyledFeeder, feederTaken_self]
    split <;> exact ⟨rfl, rfl⟩

theorem feederLined_settings (f : Fin 16) (x : FeederSettings) (s : State) :
    (feederLined f x s).settings = { s.settings with feeders := s.settings.feeders.set f x } :=
  (feederLined_frame f x s).settings (by decide)

theorem feederLined_written (f : Fin 16) (x : FeederSettings) (s : State) :
    SameBut [.settings, .feeders] s (feederLined f x s) :=
  (feederTaken_frame f x s).trans ((feederLined_frame f x s).widen _ rfl)

/-- What CONFIGURE_FEEDER leaves in the feeder it names and in the others (R52, R53, R60). -/
theorem feederWritten_feeder (f : Fin 16) (x : FeederSettings) (s : State) :
    (feederWritten f x s).feeders[f].generation = s.feeders[f].generation + 1
      ∧ (feederWritten f x s).feeders[f].state =
          (if s.settings.feeders[f].inService = x.inService then s.feeders[f].state
           else if x.inService then stateOfStatus (feederStatus s f) else .outOfService)
      ∧ ∀ k : Fin 16, k ≠ f → (feederWritten f x s).feeders[k] = s.feeders[k] := by
  obtain ⟨hstate, hgen⟩ := feederLined_self f x s
  obtain ⟨hstate', hgen'⟩ := feederServiceChange_self f (feederLined f x s)
  have hinputs := (feederLined_written f x s).inputs (by decide)
  have hstatus : feederStatus (feederLined f x s) f = feederStatus s f := by simp only [feederStatus, hinputs]
  have hservice : (feederLined f x s).settings.feeders[f].inService = x.inService := by
    rw [feederLined_settings]
    simp
  rw [feederWritten_eq]
  split
  · exact ⟨hgen, hstate, fun k hk => feederLined_other f x s hk⟩
  · refine ⟨hgen'.trans hgen, ?_, fun k hk => ?_⟩
    · rw [hstate', hstatus, hservice]
    · rw [feederServiceChange_other _ hk, feederLined_other f x s hk]

theorem feederWritten_settings (f : Fin 16) (x : FeederSettings) (s : State) :
    (feederWritten f x s).settings = { s.settings with feeders := s.settings.feeders.set f x } := by
  rw [feederWritten_eq, ← feederLined_settings]
  split
  · rfl
  · exact (feederServiceChange_frame f _).settings (by decide)

theorem feederWritten_frame (f : Fin 16) (x : FeederSettings) (s : State) :
    SameBut [.settings, .feeders, .rst, .evr, .notices, .draws] s (feederWritten f x s) := by
  rw [feederWritten_eq]
  split
  · exact (feederLined_written f x s).widen _ rfl
  · exact ((feederLined_written f x s).widen _ rfl).trans ((feederServiceChange_frame f _).widen _ rfl)

/-- Stack and EVR are reached only when a listed feeder changes its in_service (R97). -/
theorem feederWritten_quiet (f : Fin 16) (x : FeederSettings) (s : State)
    (h : listed s f = false ∨ s.settings.feeders[f].inService = x.inService) :
    (feederWritten f x s).rst = s.rst ∧ (feederWritten f x s).evr = s.evr := by
  have fr := feederLined_written f x s
  have lined : (feederLined f x s).rst = s.rst ∧ (feederLined f x s).evr = s.evr :=
    ⟨fr.rst (by decide), fr.evr (by decide)⟩
  obtain ⟨hrst, hevr⟩ := lined
  rw [feederWritten_eq]
  split
  next => exact ⟨hrst, hevr⟩
  next hne =>
    have unlisted : listed (feederLined f x s) f = false := (listed_congr hrst).trans (h.resolve_right hne)
    have fr' := feederServiceChange_unlisted_frame unlisted
    exact ⟨(fr'.rst (by decide)).trans hrst, (fr'.evr (by decide)).trans hevr⟩

/-- A listed feeder that is taken out of service leaves the stack with the record of its skip (R97, R104). -/
theorem feederWritten_left (f : Fin 16) (x : FeederSettings) (s : State) (h : listed s f = true)
    (hin : s.settings.feeders[f].inService = true) (hout : x.inService = false)
    (hs : s.feeders[f].state ≠ .outOfService) :
    LeftTheStack f (journal .feederSkipped f 4 s) (feederWritten f x s) := by
  have fr := feederLined_written f x s
  have hrst := fr.rst (by decide)
  have hservice : (feederLined f x s).settings.feeders[f].inService = false := by
    rw [feederLined_settings]
    simpa using hout
  have hstate : (feederLined f x s).feeders[f].state ≠ .outOfService := by
    obtain ⟨e, -⟩ := feederLined_self f x s
    rw [e]
    exact hs
  rw [feederWritten_eq, if_neg (by rw [hin, hout]; decide)]
  refine (feederServiceChange_left ((listed_congr hrst).trans h) hservice hstate).congr ?_ ?_ ?_ rfl rfl
  · rw [journal_rst, journal_rst, hrst]
  · exact journal_evr_congr _ _ _ (fr.evr (by decide)).symm (fr.time (by decide)).symm
  · rw [journal_time, journal_time, fr.time (by decide)]

end Unlist

end Sys2Proof.Machine

namespace Sys2Proof.Machine

/-! ### A changed in_service of a set (R118) -/

section Sets

variable {g : Fin 4} {s : State}

theorem genRecord_sets (k : JournalKind) (v : Int) (s : State) : (genRecord k g v s).gen.sets = s.gen.sets :=
  congrArg Gen.sets ((genRecord_frame k g v s).gen (by decide))

theorem setServiceChange_other {k : Fin 4} (s : State) (h : k ≠ g) :
    (setServiceChange g s).gen.sets[k] = s.gen.sets[k] := by
  have entered (new : SetState) (v : Int) :
      (genRecord .setAvailability g v (enterSet false .service g new .idle s)).gen.sets[k] = s.gen.sets[k] := by
    simp only [genRecord_sets]
    exact enterSet_other false .service new .idle s h
  unfold setServiceChange
  split
  · split
    · rfl
    · exact entered .unavailable 0
  · split
    · exact entered .standby 1
    · rfl
  · rfl

/-- A set at rest that is taken out of service becomes UNAVAILABLE (R118). -/
theorem setServiceChange_leaves (hs : s.gen.sets[g].state = .standby) (ho : s.settings.sets[g].inService = false) :
    (setServiceChange g s).gen.sets[g].state = .unavailable := by
  have e : setState s g = .standby := hs
  simp only [setServiceChange, e, ho, Bool.false_eq_true, if_false, genRecord_sets]
  exact enterSet_state false .service g .unavailable .idle s

/-- An UNAVAILABLE set that is taken into service while it is ready rests in STANDBY (R118). -/
theorem setServiceChange_returns (hs : s.gen.sets[g].state = .unavailable)
    (hi : s.settings.sets[g].inService = true) (hr : setReady s g = true) :
    (setServiceChange g s).gen.sets[g].state = .standby := by
  have e : setState s g = .unavailable := hs
  simp only [setServiceChange, e, hi, hr, Bool.and_self, if_true, genRecord_sets]
  exact enterSet_state false .service g .standby .idle s

/-! ### CONFIGURE_GENSET (R115) -/

/-- The settings of a set have been replaced, with the part hour of a changed run time and the point of a lowered
rating, before a changed in_service takes effect (R48, R115, R130). -/
def setRated (g : Fin 4) (x : SetSettings) (s : State) : State :=
  reclampSet g
    (if x.runtime = s.settings.sets[g].runtime then setTaken g x s
     else modSet g (fun c => { c with partHour := 0 }) (setTaken g x s))

theorem setRated_frame (g : Fin 4) (x : SetSettings) (s : State) :
    SameBut [.meas, .gen, .notices, .draws] (setTaken g x s) (setRated g x s) := by
  unfold setRated
  split <;> simp

/-- No set has changed its state so far, and the others have not changed at all. -/
theorem setRated_set (g : Fin 4) (x : SetSettings) (s : State) :
    (setRated g x s).gen.sets[g].state = s.gen.sets[g].state
      ∧ ∀ k : Fin 4, k ≠ g → (setRated g x s).gen.sets[k] = s.gen.sets[k] := by
  unfold setRated
  rw [(reclampSet_frame g _).gen (by decide)]
  split
  · exact ⟨rfl, fun _ _ => rfl⟩
  · rw [modSet_self]
    exact ⟨rfl, fun k hk => modSet_other _ _ hk⟩

/-- The dispatch timers and the shares of the channels are recomputed without a change of any set. -/
theorem setWritten_sets (g : Fin 4) (x : SetSettings) (s : State) :
    (setWritten g x s).gen.sets =
      (whenChanged (s.settings.sets[g].inService != x.inService) (setServiceChange g) (setRated g x s)).gen.sets := by
  have shares (b : Bool) (u : State) : (whenChanged b recomputeShares u).gen.sets = u.gen.sets := by
    cases b
    · rfl
    · exact congrArg Gen.sets ((recomputeShares_frame u).gen (by decide))
  have timers (b : Bool) (u : State) : (whenChanged b evalDispatch u).gen.sets = u.gen.sets := by
    cases b <;> rfl
  exact (shares _ _).trans (timers _ _)

theorem setWritten_settings (g : Fin 4) (x : SetSettings) (s : State) :
    (setWritten g x s).settings = { s.settings with sets := s.settings.sets.set g x } :=
  (setWritten_frame g x s).settings (by decide)

theorem setWritten_whole (g : Fin 4) (x : SetSettings) (s : State) :
    SameBut [.settings, .meas, .gen, .cur, .evr, .notices, .draws] s (setWritten g x s) := by
  have taken : SameBut [.settings] s (setTaken g x s) := by simp [setTaken]
  exact (taken.widen _ rfl).trans ((setWritten_frame g x s).widen _ rfl)

theorem setWritten_other {k : Fin 4} (x : SetSettings) (s : State) (h : k ≠ g) :
    (setWritten g x s).gen.sets[k] = s.gen.sets[k] := by
  obtain ⟨-, hother⟩ := setRated_set g x s
  rw [setWritten_sets]
  unfold whenChanged
  split
  · rw [setServiceChange_other _ h, hother k h]
  · exact hother k h

/-- The settings that a changed in_service finds (R118). -/
theorem setRated_inService (g : Fin 4) (x : SetSettings) (s : State) :
    (setRated g x s).settings.sets[g].inService = x.inService := by
  rw [(setRated_frame g x s).settings (by decide)]
  simp [setTaken]

theorem setWritten_leaves (x : SetSettings) (hs : s.gen.sets[g].state = .standby)
    (hi : s.settings.sets[g].inService = true) (ho : x.inService = false) :
    (setWritten g x s).gen.sets[g].state = .unavailable := by
  obtain ⟨hstate, -⟩ := setRated_set g x s
  rw [setWritten_sets, hi, ho]
  exact setServiceChange_leaves (hstate.trans hs) ((setRated_inService g x s).trans ho)

theorem setWritten_returns (x : SetSettings) (hs : s.gen.sets[g].state = .unavailable)
    (ho : s.settings.sets[g].inService = false) (hi : x.inService = true) (hr : setReady s g = true) :
    (setWritten g x s).gen.sets[g].state = .standby := by
  obtain ⟨hstate, -⟩ := setRated_set g x s
  have hready : setReady (setRated g x s) g = true := by
    unfold setReady
    rw [(setRated_frame g x s).inputs (by decide)]
    exact hr
  rw [setWritten_sets, hi, ho]
  exact setServiceChange_returns (hstate.trans hs) ((setRated_inService g x s).trans hi) hready

/-- Check 5 of CONFIGURE_GENSET (R115, log 36). -/
theorem gensetWrongMode_iff {fr : Frame} (h : fr.byte 0 = g) :
    gensetWrongMode fr s = true ↔ s.lnk.mode = .auto
      ∧ (min 4 (fr.byte 32) ≠ s.settings.sets[g].rankOverride ∨ fr.field 8 2 ≠ s.settings.sets[g].energyKws) := by
  simp only [gensetWrongMode, h, objectOf_val, Bool.and_eq_true, Bool.or_eq_true, decide_eq_true_eq]

theorem gensetWrongMode_superviseFrame (fr : Frame) (l : Link) (s : State) :
    gensetWrongMode fr (superviseFrame l s) = gensetWrongMode fr s := by
  simp only [gensetWrongMode, superviseFrame_mode, superviseFrame_settings]

theorem gensetWrongMode_of_le {fr : Frame} (h : 4 ≤ fr.byte 0) : gensetWrongMode fr s = false := by
  simp only [gensetWrongMode, objectOf_of_le h]

end Sets

end Sys2Proof.Machine

namespace Sys2Proof.Machine

/-! ### Channels after a write of their settings (R140, R149, R155) -/

section Channels

variable {s t : State} {j k : Fin 6}

/-- The notice of a frame leaves the channels alone: a restoration of supervision keeps the latches (R143). -/
theorem superviseFrame_channels (l : Link) (s : State) : (superviseFrame l s).cur.channels = s.cur.channels := by
  cases l
  · unfold superviseFrame restoreSupervision
    dsimp only
    split
    · rfl
    · simp [curOnSupervision]
  · rfl

/-- The target of a channel is a matter of its constraints, and of settings, mode and zero hold (R150). -/
theorem pvTarget_congr (hs : t.settings = s.settings) (hm : t.lnk.mode = s.lnk.mode)
    (hz : t.cur.zeroHold = s.cur.zeroHold) (hq : t.cur.seqActive = s.cur.seqActive) {v : Int} {r : Nat} {p : Pwm}
    (hc : t.cur.channels[k] = { s.cur.channels[k] with limit := v, remainder := r, pwm := p }) :
    pvTarget t k = pvTarget s k := by
  simp only [pvTarget, effectiveCeiling, baseCeiling, releaseLimit, hs, hm, hz, hq, hc]

/-- Channels that take their targets leave the rest of the unit as it is. -/
theorem applyTargets_cur (s : State) :
    (applyTargets s).cur.zeroHold = s.cur.zeroHold ∧ (applyTargets s).cur.seqActive = s.cur.seqActive := by
  have taken : ∀ (l : List (Fin 6)) (t : State),
      (l.foldl (fun u i => applyTarget i u) t).cur.zeroHold = t.cur.zeroHold
        ∧ (l.foldl (fun u i => applyTarget i u) t).cur.seqActive = t.cur.seqActive := by
    intro l
    induction l with
    | nil => exact fun t => ⟨rfl, rfl⟩
    | cons i l ih => exact fun t => ih (applyTarget i t)
  exact taken _ s

/-- In AUTO a channel whose target is at or below its limit takes the target at once, and the others stand, the target
being that of the state that the targets leave (R150). -/
theorem applyTargets_auto (hm : s.lnk.mode = .auto) (k : Fin 6) :
    (pvTarget (applyTargets s) k ≤ s.cur.channels[k].limit →
        (applyTargets s).cur.channels[k].limit = pvTarget (applyTargets s) k
          ∧ (applyTargets s).cur.channels[k].remainder = 0)
      ∧ (s.cur.channels[k].limit < pvTarget (applyTargets s) k →
        (applyTargets s).cur.channels[k].limit = s.cur.channels[k].limit
          ∧ (applyTargets s).cur.channels[k].remainder = s.cur.channels[k].remainder) := by
  have fr := applyTargets_frame s
  obtain ⟨hz, hq⟩ := applyTargets_cur s
  have hc : (applyTargets s).cur.channels[k] = (setLimit k (limitAtTarget s k).1 (limitAtTarget s k).2 s).cur.channels[k] :=
    applyTargets_channel s k
  rw [setLimit_self] at hc
  have ht := pvTarget_congr (fr.settings (by decide)) (congrArg Lnk.mode (fr.lnk (by decide))) hz hq hc
  have hl : limitAtTarget s k =
      if pvTarget s k ≤ s.cur.channels[k].limit then (pvTarget s k, 0)
      else (s.cur.channels[k].limit, s.cur.channels[k].remainder) := by
    simp only [limitAtTarget, hm]
  rw [ht, hc, hl]
  constructor <;> intro h
  · rw [if_pos h]
    exact ⟨rfl, rfl⟩
  · rw [if_neg (Int.not_le.mpr h)]
    exact ⟨rfl, rfl⟩

/-- A channel out of service whose limit is 0 keeps that limit with its target (R155). -/
theorem applyTarget_outOfService (ho : s.settings.channels[k].inService = false) (hl : s.cur.channels[k].limit = 0) :
    (applyTarget k s).cur.channels[k].limit = 0 := by
  have hv : (limitAtTarget s k).1 = 0 := by
    cases hm : s.lnk.mode <;> simp_all [limitAtTarget, effectiveCeiling, pvTarget]
  rw [applyTarget, setLimit_self]
  exact hv

/-- New shares are all that a computation of the shares brings to a channel (R148, R149). -/
theorem newShares_channel (s : State) (k : Fin 6) :
    ∃ x, (newShares s).cur.channels[k] = { s.cur.channels[k] with share := x } := by
  have shared (m : Fin 6 → Option Int) : ∀ (l : List (Fin 6)) (t : State),
      ∃ x, (l.foldl (fun u i => modChannel i (fun c => { c with share := m i }) u) t).cur.channels[k]
        = { t.cur.channels[k] with share := x } := by
    intro l
    induction l with
    | nil => exact fun t => ⟨_, rfl⟩
    | cons i l ih =>
      intro t
      obtain ⟨x, hx⟩ := ih (modChannel i (fun c => { c with share := m i }) t)
      refine ⟨x, hx.trans ?_⟩
      by_cases e : k = i
      · subst e
        rw [modChannel_self]
      · rw [modChannel_other _ _ e]
  unfold newShares
  split
  · exact ⟨_, rfl⟩
  · exact shared _ _ _

/-! ### CONFIGURE_PV, by its effects in turn -/

/-- References and pending duty have followed a changed rating (R155). -/
def pvRated (j : Fin 6) (s : State) : State :=
  modChannel j (fun c =>
    { c with
      reference := c.reference.map (fun r => min r (s.settings.channels[j].ratedKw : Int))
      pwm := { c.pwm with pending := dutyOf c.limit s.settings.channels[j].ratedKw } }) s

/-- The channel has left service, with limit 0 and without droop, or has returned during a droop (R145, R155). -/
def pvServiced (j : Fin 6) (was is : Bool) (s : State) : State :=
  if was && !is then
    setLimit j 0 0 (modChannel j (fun c => { c with reference := none, droopLimit := none, share := none }) s)
  else if !was && is && s.cur.droopActive then
    modChannel j (fun c => { c with reference := some (channelOutput s j) }) s
  else s

theorem pvConfigured_eq (j : Fin 6) (before s : State) :
    pvConfigured j before s =
      (let old := before.settings.channels[j]
       let new := s.settings.channels[j]
       let t := newShares (pvServiced j old.inService new.inService (pvRated j s))
       if ceilingSettingsMoved old new then applyTargets t else retarget before t) := rfl

theorem ceilingSettingsMoved_iff (old new : PvSettings) :
    ceilingSettingsMoved old new = true ↔ old.inService ≠ new.inService ∨ old.ratedKw ≠ new.ratedKw
      ∨ old.hostCeiling ≠ new.hostCeiling ∨ old.fallbackCeiling ≠ new.fallbackCeiling := by
  simp only [ceilingSettingsMoved, Bool.or_eq_true, decide_eq_true_eq, ne_comm, or_assoc]

/-- A channel keeps limit and remainder up to the recomputation of the targets, unless it leaves service. -/
theorem pvServiced_limit {was is : Bool} (h : k ≠ j ∨ is = true ∨ was = false) :
    (pvServiced j was is (pvRated j s)).cur.channels[k].limit = s.cur.channels[k].limit
      ∧ (pvServiced j was is (pvRated j s)).cur.channels[k].remainder = s.cur.channels[k].remainder := by
  unfold pvServiced pvRated
  by_cases e : k = j
  · subst e
    have hstays : ¬ (was && !is) = true := by
      rcases h with h | rfl | rfl
      · exact absurd rfl h
      · simp
      · simp
    rw [if_neg hstays]
    split
    · rw [modChannel_self, modChannel_self]
      exact ⟨rfl, rfl⟩
    · rw [modChannel_self]
      exact ⟨rfl, rfl⟩
  · split
    · rw [setLimit_other _ _ _ e, modChannel_other _ _ e, modChannel_other _ _ e]
      exact ⟨rfl, rfl⟩
    · split
      · rw [modChannel_other _ _ e, modChannel_other _ _ e]
        exact ⟨rfl, rfl⟩
      · rw [modChannel_other _ _ e]
        exact ⟨rfl, rfl⟩

/-- A channel that leaves service has limit 0 and neither reference nor droop limit (R155, log 46). -/
theorem pvServiced_leaves (j : Fin 6) (s : State) :
    (pvServiced j true false s).cur.channels[j].limit = 0
      ∧ (pvServiced j true false s).cur.channels[j].reference = none
      ∧ (pvServiced j true false s).cur.channels[j].droopLimit = none := by
  have e : pvServiced j true false s =
      setLimit j 0 0 (modChannel j (fun c => { c with reference := none, droopLimit := none, share := none }) s) := rfl
  rw [e, setLimit_self, modChannel_self]
  exact ⟨rfl, rfl, rfl⟩

theorem pvServiced_frame (j : Fin 6) (was is : Bool) (s : State) :
    SameBut [.cur] s (newShares (pvServiced j was is (pvRated j s))) := by
  have serviced : SameBut [.cur] s (pvServiced j was is (pvRated j s)) := by
    unfold pvServiced pvRated
    repeat' split
    all_goals simp
  simpa using serviced

/-- The channel that CONFIGURE_PV takes out of service, or leaves there, has limit 0 (R140, R155). -/
theorem pvConfigured_outOfService {before : State} (ho : s.settings.channels[j].inService = false)
    (hl : before.settings.channels[j].inService = true ∨ s.cur.channels[j].limit = 0) :
    (pvConfigured j before s).cur.channels[j].limit = 0 := by
  generalize hx : newShares (pvServiced j before.settings.channels[j].inService
    s.settings.channels[j].inService (pvRated j s)) = x
  have hout : x.settings.channels[j].inService = false := by
    rw [← hx, (pvServiced_frame _ _ _ s).settings (by decide), ho]
  have hzero : x.cur.channels[j].limit = 0 := by
    obtain ⟨v, hv⟩ := newShares_channel (pvServiced j before.settings.channels[j].inService
      s.settings.channels[j].inService (pvRated j s)) j
    rw [← hx, hv, ho]
    cases hb : before.settings.channels[j].inService with
    | true =>
      obtain ⟨hlimit, -⟩ := pvServiced_leaves j (pvRated j s)
      exact hlimit
    | false =>
      obtain ⟨hlimit, -⟩ := pvServiced_limit (s := s) (k := j) (j := j) (is := false) (Or.inr (Or.inr rfl))
      exact hlimit.trans (hl.resolve_left (by rw [hb]; decide))
  have htarget := applyTarget_outOfService hout hzero
  rw [pvConfigured_eq]
  dsimp only
  rw [hx]
  split
  · rw [applyTargets_channel]
    exact htarget
  · rw [retarget_channel]
    split
    · exact hzero
    · exact htarget

/-- A channel that leaves service loses its reference and its droop limit (R155, log 46). -/
theorem pvConfigured_leaves {before : State} (hi : before.settings.channels[j].inService = true)
    (ho : s.settings.channels[j].inService = false) :
    (pvConfigured j before s).cur.channels[j].reference = none
      ∧ (pvConfigured j before s).cur.channels[j].droopLimit = none := by
  have hmoved : ceilingSettingsMoved before.settings.channels[j] s.settings.channels[j] = true :=
    (ceilingSettingsMoved_iff _ _).mpr (Or.inl (by rw [hi, ho]; decide))
  obtain ⟨-, href, hdroop⟩ := pvServiced_leaves j (pvRated j s)
  obtain ⟨v, hv⟩ := newShares_channel (pvServiced j true false (pvRated j s)) j
  rw [pvConfigured_eq]
  dsimp only
  rw [if_pos hmoved, hi, ho, applyTargets_channel, applyTarget, setLimit_self, hv]
  exact ⟨href, hdroop⟩

/-- Where in_service, rated_kw or a ceiling changes, the target of every channel is recomputed in AUTO (R140, R150). -/
theorem pvConfigured_auto {before : State}
    (hmoved : ceilingSettingsMoved before.settings.channels[j] s.settings.channels[j] = true)
    (hm : s.lnk.mode = .auto) (hk : k ≠ j ∨ s.settings.channels[j].inService = true) :
    let u := pvConfigured j before s
    (pvTarget u k ≤ s.cur.channels[k].limit →
        u.cur.channels[k].limit = pvTarget u k ∧ u.cur.channels[k].remainder = 0)
      ∧ (s.cur.channels[k].limit < pvTarget u k →
        u.cur.channels[k].limit = s.cur.channels[k].limit
          ∧ u.cur.channels[k].remainder = s.cur.channels[k].remainder) := by
  generalize hy : pvServiced j before.settings.channels[j].inService s.settings.channels[j].inService (pvRated j s) = y
  have hstands : y.cur.channels[k].limit = s.cur.channels[k].limit
      ∧ y.cur.channels[k].remainder = s.cur.channels[k].remainder := by
    rw [← hy]
    exact pvServiced_limit (hk.imp_right Or.inl)
  obtain ⟨hlimit, hrem⟩ := hstands
  obtain ⟨v, hv⟩ := newShares_channel y k
  have hmode : (newShares y).lnk.mode = .auto := by
    rw [← hy, (pvServiced_frame _ _ _ s).lnk (by decide), hm]
  have hauto := applyTargets_auto hmode k
  rw [hv] at hauto
  dsimp only at hauto
  rw [hlimit, hrem] at hauto
  rw [pvConfigured_eq]
  dsimp only
  rw [if_pos hmoved, hy]
  exact hauto

end Channels

end Sys2Proof.Machine

namespace Sys2Proof.Machine

/-! ### The configuring requests of one object (R182) -/

section Requests

variable {fr : Frame} {s : State}

theorem configureFeeder_of_le (h : 16 ≤ fr.byte 0) (s : State) : configureFeeder fr s = refuse .badIndex s := by
  simp only [configureFeeder, objectOf_of_le h]

theorem configureFeeder_of_val {f : Fin 16} (h : fr.byte 0 = f) (s : State) :
    configureFeeder fr s =
      (let raw := FeederSettings.ofBytes (fr.payload.drop 1)
       reply (if raw.clamped = raw then .ok else .okClamped) (feederReply f) (feederWritten f raw.clamped s)) := by
  simp only [configureFeeder, h, objectOf_val, okStatus_ne]

theorem configurePv_of_le (h : 6 ≤ fr.byte 0) (s : State) : configurePv fr s = refuse .badIndex s := by
  simp only [configurePv, objectOf_of_le h]

theorem configurePv_of_val {j : Fin 6} (h : fr.byte 0 = j) (s : State) :
    configurePv fr s =
      (let raw := PvSettings.ofBytes (fr.payload.drop 1)
       reply (if raw.clamped = raw then .ok else .okClamped)
         (fun t => unsigned 2 (effectiveCeiling t j) ++ unsigned 2 t.cur.channels[j].limit)
         (pvConfigured j s (reclampChannel j (writeChannel j raw.clamped s)))) := by
  simp only [configurePv, h, objectOf_val, okStatus_ne]

/-- A number above the last input, or a code that names nothing, is refused (R182). -/
theorem configureInput_badIndex (h : 32 ≤ fr.byte 0 ∨ InputSettings.ofBytes (fr.payload.drop 1) = none) (s : State) :
    configureInput fr s = refuse .badIndex s := by
  unfold configureInput
  rcases h with h | h
  · rw [objectOf_of_le h]
  · rw [h]
    split
    next hnone => cases hnone
    next => rfl

theorem configureInput_of_val {i : Fin 32} {t : InputSettings} (h : fr.byte 0 = i)
    (ht : InputSettings.ofBytes (fr.payload.drop 1) = some t) (s : State) :
    configureInput fr s = reply .ok (fun _ => []) (inputWritten i t s) := by
  simp only [configureInput, h, objectOf_val, ht]

/-- A number above the last set, or a code that names nothing, is refused once check 5 has passed (R182). -/
theorem configureGenset_badIndex (hmode : gensetWrongMode fr s = false)
    (h : 4 ≤ fr.byte 0 ∨ SetSettings.ofBytes (fr.payload.drop 1) = none) :
    configureGenset fr s = refuse .badIndex s := by
  unfold configureGenset
  rw [if_neg (by rw [hmode]; decide)]
  rcases h with h | h
  · rw [objectOf_of_le h]
  · rw [h]
    split
    next hnone => cases hnone
    next => rfl

theorem configureGenset_wrongMode (h : gensetWrongMode fr s = true) : configureGenset fr s = refuse .wrongMode s :=
  if_pos h

theorem configureGenset_of_val {g : Fin 4} {raw : SetSettings} (hmode : gensetWrongMode fr s = false)
    (h : fr.byte 0 = g) (hraw : SetSettings.ofBytes (fr.payload.drop 1) = some raw) :
    configureGenset fr s =
      if s.settings.sets[g].inService = true ∧ ¬ raw.inService = true ∧ s.gen.sets[g].state.stoppable = true then
        refuse .wrongState s
      else
        reply (if raw.clamped = raw then .ok else .okClamped) (setReply g) (setWritten g raw.clamped s) := by
  unfold configureGenset
  rw [if_neg (by rw [hmode]; decide)]
  simp only [h, objectOf_val, hraw, okStatus_ne]
  rfl

end Requests

section Written

variable {fr : Frame} {s : State}

/-- CONFIGURE_FEEDER of a feeder that there is (R52, R53, R60, R97). -/
theorem configureFeeder_performed (acc : Accepts .configure fr (fr.len == 10) s) {f : Fin 16} (hf : fr.byte 0 = f) :
    let h := superviseFrame fr.link s
    let raw := FeederSettings.ofBytes (fr.payload.drop 1)
    ∃ u, exec (.configureFeeder fr) s =
        .next (withReply 0x42 fr (if raw.clamped = raw then .ok else .okClamped) (feederReply f (conclude u))
          (conclude u))
      ∧ u.settings = { s.settings with feeders := s.settings.feeders.set f raw.clamped }
      ∧ u.feeders[f].generation = s.feeders[f].generation + 1
      ∧ u.feeders[f].state =
          (if s.settings.feeders[f].inService = raw.inService then s.feeders[f].state
           else if raw.inService then stateOfStatus (feederStatus s f) else .outOfService)
      ∧ (∀ k : Fin 16, k ≠ f → u.feeders[k] = s.feeders[k])
      ∧ (listed s f = false ∨ s.settings.feeders[f].inService = raw.inService → u.rst = s.rst ∧ u.evr = h.evr)
      ∧ (listed s f = true → s.settings.feeders[f].inService = true → raw.inService = false →
          s.feeders[f].state ≠ .outOfService → LeftTheStack f (journal .feederSkipped f 4 h) u)
      ∧ SameBut [.settings, .feeders, .rst, .evr, .notices, .draws] h u := by
  intro h raw
  have hrst : h.rst = s.rst := (superviseFrame_frame fr.link s).rst (by decide)
  have hsettings : h.settings = s.settings := superviseFrame_settings fr.link s
  have hfeeders : h.feeders = s.feeders := superviseFrame_feeders fr.link s
  have hstatus : feederStatus h f = feederStatus s f := by
    simp only [feederStatus, h, superviseFrame_inputs]
  have hlisted : listed h f = listed s f := listed_congr hrst
  obtain ⟨hgen, hstate, hother⟩ := feederWritten_feeder f raw.clamped h
  have hset := feederWritten_settings f raw.clamped h
  have hquiet := feederWritten_quiet f raw.clamped h
  have hleft := feederWritten_left f raw.clamped h
  simp only [hsettings, hfeeders, hstatus, hlisted, hrst] at hgen hstate hother hset hquiet hleft
  exact ⟨feederWritten f raw.clamped h, next_congr (request_performed acc (configureFeeder_of_val hf h)),
    hset, hgen, hstate, hother, hquiet, hleft, feederWritten_frame f raw.clamped h⟩

/-- CONFIGURE_GENSET of a set that there is, once check 5 has passed (R115, R118). -/
theorem configureGenset_performed (acc : Accepts .configure fr (fr.len == 37) s) (hmode : gensetWrongMode fr s = false)
    {g : Fin 4} {raw : SetSettings} (hg : fr.byte 0 = g)
    (hraw : SetSettings.ofBytes (fr.payload.drop 1) = some raw) :
    let h := superviseFrame fr.link s
    (s.settings.sets[g].inService = true → raw.inService = false → s.gen.sets[g].state.stoppable = true →
        exec (.configureGenset fr) s = .next (withReply 0x43 fr .wrongState [] (conclude h)))
      ∧ (s.settings.sets[g].inService = false ∨ raw.inService = true ∨ s.gen.sets[g].state.stoppable = false →
          ∃ u, exec (.configureGenset fr) s =
              .next (withReply 0x43 fr (if raw.clamped = raw then .ok else .okClamped)
                (setReply g (conclude u)) (conclude u))
            ∧ u.settings = { s.settings with sets := s.settings.sets.set g raw.clamped }
            ∧ (s.gen.sets[g].state = .standby → s.settings.sets[g].inService = true →
                raw.inService = false → u.gen.sets[g].state = .unavailable)
            ∧ (s.gen.sets[g].state = .unavailable → s.settings.sets[g].inService = false →
                raw.inService = true → setReady s g = true → u.gen.sets[g].state = .standby)
            ∧ (∀ k : Fin 4, k ≠ g → u.gen.sets[k] = s.gen.sets[k])
            ∧ SameBut [.settings, .meas, .gen, .cur, .evr, .notices, .draws] h u) := by
  intro h
  have hgen : h.gen = s.gen := (superviseFrame_frame fr.link s).gen (by decide)
  have hsettings : h.settings = s.settings := superviseFrame_settings fr.link s
  have hready : setReady h g = setReady s g := by
    simp only [setReady, h, superviseFrame_inputs]
  have hact := configureGenset_of_val ((gensetWrongMode_superviseFrame fr fr.link s).trans hmode) hg hraw
  change configureGenset fr h = _ at hact
  rw [hsettings, hgen] at hact
  refine ⟨fun hin hout hrun => ?_, fun hfree => ?_⟩
  · rw [if_pos ⟨hin, by rw [hout]; decide, hrun⟩] at hact
    exact next_congr (request_refused acc hact)
  · rw [if_neg (fun ⟨hin, hout, hrun⟩ => by
      rcases hfree with e | e | e
      · rw [e] at hin; cases hin
      · exact hout e
      · rw [e] at hrun; cases hrun)] at hact
    have hset := setWritten_settings g raw.clamped h
    have hleaves := setWritten_leaves (g := g) (s := h) raw.clamped
    have hreturns := setWritten_returns (g := g) (s := h) raw.clamped
    have hother (k : Fin 4) := setWritten_other (g := g) (k := k) raw.clamped h
    simp only [hsettings, hgen, hready] at hset hleaves hreturns hother
    exact ⟨setWritten g raw.clamped h, next_congr (request_performed acc hact),
      hset, hleaves, hreturns, hother, setWritten_whole g raw.clamped h⟩

/-- CONFIGURE_PV of a channel that there is (R140, R149, R155). -/
theorem configurePv_performed (acc : Accepts .configure fr (fr.len == 11) s) {j : Fin 6} (hj : fr.byte 0 = j) :
    let h := superviseFrame fr.link s
    let raw := PvSettings.ofBytes (fr.payload.drop 1)
    ∃ u, exec (.configurePv fr) s =
        .next (withReply 0x44 fr (if raw.clamped = raw then .ok else .okClamped)
          (unsigned 2 (effectiveCeiling (conclude u) j) ++ unsigned 2 (conclude u).cur.channels[j].limit)
          (conclude u))
      ∧ u.settings = { s.settings with channels := s.settings.channels.set j raw.clamped }
      ∧ (LimitLaw s → raw.inService = false → u.cur.channels[j].limit = 0)
      ∧ (let old := s.settings.channels[j]
         let t := raw.clamped
         old.inService ≠ t.inService ∨ old.ratedKw ≠ t.ratedKw ∨ old.hostCeiling ≠ t.hostCeiling
            ∨ old.fallbackCeiling ≠ t.fallbackCeiling →
          s.lnk.mode = .auto → ∀ k : Fin 6, k ≠ j ∨ t.inService = true →
            let a := s.cur.channels[k]
            let b := u.cur.channels[k]
            (pvTarget u k ≤ a.limit → b.limit = pvTarget u k ∧ b.remainder = 0)
              ∧ (a.limit < pvTarget u k → b.limit = a.limit ∧ b.remainder = a.remainder))
      ∧ (s.settings.channels[j].inService = true → raw.inService = false →
          u.cur.channels[j].reference = none ∧ u.cur.channels[j].droopLimit = none)
      ∧ SameBut [.settings, .meas, .cur, .notices, .draws] h u := by
  intro h raw
  have hsettings : h.settings = s.settings := superviseFrame_settings fr.link s
  generalize hx : reclampChannel j (writeChannel j raw.clamped h) = x
  have fr₁ : SameBut [.meas, .notices, .draws] (writeChannel j raw.clamped h) x := by
    rw [← hx]
    exact reclampChannel_frame j _
  have fr₂ : SameBut [.settings, .meas, .notices, .draws] h x :=
    ((writeChannel_frame j raw.clamped h).widen _ rfl).trans (fr₁.widen _ rfl)
  have hchannels : x.cur.channels = s.cur.channels := by
    rw [fr₂.cur (by decide)]
    exact superviseFrame_channels fr.link s
  have hmode : x.lnk.mode = s.lnk.mode := by
    rw [fr₂.lnk (by decide)]
    exact superviseFrame_mode fr.link s
  have hset : x.settings = { s.settings with channels := s.settings.channels.set j raw.clamped } := by
    rw [fr₁.settings (by decide), ← hsettings]
    rfl
  have hnew : x.settings.channels[j] = raw.clamped := by
    rw [hset]
    simp
  have fr₃ := pvConfigured_frame j h x
  have hu : configurePv fr h = _ := configurePv_of_val hj h
  dsimp only at hu
  rw [hx] at hu
  refine ⟨pvConfigured j h x, next_congr (request_performed acc hu), (fr₃.settings (by decide)).trans hset,
    fun law hout => ?_, fun hmoved hauto k hk => ?_, fun hin hout => ?_,
    (fr₂.widen _ rfl).trans (fr₃.widen _ rfl)⟩
  · refine pvConfigured_outOfService (by rw [hnew]; exact hout) ?_
    rw [hsettings, hchannels]
    cases hin : s.settings.channels[j].inService with
    | true => exact Or.inl rfl
    | false =>
      obtain ⟨hok, hle⟩ := law j
      have hceil : effectiveCeiling s j = 0 := by
        simp only [effectiveCeiling, hin, Bool.false_eq_true, if_false]
      have hnonneg := hok.limit
      rw [hceil] at hle
      exact Or.inr (by omega)
  · have hold : ceilingSettingsMoved h.settings.channels[j] x.settings.channels[j] = true := by
      rw [hnew, hsettings]
      exact (ceilingSettingsMoved_iff _ _).mpr hmoved
    have hall := pvConfigured_auto (k := k) hold (hmode.trans hauto) (by rw [hnew]; exact hk)
    rw [hchannels] at hall
    exact hall
  · exact pvConfigured_leaves (by rw [hsettings]; exact hin) (by rw [hnew]; exact hout)

/-- What CONFIGURE_INPUT makes of view and flag (R25, R28). -/
theorem inputWritten_self (i : Fin 32) (t : InputSettings) (s : State) :
    (inputWritten i t s).inputs[i] = configuredInput s.settings.inputs[i] t s.inputs[i] := by
  simp [inputWritten]

theorem inputWritten_other {i k : Fin 32} (t : InputSettings) (s : State) (h : k ≠ i) :
    (inputWritten i t s).inputs[k] = s.inputs[k] := by
  have hv : i.val ≠ k.val := fun e => h (Fin.ext e.symm)
  simp [inputWritten, hv]

/-- CONFIGURE_INPUT of an input that there is (R25, R28). -/
theorem configureInput_performed (acc : Accepts .configure fr (fr.len == 5) s) {i : Fin 32} {t : InputSettings}
    (hi : fr.byte 0 = i) (ht : InputSettings.ofBytes (fr.payload.drop 1) = some t) :
    let h := superviseFrame fr.link s
    ∃ u, exec (.configureInput fr) s = .next (withReply 0x45 fr .ok [] (conclude u))
      ∧ u.settings = { s.settings with inputs := s.settings.inputs.set i t }
      ∧ (let a := s.inputs[i]
         let b := u.inputs[i]
         let old := s.settings.inputs[i]
         b.debounced = a.debounced ∧ b.counter = a.counter ∧ b.prev = a.prev ∧ b.lastRead = a.lastRead
          ∧ b.view = (if old.latch = true ∧ t.latch = false then a.debounced else a.view)
          ∧ (old.mode ≠ t.mode → b.flag = false)
          ∧ (old.mode = t.mode → t.mode = .level → old.latch = true → t.latch = false →
              b.flag = (b.view != a.lastRead))
          ∧ (old.mode = t.mode → old.latch = t.latch → b.flag = a.flag))
      ∧ (∀ k : Fin 32, k ≠ i → u.inputs[k] = s.inputs[k])
      ∧ SameBut [.settings, .inputs] h u := by
  intro h
  have hsettings : h.settings = s.settings := superviseFrame_settings fr.link s
  have hinputs : h.inputs = s.inputs := superviseFrame_inputs fr.link s
  have hself := inputWritten_self i t h
  have hother (k : Fin 32) := inputWritten_other (i := i) (k := k) t h
  rw [hsettings, hinputs] at hself
  simp only [hinputs] at hother
  have hset : (inputWritten i t h).settings = { h.settings with inputs := h.settings.inputs.set i t } := rfl
  rw [hsettings] at hset
  refine ⟨inputWritten i t h, next_congr (request_performed acc (configureInput_of_val hi ht h)), hset, ?_, hother,
    inputWritten_frame i t h⟩
  rw [hself]
  generalize s.settings.inputs[i] = old
  generalize s.inputs[i] = a
  refine ⟨rfl, rfl, rfl, rfl, ?_, fun hmode => ?_, fun hmode hlevel hwas his => ?_, fun hmode hlatch => ?_⟩
  · simp [configuredInput]
  · simp [configuredInput, hmode]
  · simp [configuredInput, hmode, hlevel, hwas, his]
  · simp [configuredInput, hmode, hlatch]

end Written

/-- Settles O60: each request refuses what names nothing, and otherwise writes its object's record with its effects. -/
theorem configureObjectsWriteTheirRecords : Obligations.ConfigureObjectsWriteTheirRecords := by
  intro fr s
  refine ⟨fun acc hno => ?_, fun acc hmode hno => ?_, fun acc hno => ?_, fun acc hno => ?_,
    fun acc f hf => configureFeeder_performed acc hf,
    fun acc g hg => ⟨gensetWrongMode_iff hg, fun hmode => ?_⟩,
    fun acc hmode g raw hg hraw => configureGenset_performed acc hmode hg hraw,
    fun acc j hj => configurePv_performed acc hj,
    fun acc i t hi ht => configureInput_performed acc hi ht⟩
  · exact next_congr (request_refused acc (configureFeeder_of_le hno _))
  · have hmode' : gensetWrongMode fr (superviseFrame fr.link s) = false :=
      (gensetWrongMode_superviseFrame fr fr.link s).trans (hmode.elim gensetWrongMode_of_le id)
    exact next_congr (request_refused acc (configureGenset_badIndex hmode' hno))
  · exact next_congr (request_refused acc (configurePv_of_le hno _))
  · exact next_congr (request_refused acc (configureInput_badIndex hno _))
  · exact next_congr (request_refused acc
      (configureGenset_wrongMode ((gensetWrongMode_superviseFrame fr fr.link s).trans hmode)))

end Sys2Proof.Machine

/-! ## The measurement table: MEASURE, and the tick at which points become stale -/

namespace Sys2Proof.Machine

/-! ### The 26 points by name (R40) -/

/-- The point that a name of R40 stands for. -/
def MeasTable.point (m : MeasTable) : PointRef → Point
  | .feeder k => m.feeders[k]
  | .set g => m.sets[g]
  | .channel j => m.channels[j]

/-- A notice's list names the point. -/
def PointNames.Holds (n : PointNames) : PointRef → Prop
  | .feeder k => k ∈ n.feeders
  | .set g => g ∈ n.sets
  | .channel j => j ∈ n.channels

@[simp] theorem emitUpdate_meas (n : PointNames) (s : State) : (emitUpdate n s).meas = s.meas := rfl

/-- No consumer of notices writes the table. -/
@[simp] theorem conclude_meas (s : State) : (conclude s).meas = s.meas := (conclude_frame s).meas (by decide)

@[simp] theorem superviseFrame_meas (l : Link) (s : State) : (superviseFrame l s).meas = s.meas :=
  (superviseFrame_frame l s).meas (by decide)

theorem staleCount_conclude (s : State) : staleCount (conclude s) = staleCount s := by
  simp only [staleCount, conclude_meas]

/-! ### Writing points (R42) -/

section Writing

/-- What MEASURE makes of a point that it names with the value `v` (R42). -/
def writtenPoint (s : State) (p : PointRef) (v : Int) : Point := { value := pointValue s p v, age := 0, stale := false }

variable {s : State}

/-- A value is clamped by the ratings, which are settings (R42). -/
theorem pointValue_congr {t : State} (h : t.settings = s.settings) (p : PointRef) (v : Int) :
    pointValue t p v = pointValue s p v := by
  cases p <;> simp only [pointValue, h]

theorem measureClamps_congr {t : State} (h : t.settings = s.settings) (items : List (PointRef × Int)) :
    measureClamps t items = measureClamps s items := by
  simp only [measureClamps, pointValue_congr h]

theorem writePoint_self (p : PointRef) (v : Int) (s : State) :
    (writePoint p v s).meas.point p = writtenPoint s p v := by
  cases p <;> simp [writePoint, MeasTable.point, writtenPoint]

theorem writePoint_other {p q : PointRef} (h : q ≠ p) (v : Int) (s : State) :
    (writePoint q v s).meas.point p = s.meas.point p := by
  cases q <;> cases p
  case feeder.feeder i k | set.set i k | channel.channel i k =>
    have hv : i.val ≠ k.val := fun e => h (congrArg _ (Fin.ext e))
    simp [writePoint, MeasTable.point, hv]
  all_goals rfl

/-- The points that a list of measurements names are written one after the other (R42). -/
def writePoints (items : List (PointRef × Int)) (s : State) : State :=
  items.foldl (fun s x => writePoint x.1 x.2 s) s

theorem applyMeasure_eq (items : List (PointRef × Int)) (s : State) :
    applyMeasure items s = emitUpdate (namesOf (items.map (·.1))) (writePoints items s) := rfl

theorem writePoints_frame (items : List (PointRef × Int)) (s : State) : SameBut [.meas] s (writePoints items s) := by
  unfold writePoints
  exact SameBut.foldl (fun t x => writePoint_frame x.1 x.2 t) items s

/-- A point that the list does not name stands (R42). -/
theorem writePoints_unnamed {p : PointRef} :
    ∀ {items : List (PointRef × Int)} (s : State), (∀ x ∈ items, x.1 ≠ p) →
      (writePoints items s).meas.point p = s.meas.point p
  | [], _, _ => rfl
  | (q, v) :: items, s, h => by
    obtain ⟨hq, hitems⟩ := List.forall_mem_cons.mp h
    calc (writePoints items (writePoint q v s)).meas.point p
        = (writePoint q v s).meas.point p := writePoints_unnamed _ hitems
      _ = s.meas.point p := writePoint_other hq v s

/-- The last item that names a point decides it, by the ratings that stood before (R42). -/
theorem writePoints_named {p : PointRef} {pre post : List (PointRef × Int)} {v : Int} (s : State)
    (h : ∀ x ∈ post, x.1 ≠ p) : (writePoints (pre ++ (p, v) :: post) s).meas.point p = writtenPoint s p v := by
  have hsettings := (writePoints_frame pre s).settings (by decide)
  calc (writePoints (pre ++ (p, v) :: post) s).meas.point p
      = (writePoints post (writePoint p v (writePoints pre s))).meas.point p := by
        simp only [writePoints, List.foldl_append, List.foldl_cons]
    _ = writtenPoint (writePoints pre s) p v := (writePoints_unnamed _ h).trans (writePoint_self p v _)
    _ = writtenPoint s p v := by simp only [writtenPoint, pointValue_congr hsettings]

theorem applyMeasure_unnamed {p : PointRef} {items : List (PointRef × Int)} (s : State) (h : ∀ x ∈ items, x.1 ≠ p) :
    (applyMeasure items s).meas.point p = s.meas.point p := by
  rw [applyMeasure_eq, emitUpdate_meas, writePoints_unnamed s h]

theorem applyMeasure_named {p : PointRef} {items pre post : List (PointRef × Int)} {v : Int} (s : State)
    (hitems : items = pre ++ (p, v) :: post) (h : ∀ x ∈ post, x.1 ≠ p) :
    (applyMeasure items s).meas.point p = writtenPoint s p v := by
  rw [applyMeasure_eq, emitUpdate_meas, hitems, writePoints_named s h]

/-- One update notice names the points of the list (R44). -/
theorem applyMeasure_announced (items : List (PointRef × Int)) (s : State) :
    Announced [.rst, .gen, .cur] (fun c => .update c (namesOf (items.map (·.1)))) s (applyMeasure items s) :=
  (emit_announced _ _ (writePoints items s)).congr ((writePoints_frame items s).notices (by decide)).symm rfl

end Writing

/-! ### MEASURE (R41 to R44) -/

section Measure

variable {f : Frame} {s : State}

theorem mapM_eq_none_of_mem {α β : Type} {g : α → Option β} {a : α} (ha : g a = none) :
    ∀ {l : List α}, a ∈ l → l.mapM g = none
  | b :: l, h => by
    rw [List.mapM_cons]
    rcases List.mem_cons.mp h with rfl | hl
    · rw [ha]; rfl
    · rw [mapM_eq_none_of_mem ha hl]
      cases g b <;> rfl

/-- A code that names no point, anywhere in the list, leaves no list of measurements (R41). -/
theorem measureItems_eq_none {k : Nat} (hk : k < f.byte 0) (h : PointRef.ofCode (f.byte (1 + 3 * k)) = none) :
    measureItems f = none :=
  mapM_eq_none_of_mem (by rw [h]; rfl) (List.mem_range.mpr hk)

theorem measure_badIndex (h : measureItems f = none) (s : State) : measure f s = refuse .badIndex s := by
  simp only [measure, h]

theorem measure_of_items {items : List (PointRef × Int)} (h : measureItems f = some items) (s : State) :
    measure f s =
      reply (okStatus (measureClamps s items))
        (fun _ => leBytes 1 items.length ++ leBytes 1 (staleCount (applyMeasure items s))) (applyMeasure items s) := by
  simp only [measure, h]

/-- A MEASURE whose codes all name points: the list is applied, and the reply counts items and stale points (R43). -/
theorem exec_measure_performed {items : List (PointRef × Int)} (acc : Accepts .either f (measureLength f) s)
    (h : measureItems f = some items) :
    let u := applyMeasure items (superviseFrame f.link s)
    exec (.measure f) s =
      .next (withReply 0x0E f (okStatus (measureClamps s items))
        (leBytes 1 items.length ++ leBytes 1 (staleCount (conclude u))) (conclude u)) := by
  intro u
  rw [staleCount_conclude, ← measureClamps_congr (superviseFrame_settings f.link s) items]
  exact next_congr (request_performed acc (measure_of_items h _))

end Measure

/-! ### The tick at which points become stale (R45, R46) -/

section Stale

variable (s : State)

/-- A point after the next tick of the table: its age advances, and past the timeout it is stale (R45). -/
def tickedPoint (p : Point) : Point :=
  { p with
    age := min 65535 (p.age + 1)
    stale := p.stale || decide (s.settings.sys.measTimeoutMs < min 65535 (p.age + 1)) }

theorem stalePoint_agePoint (p : Point) : stalePoint (agePoints s) (agePoint p) = tickedPoint s p := by
  unfold stalePoint
  split
  next h =>
    obtain ⟨hfresh, hage⟩ := (overAge_agePoint s p).mp h
    simp [tickedPoint, agePoint, hage]
  next h =>
    rw [overAge_agePoint, goesStale, not_and_or, Bool.not_eq_false] at h
    rcases h with hstale | hage
    · simp [tickedPoint, agePoint, hstale]
    · simp [tickedPoint, agePoint, hage]

/-- The points that go stale are the fresh ones that are stale after the tick (R45). -/
theorem goesStale_iff_ticked (p : Point) : goesStale s p ↔ p.stale = false ∧ (tickedPoint s p).stale = true := by
  unfold goesStale
  refine and_congr_right fun hfresh => ?_
  simp [tickedPoint, hfresh]

theorem agePoints_point (q : PointRef) : (agePoints s).meas.point q = agePoint (s.meas.point q) := by
  cases q <;> simp [agePoints, MeasTable.point]

theorem goingStale_holds_iff (q : PointRef) : (goingStale s).Holds q ↔ goesStale s (s.meas.point q) := by
  have hover : (goingStale s).Holds q ↔ overAge (agePoints s) ((agePoints s).meas.point q) = true := by
    cases q <;> simp [goingStale, staleNames, PointNames.Holds, MeasTable.point]
  rw [hover, agePoints_point, overAge_agePoint]

variable {s}

/-- Without a point to go stale there is no such tick (log 3). -/
theorem staleTick_none (h : (goingStale s).isEmpty = true) : staleTick s = s := if_pos h

/-- The points over age become stale together, with MEAS_STALE and one notice (R46). -/
theorem staleTick_some (h : (goingStale s).isEmpty = false) :
    staleTick s =
      emit [.rst, .gen, .cur] (fun c => .stale c (goingStale s)) (setAdv .measStale
        { agePoints s with meas :=
            { feeders := (agePoints s).meas.feeders.map (stalePoint (agePoints s))
              sets := (agePoints s).meas.sets.map (stalePoint (agePoints s))
              channels := (agePoints s).meas.channels.map (stalePoint (agePoints s)) } }) := by
  have hne : ¬ (goingStale s).isEmpty = true := by rw [h]; decide
  exact (if_neg hne).trans (if_neg hne)

theorem staleTick_point (h : (goingStale s).isEmpty = false) (q : PointRef) :
    (staleTick s).meas.point q = tickedPoint s (s.meas.point q) := by
  rw [staleTick_some h, ← stalePoint_agePoint, ← agePoints_point]
  cases q <;> simp [MeasTable.point]

/-- Every point after the tick, and the ones that the notice names (R45, R46). -/
theorem staleTick_ages (h : (goingStale s).isEmpty = false) (q : PointRef) :
    (staleTick s).meas.point q = tickedPoint s (s.meas.point q)
      ∧ ((goingStale s).Holds q ↔
          (s.meas.point q).stale = false ∧ ((staleTick s).meas.point q).stale = true) := by
  rw [staleTick_point h, goingStale_holds_iff]
  exact ⟨rfl, goesStale_iff_ticked s _⟩

theorem staleTick_evr (h : (goingStale s).isEmpty = false) : (staleTick s).evr = (setAdv .measStale s).evr := by
  rw [staleTick_some h]
  rfl

theorem staleTick_announced (h : (goingStale s).isEmpty = false) :
    Announced [.rst, .gen, .cur] (fun c => .stale c (goingStale s)) s (staleTick s) := by
  rw [staleTick_some h]
  exact (emit_announced _ _ _).congr rfl rfl

end Stale

/-- Settles O27: `applyMeasure` and `staleTick` point by point, and the code that names none. -/
theorem pointsAreWrittenAndBecomeStale : Obligations.PointsAreWrittenAndBecomeStale := by
  refine ⟨fun f s items acc hitems => ?_, fun f s acc hcode => ?_, fun s hrun => ⟨fun hnone => ?_, fun hsome => ?_⟩⟩
  · let h := superviseFrame f.link s
    have hnamed {pre post : List (PointRef × Int)} {v : Int} (p : PointRef) (e : items = pre ++ (p, v) :: post)
        (hpost : ∀ x ∈ post, x.1 ≠ p) : (applyMeasure items h).meas.point p = writtenPoint s p v := by
      rw [applyMeasure_named h e hpost]
      simp only [writtenPoint, pointValue_congr (superviseFrame_settings f.link s), h]
    have hunnamed (p : PointRef) (hp : ∀ x ∈ items, x.1 ≠ p) :
        (applyMeasure items h).meas.point p = s.meas.point p := by
      rw [applyMeasure_unnamed h hp, superviseFrame_meas]
    exact ⟨applyMeasure items h, exec_measure_performed acc hitems,
      fun _ _ k _ => hnamed (.feeder k), fun _ _ g _ => hnamed (.set g), fun _ _ j _ => hnamed (.channel j),
      fun k => hunnamed (.feeder k), fun g => hunnamed (.set g), fun j => hunnamed (.channel j),
      applyMeasure_announced items h, applyMeasure_frame items h⟩
  · obtain ⟨k, hk, hno⟩ := hcode
    exact next_congr (request_refused acc (measure_badIndex (measureItems_eq_none hk hno) _))
  · exact next_congr ((event_running hrun).trans (congrArg conclude (staleTick_none hnone)))
  · exact ⟨staleTick s, next_congr (event_running hrun),
      fun k => staleTick_ages hsome (.feeder k), fun g => staleTick_ages hsome (.set g),
      fun j => staleTick_ages hsome (.channel j),
      staleTick_evr hsome, staleTick_announced hsome, staleTick_frame s⟩

end Sys2Proof.Machine

/-! ## The feeder table: changes of state, the status input, the operate timer and OPERATE_FEEDER -/

namespace Sys2Proof.Machine

/-! ### Changes of a feeder's state (R62, R97) -/

section Changes

variable {f : Fin 16} {s t : State}

theorem StackFollows.congr {P Q : Prop} {s' : State} (h : StackFollows f P s t) (hpq : Q ↔ P) (hr : s'.rst = s.rst)
    (he : s'.evr = s.evr) (ht : s'.time = s.time) : StackFollows f Q s' t := by
  obtain ⟨leaves, stays⟩ := h
  unfold StackFollows
  rw [hpq, listed_congr hr, hr, he]
  exact ⟨fun k => (leaves k).congr hr he ht rfl rfl, stays⟩

/-- A feeder that no entry lists, or that enters a state which takes none out, leaves the stack as it is (R97). -/
theorem leaveStack_quiet {new : FeederState} (h : listed s f = false ∨ new.unlists = false) :
    leaveStack f new s = (s, false) := by
  rcases h with h | h <;> simp [leaveStack, h]

/-- A listed feeder that enters a state of R97, other than OUT_OF_SERVICE, is taken out of its entry. -/
theorem leaveStack_unlists {new : FeederState} (h : listed s f = true) (hu : new.unlists = true)
    (ho : new ≠ .outOfService) : (leaveStack f new s).1 = unlist f s := by
  simp [leaveStack, h, hu, ho]

/-- A feeder that enters another state leaves the stack as R97 has it. -/
theorem changeFeeder_stackFollows {new : FeederState} (c : FeederCause) (hs : s.feeders[f].state ≠ new)
    (ho : new ≠ .outOfService) : StackFollows f (new.unlists = true) s (changeFeeder f new c s) := by
  obtain ⟨hrst, hevr⟩ := changeFeeder_stack c hs
  constructor
  · rintro ⟨hl, hu⟩
    rw [leaveStack_unlists (s := modFeeder f _ s) hl hu ho] at hrst hevr
    exact (unlist_left (s := modFeeder f (fun c => { c with state := new }) s) hl).congr rfl rfl rfl hrst hevr
  · intro k
    have quiet : listed s f = false ∨ new.unlists = false := by
      simpa only [not_and_or, Bool.not_eq_true] using k
    rw [leaveStack_quiet (s := modFeeder f _ s) quiet] at hrst hevr
    exact ⟨hrst, hevr⟩

/-- A change that takes no feeder out of the stack is announced to SHD, RST and BLK (R62). -/
theorem changeFeeder_announced_quiet {new : FeederState} (c : FeederCause) (hs : s.feeders[f].state ≠ new)
    (quiet : listed s f = false ∨ new.unlists = false) :
    Announced [.shd, .rst, .blk] (fun d => .feeder d f s.feeders[f].state new c s.feeders[f].origin false) s
      (changeFeeder f new c s) := by
  have e : changeFeeder f new c s =
      emit [.shd, .rst, .blk] (fun d => .feeder d f s.feeders[f].state new c s.feeders[f].origin false)
        (modFeeder f (fun c => { c with state := new }) s) := by
    simp only [changeFeeder, if_neg hs, leaveStack_quiet (s := modFeeder f _ s) quiet, modFeeder_self]
  rw [e]
  exact (emit_announced _ _ _).congr rfl rfl

/-! ### Lines that follow (R54, R58) -/

/-- What a line command given only in MAINTAINED style leaves of its feeder. -/
theorem lineAlign_self (f : Fin 16) (closed : Bool) (s : State) :
    (lineAlign f closed s).feeders[f] =
      if effectiveStyle s.settings f = .pulse then s.feeders[f]
      else { s.feeders[f] with trip := false, close := closed, commanded := closed } := by
  unfold lineAlign lineCommand
  cases effectiveStyle s.settings f
  · rfl
  · exact modFeeder_self f _ s

theorem stateOfStatus_unlists (closed : Bool) : (stateOfStatus closed).unlists = closed := by cases closed <;> rfl

theorem stateOfStatus_ne_outOfService (closed : Bool) : stateOfStatus closed ≠ .outOfService := by
  cases closed <;> decide

end Changes

/-! ### The operate timer (R57) -/

/-- An operation in flight has failed in the direction `dir` (R57). -/
def operationFailed (f : Fin 16) (dir : FailDir) (flag : ProtFlag) (v : Int) (s : State) : State :=
  changeFeeder f (.failed dir) .failed
    (journal .feederFailed f v (setProt flag (modFeeder f (fun c => { c with timer := .idle }) s)))

section Failed

variable {f : Fin 16} {s : State}

theorem operateTimerExpires_opening (h : s.feeders[f].state = .opening) :
    operateTimerExpires f s = operationFailed f .trip .tripFail 0 s := by
  simp only [operateTimerExpires, h, operationFailed]

theorem operateTimerExpires_closing (h : s.feeders[f].state = .closing) :
    operateTimerExpires f s = operationFailed f .close .closeFail 1 s := by
  simp only [operateTimerExpires, h, operationFailed]

/-- The failed operation: its feeder's record, the flag and the journal record, and the announcement. -/
theorem operationFailed_effect (dir : FailDir) (flag : ProtFlag) (v : Int) (h : s.feeders[f].state ≠ .failed dir) :
    (operationFailed f dir flag v s).feeders[f] = { s.feeders[f] with state := .failed dir, timer := .idle }
      ∧ (operationFailed f dir flag v s).evr = (journal .feederFailed f v (setProt flag s)).evr
      ∧ Announced [.shd, .rst, .blk]
          (fun c => .feeder c f s.feeders[f].state (.failed dir) .failed s.feeders[f].origin false) s
          (operationFailed f dir flag v s)
      ∧ ∀ k : Fin 16, k ≠ f → (operationFailed f dir flag v s).feeders[k] = s.feeders[k] := by
  generalize hz : journal .feederFailed f v (setProt flag (modFeeder f (fun c => { c with timer := .idle }) s)) = z
  have hu : operationFailed f dir flag v s = changeFeeder f (.failed dir) .failed z := by rw [← hz]; rfl
  have hself : z.feeders[f] = { s.feeders[f] with timer := .idle } := by
    rw [← hz, journal_feeders, setProt_feeders, modFeeder_self]
  have hevr : z.evr = (journal .feederFailed f v (setProt flag s)).evr := by
    rw [← hz]
    exact journal_evr_congr _ _ _ (setProt_evr_congr _ rfl) rfl
  have hnotices : z.notices = s.notices := by rw [← hz, journal_notices]; rfl
  have hstate : z.feeders[f].state ≠ .failed dir := by rw [hself]; exact h
  have announced := changeFeeder_announced f .failed z hstate rfl
  have fr := changeFeeder_stays_frame f (new := .failed dir) .failed z rfl
  rw [hu]
  refine ⟨by rw [changeFeeder_self, hself], (fr.evr (by decide)).trans hevr, ?_, fun k hk => ?_⟩
  · rw [hself] at announced
    exact announced.congr hnotices.symm rfl
  · rw [changeFeeder_other _ _ _ hk, ← hz, journal_feeders, setProt_feeders, modFeeder_other _ _ hk]

end Failed

/-- Settles O29: an opening that fails and a closing that fails are the same effect in two directions. -/
theorem operateTimerExpiryFailsTheFeeder : Obligations.OperateTimerExpiryFailsTheFeeder := by
  intro f s hrun hflight
  have opening (h : s.feeders[f].state = .opening) :=
    operationFailed_effect .trip .tripFail 0 (show s.feeders[f].state ≠ .failed .trip by rw [h]; decide)
  have closing (h : s.feeders[f].state = .closing) :=
    operationFailed_effect .close .closeFail 1 (show s.feeders[f].state ≠ .failed .close by rw [h]; decide)
  refine ⟨operateTimerExpires f s, next_congr (event_running hrun), fun h => ?_, fun h => ?_, fun k hk => ?_,
    operateTimerExpires_frame f s⟩
  · obtain ⟨hself, hevr, hnotice, -⟩ := opening h
    rw [operateTimerExpires_opening h]
    exact ⟨hself, hevr, h ▸ hnotice⟩
  · obtain ⟨hself, hevr, hnotice, -⟩ := closing h
    rw [operateTimerExpires_closing h]
    exact ⟨hself, hevr, h ▸ hnotice⟩
  · rcases hflight with h | h
    · obtain ⟨-, -, -, hother⟩ := opening h
      rw [operateTimerExpires_opening h]
      exact hother k hk
    · obtain ⟨-, -, -, hother⟩ := closing h
      rw [operateTimerExpires_closing h]
      exact hother k hk

/-! ### The status input (R56 to R60, R65) -/

section Status

variable (f : Fin 16) (level : Bool) (c : FeederCause) (k : JournalKind) (s : State)

/-- The OPERATED mark of a feeder is set (R65). -/
def operatedMarked : State := modFeeder f (fun c => { c with operated := true }) s

/-- An operation in flight is complete: its timer is idle, and its feeder enters the state `new` (R56). -/
def operationComplete (new : FeederState) : State :=
  changeFeeder f new .complete (modFeeder f (fun c => { c with timer := .idle }) (operatedMarked f s))

/-- A feeder that is not in flight follows its status, after the record of kind `k` (R58, R59). -/
def statusFollowed : State :=
  changeFeeder f (stateOfStatus level) c (lineAlign f level (journal k f (bit level) (operatedMarked f s)))

variable {f level c k s}

theorem operatedMarked_self : (operatedMarked f s).feeders[f] = { s.feeders[f] with operated := true } :=
  modFeeder_self f _ s

theorem feederStatusChange_opening (h : s.feeders[f].state = .opening) :
    feederStatusChange f level s = operationComplete f s .opened := by
  simp only [feederStatusChange, modFeeder_self, h, operationComplete, operatedMarked]

theorem feederStatusChange_closing (h : s.feeders[f].state = .closing) :
    feederStatusChange f level s = operationComplete f s .closed := by
  simp only [feederStatusChange, modFeeder_self, h, operationComplete, operatedMarked]

theorem feederStatusChange_external (h : s.feeders[f].state = .closed ∨ s.feeders[f].state = .opened)
    (hne : s.feeders[f].state ≠ stateOfStatus level) :
    feederStatusChange f level s = statusFollowed f level .external .feederExternal s := by
  rcases h with h | h <;> rw [h] at hne <;>
    simp only [feederStatusChange, modFeeder_self, h, if_neg hne, statusFollowed, operatedMarked]

theorem feederStatusChange_failed {dir : FailDir} (h : s.feeders[f].state = .failed dir) :
    feederStatusChange f level s = statusFollowed f level .failureEnded .failureEnded s := by
  simp only [feederStatusChange, modFeeder_self, h, statusFollowed, operatedMarked]

theorem feederStatusChange_outOfService (h : s.feeders[f].state = .outOfService) :
    feederStatusChange f level s = operatedMarked f s := by
  simp only [feederStatusChange, modFeeder_self, h, operatedMarked]

/-- A feeder in service that is not in flight follows a status that differs from its state. -/
theorem exists_statusFollowed
    (h : s.feeders[f].state ≠ .opening ∧ s.feeders[f].state ≠ .closing ∧ s.feeders[f].state ≠ .outOfService)
    (hne : s.feeders[f].state ≠ stateOfStatus level) :
    ∃ c k, feederStatusChange f level s = statusFollowed f level c k s := by
  obtain ⟨hopening, hclosing, hout⟩ := h
  cases hs : s.feeders[f].state with
  | closed => exact ⟨_, _, feederStatusChange_external (.inl hs) hne⟩
  | opened => exact ⟨_, _, feederStatusChange_external (.inr hs) hne⟩
  | opening => exact absurd hs hopening
  | closing => exact absurd hs hclosing
  | failed dir => exact ⟨_, _, feederStatusChange_failed hs⟩
  | outOfService => exact absurd hs hout

/-- A status input concerns its own feeder alone. -/
theorem feederStatusChange_other {j : Fin 16} (h : j ≠ f) :
    (feederStatusChange f level s).feeders[j] = s.feeders[j] := by
  unfold feederStatusChange
  dsimp only
  repeat' split
  all_goals simp only [changeFeeder_other _ _ _ h, lineAlign_other _ _ h, journal_feeders, modFeeder_other _ _ h]

theorem lineAlign_operated (f : Fin 16) (closed : Bool) (s : State) :
    (lineAlign f closed s).feeders[f].operated = s.feeders[f].operated := by
  rw [lineAlign_self]
  split <;> rfl

/-- Every debounced change of a status input sets the OPERATED mark (R65). -/
theorem feederStatusChange_operated : (feederStatusChange f level s).feeders[f].operated = true := by
  unfold feederStatusChange
  dsimp only
  repeat' split
  all_goals simp only [changeFeeder_self, lineAlign_operated, journal_feeders, modFeeder_self]

/-- The record of an operation that is complete (R56). -/
theorem operationComplete_self (new : FeederState) :
    (operationComplete f s new).feeders[f] = { s.feeders[f] with state := new, timer := .idle, operated := true } := by
  rw [operationComplete, changeFeeder_self, modFeeder_self, operatedMarked_self]

theorem operationComplete_stackFollows {new : FeederState} (hs : s.feeders[f].state ≠ new) (ho : new ≠ .outOfService) :
    StackFollows f (new.unlists = true) s (operationComplete f s new) := by
  refine (changeFeeder_stackFollows .complete (f := f) ?_ ho).congr Iff.rfl rfl rfl rfl
  rw [modFeeder_self, operatedMarked_self]
  exact hs

/-- The state of the feeder before it enters the state of its status. -/
theorem lineAlign_journal_operatedMarked_self :
    (lineAlign f level (journal k f (bit level) (operatedMarked f s))).feeders[f] =
      if effectiveStyle s.settings f = .pulse then { s.feeders[f] with operated := true }
      else { s.feeders[f] with operated := true, trip := false, close := level, commanded := level } := by
  rw [lineAlign_self, journal_feeders, journal_settings, operatedMarked_self]
  rfl

/-- A feeder that follows its status, with its lines in its effective style (R58, R59). -/
theorem statusFollowed_self :
    (statusFollowed f level c k s).feeders[f] =
      if effectiveStyle s.settings f = .pulse then
        { s.feeders[f] with state := stateOfStatus level, operated := true }
      else
        { s.feeders[f] with
          state := stateOfStatus level, operated := true, trip := false, close := level, commanded := level } := by
  rw [statusFollowed, changeFeeder_self, lineAlign_journal_operatedMarked_self]
  split <;> rfl

/-- A listed feeder that is found closed leaves the stack after its own record (R97, log 11). -/
theorem statusFollowed_stackFollows (h : s.feeders[f].state ≠ stateOfStatus level) :
    StackFollows f (level = true) (journal k f (if level then 1 else 0) s) (statusFollowed f level c k s) := by
  have hbit : ((bit level : Nat) : Int) = if level then 1 else 0 := by cases level <;> rfl
  have fr := lineAlign_frame f level (journal k f (bit level) (operatedMarked f s))
  refine (changeFeeder_stackFollows c (f := f) ?_ (stateOfStatus_ne_outOfService level)).congr
    (by rw [stateOfStatus_unlists]) ?_ ?_ ?_
  · rw [lineAlign_journal_operatedMarked_self]
    split <;> exact h
  · rw [fr.rst (by decide), journal_rst, journal_rst]
    rfl
  · rw [fr.evr (by decide), hbit]
    exact journal_evr_congr _ _ _ rfl rfl
  · rw [fr.time (by decide), journal_time, journal_time]
    rfl

end Status

/-- A feeder's status input that changes reaches the feeder table (R22). -/
theorem debouncedTo_feeder {f : Fin 16} {level : Bool} {s : State}
    (h : (s.inputs[f.val]'(by omega)).debounced ≠ level) :
    debouncedTo ⟨f.val, by omega⟩ level s =
      feederStatusChange f level (inputChanged ⟨f.val, by omega⟩ level s) := by
  rw [debouncedTo_changed h, deliverInput, dif_pos f.isLt]

/-- Settles O30: `feederStatusChange` state by state, on the state in which the input has changed. -/
theorem feederStateFollowsItsStatus : Obligations.FeederStateFollowsItsStatus := by
  intro f level s hrun hinput hne
  have fr := inputChanged_frame ⟨f.val, by omega⟩ level s
  have hu := debouncedTo_feeder hinput
  generalize inputChanged ⟨f.val, by omega⟩ level s = t at fr hu
  have hfeeders := fr.feeders (by decide)
  have hrst := fr.rst (by decide)
  have hevr := fr.evr (by decide)
  have htime := fr.time (by decide)
  have hstyle : effectiveStyle t.settings f = effectiveStyle s.settings f := by rw [fr.settings (by decide)]
  have hstate : t.feeders[f].state = s.feeders[f].state := by rw [hfeeders]
  rw [← hstate] at hne
  have follows {k : JournalKind} {c : FeederCause} :
      StackFollows f (level = true) (journal k f (if level then 1 else 0) s) (statusFollowed f level c k t) :=
    (statusFollowed_stackFollows hne).congr Iff.rfl (by rw [journal_rst, journal_rst, hrst])
      (journal_evr_congr _ _ _ hevr.symm htime.symm) (by rw [journal_time, journal_time, htime])
  refine ⟨debouncedTo ⟨f.val, by omega⟩ level s, next_congr (event_running hrun), ?_⟩
  rw [hu, ← hfeeders, ← hstyle]
  refine ⟨feederStatusChange_operated, fun h => ?_, fun h => ?_, fun h => ?_, fun dir h => ?_, fun h => ?_, fun h => ?_,
    fun k hk => feederStatusChange_other hk, (fr.widen _ rfl).trans ((feederStatusChange_frame f level t).widen _ rfl)⟩
  · rw [feederStatusChange_opening h]
    obtain ⟨-, stays⟩ :=
      operationComplete_stackFollows (f := f) (s := t) (new := .opened) (by rw [h]; decide) (by decide)
    obtain ⟨hr, he⟩ := stays fun k => absurd k.2 (by decide)
    exact ⟨operationComplete_self _, hr.trans hrst, he.trans hevr⟩
  · rw [feederStatusChange_closing h]
    exact ⟨operationComplete_self _, (operationComplete_stackFollows (by rw [h]; decide) (by decide)).congr
      (by decide) hrst.symm hevr.symm htime.symm⟩
  · rw [feederStatusChange_external h hne]
    exact ⟨by rw [statusFollowed, changeFeeder_self], follows⟩
  · rw [feederStatusChange_failed h]
    exact ⟨by rw [statusFollowed, changeFeeder_self], follows⟩
  · obtain ⟨c, k, e⟩ := exists_statusFollowed h hne
    rw [e, statusFollowed_self]
    refine ⟨fun hpulse => ?_, fun hmaintained => ?_⟩
    · rw [if_pos hpulse]
      exact ⟨rfl, rfl⟩
    · rw [if_neg (by rw [hmaintained]; decide)]
      exact ⟨rfl, rfl, rfl⟩
  · rw [feederStatusChange_outOfService h]
    exact ⟨operatedMarked_self, hevr, fr.notices (by decide)⟩

/-! ### OPERATE_FEEDER (R54, R55, R63) -/

section Operation

variable (f : Fin 16) (closing : Bool) (o : OpOrigin) (s : State)

/-- The feeder with its operate timer, origin, mark and line of a new operation, before its change of state (R55). -/
def operationLined : State :=
  lineCommand f closing
    (modFeeder f (fun c =>
      { c with
        timer := .running s.settings.feeders[f].operateMs
        origin := some o
        shed := c.shed || (!closing && o.sheds) }) s)

theorem beginOperation_eq :
    beginOperation f closing o s =
      changeFeeder f (if closing then .closing else .opening) .taken (operationLined f closing o s) := rfl

theorem operationLined_frame : SameBut [.feeders] s (operationLined f closing o s) := by simp [operationLined]

theorem operationLined_self :
    (operationLined f closing o s).feeders[f].state = s.feeders[f].state
      ∧ (operationLined f closing o s).feeders[f].origin = some o := by
  unfold operationLined lineCommand
  split <;> simp only [modFeeder_self, and_self]

variable {f closing o s}

theorem operationState_unlists : (if closing then FeederState.closing else .opening).unlists = closing := by
  cases closing <;> rfl

/-- A listed feeder that begins to close leaves the stack; one that begins to open stays (R97). -/
theorem beginOperation_stackFollows (h : s.feeders[f].state ≠ if closing then .closing else .opening) :
    StackFollows f (closing = true) s (beginOperation f closing o s) := by
  have fr := operationLined_frame f closing o s
  obtain ⟨hstate, -⟩ := operationLined_self f closing o s
  rw [beginOperation_eq]
  exact (changeFeeder_stackFollows .taken (hstate ▸ h) (by cases closing <;> decide)).congr
    (by rw [operationState_unlists]) (fr.rst (by decide)).symm (fr.evr (by decide)).symm (fr.time (by decide)).symm

theorem beginOperation_announced (h : s.feeders[f].state ≠ if closing then .closing else .opening)
    (quiet : listed s f = false ∨ closing = false) :
    Announced [.shd, .rst, .blk]
      (fun c => .feeder c f s.feeders[f].state (if closing then .closing else .opening) .taken (some o) false) s
      (beginOperation f closing o s) := by
  have fr := operationLined_frame f closing o s
  obtain ⟨hstate, horigin⟩ := operationLined_self f closing o s
  have announced := changeFeeder_announced_quiet .taken (hstate ▸ h)
    (by rwa [operationState_unlists, listed_congr (fr.rst (by decide))])
  rw [hstate, horigin] at announced
  exact announced.congr (fr.notices (by decide)).symm rfl

/-- The feeder that is found in the position asked for stands in it, its MAINTAINED line aligned (R54). -/
theorem acceptPosition_self :
    (acceptPosition f closing s).feeders[f] =
      if effectiveStyle s.settings f = .pulse then { s.feeders[f] with state := stateOfStatus closing }
      else
        { s.feeders[f] with
          state := stateOfStatus closing, trip := false, close := closing, commanded := closing } := by
  rw [acceptPosition, changeFeeder_self, lineAlign_self]
  split <;> rfl

theorem acceptPosition_other {k : Fin 16} (h : k ≠ f) : (acceptPosition f closing s).feeders[k] = s.feeders[k] := by
  rw [acceptPosition, changeFeeder_other _ _ _ h, lineAlign_other _ _ h]

theorem lineAlign_state_origin :
    (lineAlign f closing s).feeders[f].state = s.feeders[f].state
      ∧ (lineAlign f closing s).feeders[f].origin = s.feeders[f].origin := by
  rw [lineAlign_self]
  split <;> exact ⟨rfl, rfl⟩

theorem acceptPosition_stackFollows (h : s.feeders[f].state ≠ stateOfStatus closing) :
    StackFollows f (closing = true) s (acceptPosition f closing s) := by
  have fr := lineAlign_frame f closing s
  obtain ⟨hstate, -⟩ := lineAlign_state_origin (f := f) (closing := closing) (s := s)
  exact (changeFeeder_stackFollows .acceptedPosition (hstate ▸ h) (stateOfStatus_ne_outOfService closing)).congr
    (by rw [stateOfStatus_unlists]) (fr.rst (by decide)).symm (fr.evr (by decide)).symm (fr.time (by decide)).symm

theorem acceptPosition_announced (h : s.feeders[f].state ≠ stateOfStatus closing)
    (quiet : listed s f = false ∨ closing = false) :
    Announced [.shd, .rst, .blk]
      (fun c => .feeder c f s.feeders[f].state (stateOfStatus closing) .acceptedPosition s.feeders[f].origin false) s
      (acceptPosition f closing s) := by
  have fr := lineAlign_frame f closing s
  obtain ⟨hstate, horigin⟩ := lineAlign_state_origin (f := f) (closing := closing) (s := s)
  have announced := changeFeeder_announced_quiet .acceptedPosition (hstate ▸ h)
    (by rwa [stateOfStatus_unlists, listed_congr (fr.rst (by decide))])
  rw [hstate, horigin] at announced
  exact announced.congr (fr.notices (by decide)).symm rfl

/-! The answers of FDT to an operation request, with the state that each leaves (R54). -/

theorem operate_begins
    (h : if closing then s.feeders[f].state = .opened ∨ s.feeders[f].state = .failed .close
      else s.feeders[f].state = .closed ∨ s.feeders[f].state = .failed .trip) :
    operate f closing o s = (beginOperation f closing o s, .taken) := by
  cases closing <;> rcases h with h | h <;> simp only [operate, h] <;> rfl

theorem operate_accepts (h : s.feeders[f].state = if closing then .failed .trip else .failed .close) :
    operate f closing o s = (acceptPosition f closing s, .already) := by
  cases closing <;> simp only [operate, h] <;> rfl

theorem operate_already (h : s.feeders[f].state = stateOfStatus closing) :
    operate f closing o s = (s, .already) := by
  cases closing <;> simp only [operate, h] <;> rfl

theorem operate_inFlight
    (h : s.feeders[f].state = .opening ∨ s.feeders[f].state = .closing ∨ s.feeders[f].state = .outOfService) :
    operate f closing o s = (s, .refused) := by
  rcases h with h | h | h <;> simp only [operate, h]

end Operation

section Request

variable {fr : Frame} {f : Fin 16} {closing : Bool} {s t : State}

theorem boolOf_bit (b : Bool) : boolOf (bit b) = some b := by cases b <;> rfl

theorem exists_eq_bit {n : Nat} (h : n ≤ 1) : ∃ b, n = bit b :=
  ⟨decide (n = 1), by rcases Nat.le_one_iff_eq_zero_or_eq_one.mp h with rfl | rfl <;> rfl⟩

theorem boolOf_of_le {n : Nat} (h : 2 ≤ n) : boolOf n = none := by
  obtain ⟨m, rfl⟩ := Nat.exists_eq_add_of_le' h
  rfl

/-- A number above the last feeder, or a direction that is neither open nor close, is refused (R63). -/
theorem operateFeeder_badIndex (h : 16 ≤ fr.byte 0 ∨ 2 ≤ fr.byte 1) : operateFeeder fr s = refuse .badIndex s := by
  unfold operateFeeder
  rcases h with h | h
  · rw [objectOf_of_le h]
  · rw [boolOf_of_le h]
    split
    next hnone => cases hnone
    next => rfl

theorem operateFeeder_stale (hf : fr.byte 0 = f) (hb : fr.byte 1 = bit closing)
    (hg : fr.byte 2 ≠ 255 ∧ fr.byte 2 ≠ s.feeders[f].generation.toNat) :
    operateFeeder fr s = reply .stale (feederReply f) s := by
  simp only [operateFeeder, hf, hb, objectOf_val, boolOf_bit, if_pos hg]

/-- The request with its checks passed is answered as FDT answers the operation (R63). -/
theorem operateFeeder_checked (hf : fr.byte 0 = f) (hb : fr.byte 1 = bit closing)
    (hg : fr.byte 2 = 255 ∨ fr.byte 2 = s.feeders[f].generation.toNat) :
    operateFeeder fr s =
      if (operate f closing .host s).2 = .refused then reply .wrongState (feederReply f) s
      else reply .ok (feederReply f) (operate f closing .host s).1 := by
  have hg' : ¬ (fr.byte 2 ≠ 255 ∧ fr.byte 2 ≠ s.feeders[f].generation.toNat) := by
    rintro ⟨h255, hgen⟩
    exact hg.elim h255 hgen
  simp only [operateFeeder, hf, hb, objectOf_val, boolOf_bit, if_neg hg']
  rcases operate f closing .host s with ⟨t, _ | _ | _⟩ <;> rfl

/-- OPERATE_FEEDER that FDT takes or finds done: the reply is OK, with the state that the answer leaves. -/
theorem exec_operateFeeder_ok {r : OpOutcome} (acc : Accepts .operate fr (fr.len == 3) s) (hf : fr.byte 0 = f)
    (hb : fr.byte 1 = bit closing) (hg : fr.byte 2 = 255 ∨ fr.byte 2 = s.feeders[f].generation.toNat)
    (ho : operate f closing .host (superviseFrame fr.link s) = (t, r)) (hr : r ≠ .refused) :
    exec (.operateFeeder fr) s = .next (withReply 0x20 fr .ok (feederReply f (conclude t)) (conclude t)) := by
  refine next_congr (request_performed acc ?_)
  rw [operateFeeder_checked hf hb (by rwa [superviseFrame_feeders]), ho, if_neg hr]

end Request

/-- Settles O28: the answers of `operate`, each with its reply, and the checks before them. -/
theorem operateFeederFollowsItsChecks : Obligations.OperateFeederFollowsItsChecks := by
  refine ⟨fun fr f closing s acc hf hb hg => ?_, fun fr s acc => ⟨fun h => ?_, fun f hf hb => ⟨fun hg => ?_, fun hg =>
    ⟨fun h => ?_, fun h => ?_⟩⟩⟩⟩
  · intro h
    have hfeeders : h.feeders = s.feeders := superviseFrame_feeders fr.link s
    have hsettings : h.settings = s.settings := superviseFrame_settings fr.link s
    have hlisted : listed h f = listed s f := listed_congr ((superviseFrame_frame fr.link s).rst (by decide))
    rw [← hfeeders, ← hsettings, ← hlisted]
    refine ⟨fun hstate => ?_, fun hstate => ?_⟩
    · have hne : h.feeders[f].state ≠ if closing then .closing else .opening := by
        cases closing <;> rcases hstate with hs | hs <;> rw [hs] <;> decide
      exact ⟨_, exec_operateFeeder_ok acc hf hb hg (operate_begins hstate) (by decide),
        beginOperation_begun f closing _ h, fun k hk => beginOperation_other _ _ _ hk,
        beginOperation_stackFollows hne, beginOperation_announced hne, beginOperation_frame f closing _ h⟩
    · have hne : h.feeders[f].state ≠ stateOfStatus closing := by
        cases closing <;> rw [hstate] <;> decide
      exact ⟨_, exec_operateFeeder_ok acc hf hb hg (operate_accepts hstate) (by decide), acceptPosition_self,
        fun k hk => acceptPosition_other hk, acceptPosition_stackFollows hne, acceptPosition_announced hne,
        acceptPosition_frame f closing h⟩
  · exact next_congr (request_refused acc (operateFeeder_badIndex h))
  all_goals obtain ⟨closing, hbit⟩ := exists_eq_bit hb
  · refine next_congr (request_performed acc (operateFeeder_stale hf hbit ?_))
    rwa [superviseFrame_feeders]
  · refine next_congr (request_performed acc ?_)
    rw [operateFeeder_checked hf hbit (by rwa [superviseFrame_feeders]),
      operate_inFlight (by rwa [superviseFrame_feeders]), if_pos rfl]
  · refine exec_operateFeeder_ok acc hf hbit hg (operate_already ?_) (by decide)
    rw [superviseFrame_feeders, h, hbit]
    cases closing <;> rfl

end Sys2Proof.Machine

/-! ## The soft reset, and the requests on flags, masks, marks and the journal -/

namespace Sys2Proof.Machine

/-! ### The soft reset (R185) -/

theorem softReset_frame (s : State) : SameBut [.evr] (initialise .soft s.lnk.mode s) (softReset s) :=
  driveAlerts_frame _

/-- What the soft reset leaves of EVR: the masks as they were, and the alert lines (R192, R193). -/
theorem softReset_evr (s : State) :
    ∃ a b : Bool, (softReset s).evr =
      { maskProtection := s.evr.maskProtection, maskAdvisory := s.evr.maskAdvisory, alert0 := a, alert1 := b } := by
  have hevr : (initialise .soft s.lnk.mode s).evr =
      { maskProtection := s.evr.maskProtection, maskAdvisory := s.evr.maskAdvisory } :=
    (initialise_frame .soft s.lnk.mode s).evr (by decide)
  obtain ⟨a, b, e⟩ := driveAlerts_evr (initialise .soft s.lnk.mode s)
  rw [hevr] at e
  exact ⟨a, b, e⟩

theorem exec_softReset {s : State} (hrun : s.phase = .running) (hready : softResetReady s = true) :
    exec .softReset s = .next (softReset s) :=
  next_congr (by simp only [hrun, hready, if_true])

/-- Settles O6: the blocks' soft-reset state, with the alert lines driven after it. -/
theorem softResetKeepsSettingsModeAndTime : Obligations.SoftResetKeepsSettingsModeAndTime := by
  intro s hrun hreset hlinkA hlinkB hwrite
  have hready : softResetReady s = true := by simp [softResetReady, hreset, hlinkA, hlinkB, hwrite]
  have lines := softReset_frame s
  have fr := initialise_frame .soft s.lnk.mode s
  obtain ⟨hgen, hpart⟩ := initialise_kept .soft s.lnk.mode s
  obtain ⟨a, b, hevr⟩ := softReset_evr s
  refine ⟨softReset s, exec_softReset hrun hready,
    (initialise_initialised .soft s.lnk.mode s).after lines (by rw [hevr]),
    ?_, ?_, ?_, ?_, fun f => ?_, ?_, fun g => ?_, by rw [hevr], by rw [hevr], by rw [hevr], by rw [hevr]⟩
  · exact (lines.time (by decide)).trans (fr.time (by decide))
  · exact (lines.settings (by decide)).trans (fr.settings (by decide))
  · rw [lines.lnk (by decide), fr.lnk (by decide)]
    rfl
  · exact (lines.sto (by decide)).trans (fr.sto (by decide))
  · rw [lines.feeders (by decide)]
    exact hgen f
  · rw [lines.rst (by decide), fr.rst (by decide)]
    rfl
  · rw [lines.gen (by decide)]
    exact hpart g

/-! ### The bits that name a flag (R189) -/

theorem ofLe_lt : ∀ bs : List Byte, ofLe bs < 256 ^ bs.length
  | [] => by decide
  | b :: bs => by
    have hb := b.isLt
    have ih := ofLe_lt bs
    rw [ofLe, List.length_cons, Nat.pow_succ]
    omega

theorem field_lt (f : Frame) (off width : Nat) : f.field off width < 256 ^ width :=
  (ofLe_lt _).trans_le (Nat.pow_le_pow_right (by decide) (List.length_take_le _ _))

/-- A word has a bit outside its lowest `n` bits exactly when it is `2 ^ n` or more. -/
theorem and_not_mask_ne_zero_iff {w n x : Nat} (hx : x < 2 ^ w) :
    BitVec.ofNat w x &&& ~~~BitVec.ofNat w (2 ^ n - 1) ≠ 0 ↔ 2 ^ n ≤ x := by
  rw [← not_lt, ne_eq, not_iff_not]
  have bits (i : Nat) : (BitVec.ofNat w x &&& ~~~BitVec.ofNat w (2 ^ n - 1)).getLsbD i
      = (decide (i < w) && x.testBit i && !decide (i < n)) := by
    simp only [BitVec.getLsbD_and, BitVec.getLsbD_not, BitVec.getLsbD_ofNat, Nat.testBit_two_pow_sub_one]
    cases decide (i < w) <;> cases x.testBit i <;> rfl
  constructor
  · intro h
    refine Nat.lt_pow_two_of_testBit x fun i hi => ?_
    have hi' := bits i
    by_cases hw : i < w
    · simpa [h, hw, Nat.not_lt.mpr hi] using hi'
    · exact Nat.testBit_lt_two_pow (hx.trans_le (Nat.pow_le_pow_right (by decide) (Nat.not_lt.mp hw)))
  · intro h
    refine BitVec.eq_of_getLsbD_eq fun i _ => ?_
    rw [bits]
    refine Eq.trans ?_ BitVec.getLsbD_zero.symm
    by_cases hn : i < n
    · simp [hn]
    · simp [Nat.testBit_lt_two_pow (h.trans_le (Nat.pow_le_pow_right (by decide) (Nat.not_lt.mp hn)))]

section Requests

variable {fr : Frame} {s : State}

/-! ### CLEAR_EVENTS (R191) -/

/-- The words of CLEAR_EVENTS name a bit without a flag. -/
theorem unnamedFlag_iff (fr : Frame) :
    (BitVec.ofNat 16 (fr.field 0 2) &&& ~~~protectionMask ≠ 0 ∨ BitVec.ofNat 16 (fr.field 2 2) &&& ~~~advisoryMask ≠ 0)
      ↔ 2 ^ 15 ≤ fr.field 0 2 ∨ 2 ^ 11 ≤ fr.field 2 2 :=
  or_congr (and_not_mask_ne_zero_iff (n := 15) (field_lt fr 0 2)) (and_not_mask_ne_zero_iff (n := 11) (field_lt fr 2 2))

theorem clearEvents_badIndex (h : 2 ^ 15 ≤ fr.field 0 2 ∨ 2 ^ 11 ≤ fr.field 2 2) (s : State) :
    clearEvents fr s = refuse .badIndex s := if_pos ((unnamedFlag_iff fr).mpr h)

theorem clearEvents_named (hp : fr.field 0 2 < 2 ^ 15) (ha : fr.field 2 2 < 2 ^ 11) (s : State) :
    clearEvents fr s =
      (let t := eventsCleared (fr.field 0 2) (fr.field 2 2) (fr.field 4 4) s
       reply .ok (fun _ => eventWords t) t) :=
  if_neg fun k => ((unnamedFlag_iff fr).mp k).elim hp.not_ge ha.not_ge

theorem eventsCleared_frame (p a i : Nat) (s : State) : SameBut [.inputs, .evr] s (eventsCleared p a i s) := by
  simp [eventsCleared]

theorem eventsCleared_evr (p a i : Nat) (s : State) :
    (eventsCleared p a i s).evr =
      { s.evr with
        protection := s.evr.protection &&& ~~~BitVec.ofNat 16 p
        advisory := s.evr.advisory &&& ~~~BitVec.ofNat 16 a } := rfl

theorem eventsCleared_input (p a i : Nat) (s : State) (k : Fin 32) :
    (eventsCleared p a i s).inputs[k] = { s.inputs[k] with flag := s.inputs[k].flag && !i.testBit k.val } := by
  have e : (eventsCleared p a i s).inputs[k] =
      if i.testBit k.val then { s.inputs[k] with flag := false } else s.inputs[k] := Vector.getElem_ofFn _
  rw [e]
  cases i.testBit k.val <;> simp

/-! ### SET_EVENT_MASK, CLEAR_LINK_ERRORS, COLLECT_MARKS and READ_JOURNAL (R66, R178, R192, R196) -/

theorem withEvr_frame (m : Evr → Evr) (s : State) : SameBut [.evr] s (s.withEvr m) := by simp [State.withEvr]

theorem setEventMask_badIndex (h : 4 ≤ fr.byte 0) (s : State) : setEventMask fr s = refuse .badIndex s :=
  if_pos h

theorem setEventMask_taken (h : fr.byte 0 ≤ 3) (s : State) :
    setEventMask fr s =
      reply .ok maskByte (s.withEvr fun e =>
        { e with maskProtection := (fr.byte 0).testBit 0, maskAdvisory := (fr.byte 0).testBit 1 }) :=
  if_neg (Nat.not_lt.mpr h)

theorem clearLinkErrors_badIndex (h : fr.byte 0 = 0 ∨ 4 ≤ fr.byte 0) (s : State) :
    clearLinkErrors fr s = refuse .badIndex s := if_pos h

/-- The error flags of one link are cleared when its bit selects it (R178). -/
def errorsClearedIf (b : Bool) (l : Link) (s : State) : State :=
  if b then modLink l LinkCtl.clearErrors s else s

theorem clearLinkErrors_taken (h1 : 1 ≤ fr.byte 0) (h3 : fr.byte 0 ≤ 3) (s : State) :
    clearLinkErrors fr s =
      reply .ok (fun _ => [])
        (errorsClearedIf ((fr.byte 0).testBit 1) .b (errorsClearedIf ((fr.byte 0).testBit 0) .a s)) :=
  if_neg fun k => by omega

theorem errorsClearedIf_frame (b : Bool) (l : Link) (s : State) : SameBut [.lnk] s (errorsClearedIf b l s) := by
  simp [errorsClearedIf]

/-- The link errors of the selected links are cleared, and nothing else of LNK (R178). -/
theorem errorsClearedIf_lnk (a b : Bool) (s : State) :
    (errorsClearedIf b .b (errorsClearedIf a .a s)).lnk =
      { s.lnk with
        linkA := if a then s.lnk.linkA.clearErrors else s.lnk.linkA
        linkB := if b then s.lnk.linkB.clearErrors else s.lnk.linkB } := by
  cases a <;> cases b <;> rfl

theorem marksCleared_feeder (s : State) (f : Fin 16) :
    (marksCleared s).feeders[f] = { s.feeders[f] with operated := false, shed := false } := by
  simp [marksCleared]

theorem marksCleared_frame (s : State) : SameBut [.feeders] s (marksCleared s) := by
  simp [marksCleared]

theorem marksBody_congr {t : State} (h : t.feeders = s.feeders) : marksBody t = marksBody s := by
  simp only [marksBody, marksCode, h]

/-- READ_JOURNAL returns the records from the head and removes them (R196). -/
theorem readJournal_eq (fr : Frame) (s : State) :
    readJournal fr s =
      queryReply
        (leBytes 1 (min (fr.byte 0) s.evr.journal.length)
          ++ (s.evr.journal.take (fr.byte 0)).flatMap JournalRecord.bytes)
        (s.withEvr fun e => { e with journal := e.journal.drop (fr.byte 0) }) := by
  simp only [readJournal, journalBody, List.length_take]

end Requests

/-- Settles O57: each request by what its block makes of its operand. -/
theorem flagMaskMarkAndJournalRequests : Obligations.FlagMaskMarkAndJournalRequests := by
  intro fr s h
  refine ⟨fun acc => ⟨fun hbad => ?_, fun hp ha => ?_⟩,
    fun acc => ⟨fun hbad => ?_, fun hmask => ?_, fun hbad => ?_, fun h1 h3 => ?_⟩, fun acc => ?_, fun acc => ?_⟩
  · exact next_congr (request_refused acc (clearEvents_badIndex hbad _))
  · refine ⟨eventsCleared (fr.field 0 2) (fr.field 2 2) (fr.field 4 4) h,
      next_congr (request_performed acc (clearEvents_named hp ha h)), eventsCleared_evr _ _ _ h, fun k => ?_,
      eventsCleared_frame _ _ _ h⟩
    rw [eventsCleared_input, superviseFrame_inputs]
  · exact next_congr (request_refused acc (setEventMask_badIndex hbad _))
  · exact ⟨_, next_congr (request_performed acc (setEventMask_taken hmask h)), rfl, withEvr_frame _ h⟩
  · exact next_congr (request_refused acc (clearLinkErrors_badIndex hbad _))
  · have hlnk := errorsClearedIf_lnk ((fr.byte 0).testBit 0) ((fr.byte 0).testBit 1) h
    exact ⟨_, next_congr (request_performed acc (clearLinkErrors_taken h1 h3 h)), congrArg Lnk.linkA hlnk,
      congrArg Lnk.linkB hlnk, by rw [hlnk], (errorsClearedIf_frame _ _ _).trans (errorsClearedIf_frame _ _ _)⟩
  · refine ⟨marksCleared h, next_congr ?_, fun f => ?_, marksCleared_frame h⟩
    · rw [request_accepted acc, answer_queryReply, marksBody_congr (superviseFrame_feeders fr.link s)]
    · rw [marksCleared_feeder, superviseFrame_feeders]
  · refine ⟨h.withEvr fun e => { e with journal := e.journal.drop (fr.byte 0) }, next_congr ?_, rfl, withEvr_frame _ h⟩
    rw [request_accepted acc, readJournal_eq, answer_queryReply]

end Sys2Proof.Machine

/-! ## Load shedding: trips, stages, the RoCoF function, the supplement and SHED -/

namespace Sys2Proof.Machine

/-! ### Trips of CLOSED feeders (R73, R75, R80, R83, R85) -/

section Trips

variable {s t : State} {fs : List (Fin 16)} {o : OpOrigin} {f : Fin 16}

theorem effectiveLoad_congr (hm : t.meas = s.meas) (hs : t.settings = s.settings) :
    effectiveLoad t = effectiveLoad s := by
  funext k
  simp only [effectiveLoad, hm, hs]

theorem tripItems_congr (hf : ∀ k ∈ fs, t.feeders[k] = s.feeders[k]) (hm : t.meas = s.meas)
    (hs : t.settings = s.settings) : tripItems t fs = tripItems s fs :=
  List.map_congr_left fun k hk => by rw [hf k hk, effectiveLoad_congr hm hs]

theorem tripItems_isEmpty (s : State) (fs : List (Fin 16)) : (tripItems s fs).isEmpty = fs.isEmpty :=
  List.isEmpty_map

theorem tripItems_length (s : State) (fs : List (Fin 16)) : (tripItems s fs).length = fs.length :=
  List.length_map _

/-- A CLOSED feeder answers a request to open with its operation begun (R54, R55). -/
theorem operate_open_closed (h : s.feeders[f].state = .closed) :
    operate f false o s = (beginOperation f false o s, .taken) :=
  operate_begins (Or.inl h)

theorem beginTrip_frame (h : s.feeders[f].state = .closed) :
    SameBut [.feeders, .notices, .draws] s (beginOperation f false o s) := by
  have k := operate_open_frame f o s
  rwa [operate_open_closed h] at k

theorem tripFeeders_cons (h : s.feeders[f].state = .closed) :
    tripFeeders o (f :: fs) s =
      ((tripFeeders o fs (beginOperation f false o s)).1,
        ⟨f, s.feeders[f].generation, effectiveLoad s f⟩ :: (tripFeeders o fs (beginOperation f false o s)).2) := by
  simp only [tripFeeders, operate_open_closed h]

theorem FeedersTripped.nil : FeedersTripped o [] s s :=
  ⟨fun _ hk => absurd hk List.not_mem_nil, fun _ _ => rfl, SameBut.refl _ s⟩

theorem FeedersTripped.cons (h : s.feeders[f].state = .closed) (hnew : f ∉ fs)
    (rest : FeedersTripped o fs (beginOperation f false o s) t) : FeedersTripped o (f :: fs) s t := by
  obtain ⟨htripped, hothers, hframe⟩ := rest
  have fr := beginTrip_frame (o := o) h
  refine ⟨fun k hk => ?_, fun k hk => ?_, fr.trans hframe⟩
  · by_cases hkf : k = f
    · subst hkf
      rw [hothers k hnew]
      exact beginOperation_begun k false o s
    · have begun := htripped k ((List.mem_cons.mp hk).resolve_left hkf)
      rwa [fr.settings (by decide), beginOperation_other _ _ _ hkf] at begun
  · obtain ⟨hkf, hkfs⟩ := List.ne_and_not_mem_of_not_mem_cons hk
    rw [hothers k hkfs, beginOperation_other _ _ _ hkf]

/-- CLOSED feeders, each named once, are all tripped, and each leaves its item (R73, R75, R80). -/
theorem tripFeeders_closed (hnodup : fs.Nodup) (hclosed : ∀ k ∈ fs, s.feeders[k].state = .closed) :
    FeedersTripped o fs s (tripFeeders o fs s).1 ∧ (tripFeeders o fs s).2 = tripItems s fs := by
  induction fs generalizing s with
  | nil => exact ⟨FeedersTripped.nil, rfl⟩
  | cons f fs ih =>
    obtain ⟨hnew, hrest⟩ := List.nodup_cons.mp hnodup
    have hf : s.feeders[f].state = .closed := hclosed f List.mem_cons_self
    have fr := beginTrip_frame (o := o) hf
    have hsame : ∀ k ∈ fs, (beginOperation f false o s).feeders[k] = s.feeders[k] := fun k hk =>
      beginOperation_other _ _ _ fun e => hnew (e ▸ hk)
    obtain ⟨htripped, hitems⟩ := ih (s := beginOperation f false o s) hrest fun k hk => by
      rw [hsame k hk]
      exact hclosed k (List.mem_cons_of_mem f hk)
    rw [tripFeeders_cons hf]
    refine ⟨htripped.cons hf hnew, ?_⟩
    rw [hitems, tripItems_congr hsame (fr.meas (by decide)) (fr.settings (by decide))]
    rfl

/-- A tripped feeder stands OPENING (R55). -/
theorem FeedersTripped.opening (h : FeedersTripped o fs s t) (hf : f ∈ fs) : t.feeders[f].state = .opening := by
  obtain ⟨htripped, -, -⟩ := h
  rw [htripped f hf]
  rfl

theorem any_tripItems (s : State) (fs : List (Fin 16)) (f : Fin 16) :
    ((tripItems s fs).any fun x => decide (x.feeder = f)) = decide (f ∈ fs) := by
  rw [Bool.eq_iff_iff]
  simp [tripItems]

/-- The tripped feeders join the credit list (R83). -/
theorem joinCredit_tripItems (hshd : t.shd.credit = s.shd.credit) (ht : t.time = s.time)
    (hs : t.settings = s.settings) :
    joinCredit (tripItems s fs) t = { t with shd := { t.shd with credit := creditWith s fs } } := by
  simp only [joinCredit, modShd, any_tripItems, partTimeAfter, hshd, ht, hs, creditWith, decide_not]
  simp only [tripItems, List.map_map]
  rfl

/-- The tripped feeders join the target-trip list (R85). -/
theorem joinTargets_tripItems (hshd : t.shd.targets = s.shd.targets) :
    joinTargets (tripItems s fs) t = { t with shd := { t.shd with targets := targetsWith s fs } } := by
  simp only [joinTargets, modShd, any_tripItems, hshd, targetsWith, decide_not]
  simp only [tripItems, List.map_map]
  rfl

end Trips

/-! ### Tripped feeders and the push of their entry (R61, R94, R102) -/

section Opening

variable {s t : State} {k : Fin 16}

/-- The restorer closes no feeder that is opening: such a request is refused (R54). -/
theorem restoreClose_opening (h : s.feeders[k].state = .opening) (i : Nat) (x : StackItem) :
    (restoreClose i x s).feeders[k] = s.feeders[k] := by
  unfold restoreClose
  generalize hz : journal .feederRestored x.feeder x.snapshot (modEntry i (fun e => { e with restoring := true }) s) = z
  have hfeeders : z.feeders = s.feeders := by rw [← hz, journal_feeders]; rfl
  split
  next u hu =>
    have hne : k ≠ x.feeder := by
      rintro rfl
      rw [operate_inFlight (Or.inl (hfeeders ▸ h))] at hu
      nomatch congrArg Prod.snd hu
    have htaken : u = beginOperation x.feeder true .restore z := by
      rw [← operate_taken (congrArg Prod.snd hu), hu]
    rw [(endEpisode_frame _).feeders (by decide), modRst_feeders, htaken, beginOperation_other _ _ _ hne, hfeeders]
  next => rfl

theorem examine_opening (n : Nat) {s : State} (h : s.feeders[k].state = .opening) :
    (examine n s).feeders[k] = s.feeders[k] := by
  induction n generalizing s with
  | zero => rw [examine, (keepEpisode_frame s).feeders (by decide)]
  | succ n ih =>
    have hkeep : (keepEpisode s).feeders = s.feeders := (keepEpisode_frame s).feeders (by decide)
    have hskip : ∀ x code, (skipItem x code (keepEpisode s)).feeders = (keepEpisode s).feeders := fun x code =>
      (skipItem_frame x code _).feeders (by decide)
    rw [← hkeep] at h ⊢
    unfold examine
    dsimp only
    repeat' split
    · rfl
    · rfl
    · rw [(beginEpisode_frame _ _ _).feeders (by decide)]
    · rw [ih (by rwa [hskip]), hskip]
    · exact restoreClose_opening h _ _
    · rfl

theorem restorerTurn_opening (h : s.feeders[k].state = .opening) : (restorerTurn s).feeders[k] = s.feeders[k] :=
  examine_opening _ h

/-- A push does not touch a feeder that is opening, whatever the restorer then turns to. -/
theorem push_opening (h : s.feeders[k].state = .opening) (kind : EntryKind) (v : Int) (f : Nat)
    (items : List StackItem) : (push kind v f items s).feeders[k] = s.feeders[k] := by
  have hfeeders : (emitStack (restartDelay (if s.rst.entries.length < Config.stackMax then pushEntry kind v f items s
      else mergeTop kind v f items s))).feeders = s.feeders :=
    SameBut.feeders (ps := [.rst, .evr, .notices, .draws]) (by simp) (by decide)
  rw [← hfeeders] at h ⊢
  exact restorerTurn_opening h

theorem push_tripped {o : OpOrigin} {fs : List (Fin 16)} (h : FeedersTripped o fs s t) (hk : k ∈ fs)
    (kind : EntryKind) (v : Int) (f : Nat) (items : List StackItem) :
    OperationBegun (effectiveStyle s.settings k) s.settings.feeders[k] false o s.feeders[k]
      (push kind v f items t).feeders[k] := by
  rw [push_opening (h.opening hk)]
  obtain ⟨htripped, -, -⟩ := h
  exact htripped k hk

end Opening

/-! ### Start demands (R136) -/

theorem startSet_protection (g : Fin 4) (o : SetOrigin) (s : State) :
    (startSet g o s).1.evr.protection = s.evr.protection := by
  unfold startSet
  dsimp only
  repeat' split
  · rw [(enterRunUp_frame _ _ _).evr (by decide), genRecord, journal_evr_protection]
    rfl
  · rw [(servePermit_frame _).evr (by decide), modGen_evr, (enterSet_frame _ _ _ _ _ _).evr (by decide), genRecord,
      journal_evr_protection]
    rfl
  · rfl

/-- A start demand leaves the PROTECTION flags as they stand. -/
theorem serveDemand_protection (n : Nat) (s : State) : (serveDemand n s).evr.protection = s.evr.protection := by
  unfold serveDemand
  repeat' split
  · rfl
  · exact startSet_protection _ _ s
  · exact journal_evr_protection _ _ _ s
  · rfl

/-! ### SHED (R87) -/

/-- The elements of a list at their first places are each named once. -/
theorem firstPlaces_nodup {α : Type} [DecidableEq α] : ∀ l : List α, (firstPlaces l).Nodup
  | [] => List.nodup_nil
  | x :: l => List.nodup_cons.mpr ⟨fun h => by simpa using List.of_mem_filter h, (firstPlaces_nodup l).filter _⟩

section Shed

variable {fr : Frame} {s : State} {named closed : List (Fin 16)}

/-- A feeder number above 15, anywhere in the list, leaves no list of feeders (R87). -/
theorem shedFeeders_eq_none {k : Nat} (hk : k < fr.byte 0) (h : 16 ≤ fr.byte (1 + k)) : shedFeeders fr = none :=
  congrArg (Option.map firstPlaces)
    (mapM_eq_none_of_mem (g := fun k => objectOf 16 (fr.byte (1 + k))) (objectOf_of_le h) (List.mem_range.mpr hk))

theorem shedFeeders_nodup (h : shedFeeders fr = some named) : named.Nodup := by
  obtain ⟨l, -, rfl⟩ := Option.map_eq_some_iff.mp h
  exact firstPlaces_nodup l

theorem shed_badIndex (h : shedFeeders fr = none) : shed fr s = refuse .badIndex s := by
  simp only [shed, h]

theorem shed_wrongState (hn : shedFeeders fr = some named)
    (hc : (named.filter fun k => decide (s.feeders[k].state = .closed)) = []) : shed fr s = refuse .wrongState s := by
  simp only [shed, hn, hc, List.isEmpty_nil, if_true]

/-- The state that SHED leaves when it trips the feeders `closed` (R87). -/
def manuallyShed (l : Link) (closed : List (Fin 16)) (s : State) : State :=
  journal .manualShed l.code closed.length
    (push .manualShed l.code ((presentFreq s).getD 0) (tripItems s closed) (tripFeeders .manualShed closed s).1)

theorem shed_trips (hn : shedFeeders fr = some named)
    (hc : (named.filter fun k => decide (s.feeders[k].state = .closed)) = closed) (hne : closed ≠ [])
    (hitems : (tripFeeders .manualShed closed s).2 = tripItems s closed) :
    shed fr s =
      reply .ok (fun _ => leBytes 1 closed.length ++ topPlace (manuallyShed fr.link closed s))
        (manuallyShed fr.link closed s) := by
  simp only [shed, hn, hc, List.isEmpty_iff, if_neg hne, manualShed, hitems, tripItems_length, manuallyShed]

/-- A manual shed is no business of the shed unit's own state: its lists stand (R83, R85). -/
theorem manuallyShed_shd (l : Link) (closed : List (Fin 16)) (s : State) : (manuallyShed l closed s).shd = s.shd := by
  rw [manuallyShed, journal_shd, (push_frame _ _ _ _ _).shd (by decide), (tripFeeders_frame _ _ _).shd (by decide)]

end Shed

/-- Settles O34: the named feeders that are CLOSED are each named once, so all of them are tripped. -/
theorem shedTripsTheNamedFeeders : Obligations.ShedTripsTheNamedFeeders := by
  intro fr s acc h
  have hfeeders : h.feeders = s.feeders := superviseFrame_feeders fr.link s
  refine ⟨fun ⟨k, hk, hbad⟩ => ?_, fun named hn => ?_⟩
  · exact next_congr (request_refused acc (shed_badIndex (shedFeeders_eq_none hk hbad)))
  intro closed
  refine ⟨fun hc => ?_, fun hne => ?_⟩
  · exact next_congr (request_refused acc (shed_wrongState hn (by rwa [superviseFrame_feeders])))
  · have hclosed : (named.filter fun k => decide (h.feeders[k].state = .closed)) = closed := by rw [hfeeders]
    have hall : ∀ k ∈ closed, h.feeders[k].state = .closed := fun k hk => by
      rw [hfeeders]
      exact of_decide_eq_true (List.mem_filter.mp hk).2
    obtain ⟨htripped, hitems⟩ := tripFeeders_closed (o := .manualShed) ((shedFeeders_nodup hn).filter _) hall
    have hsame : tripItems h closed = tripItems s closed :=
      tripItems_congr (fun k _ => by rw [hfeeders]) (superviseFrame_meas fr.link s) (superviseFrame_settings fr.link s)
    have hfreq : presentFreq h = presentFreq s := by simp only [presentFreq, h, superviseFrame_fmon]
    refine ⟨(tripFeeders .manualShed closed h).1, manuallyShed fr.link closed h,
      next_congr (request_performed acc (shed_trips hn hclosed hne hitems)), htripped, ?_, ?_⟩
    · rw [manuallyShed, hsame, hfreq]
    · rw [manuallyShed_shd, superviseFrame_shd]

/-! ### A stage that fires (R72, R73, R88) -/

section Fire

variable {s : State} {i : Fin 4}

/-- The stage is disarmed at its firing (R72). -/
def stageDisarmed (i : Fin 4) (s : State) : State := modShd (fun h => { h with armed := h.armed.set i false }) s

theorem stageEligible_eq (s : State) (i : Fin 4) :
    stageEligible s i = (List.finRange 16).filter fun k =>
      decide (s.feeders[k].state = .closed ∧ s.settings.feeders[k].shedRank ≠ 0
        ∧ s.settings.feeders[k].autoInhibit = false ∧ s.settings.feeders[k].ufStage = i.val + 1) := by
  refine List.filter_congr fun k _ => ?_
  rw [Bool.eq_iff_iff]
  simp [and_assoc]

theorem stageEligible_nodup (s : State) (i : Fin 4) : (stageEligible s i).Nodup := (List.nodup_finRange 16).filter _

theorem closed_of_mem_stageEligible {k : Fin 16} (h : k ∈ stageEligible s i) : s.feeders[k].state = .closed := by
  rw [stageEligible_eq] at h
  obtain ⟨hclosed, -⟩ := of_decide_eq_true (List.mem_filter.mp h).2
  exact hclosed

/-- The eligible feeders of a firing stage are all tripped (R73). -/
theorem stage_trips (s : State) (i : Fin 4) :
    FeedersTripped .autoShed (stageEligible s i) (stageDisarmed i s)
        (tripFeeders .autoShed (stageEligible s i) (stageDisarmed i s)).1
      ∧ (tripFeeders .autoShed (stageEligible s i) (stageDisarmed i s)).2 = tripItems s (stageEligible s i) :=
  tripFeeders_closed (s := stageDisarmed i s) (stageEligible_nodup s i) fun _ => closed_of_mem_stageEligible

/-- The firing of a stage in MONITOR: it is disarmed and reports (R88). -/
theorem fireStage_monitor (h : s.lnk.mode = .monitor) (f : Nat) :
    fireStage f i s = journal .ufStageFired (i.val + 1) 0 (setProt (stageFlag i) (stageDisarmed i s)) := by
  simp only [fireStage, modShd_lnk, h]
  rfl

/-- The entry of a stage's shed has been pushed (R73). -/
def stagePushed (f : Nat) (i : Fin 4) (s : State) : State :=
  push .ufShed (i.val + 1 : Nat) f (tripItems s (stageEligible s i))
    (tripFeeders .autoShed (stageEligible s i) (stageDisarmed i s)).1

theorem stagePushed_frame (f : Nat) (i : Fin 4) (s : State) :
    SameBut [.feeders, .rst, .evr, .notices, .draws] (stageDisarmed i s) (stagePushed f i s) := by
  simp [stagePushed]

/-- The firing of a stage in AUTO without an eligible feeder: no entry is pushed (R73). -/
theorem fireStage_none (h : s.lnk.mode = .auto) (f : Nat) (hnone : stageEligible s i = []) :
    fireStage f i s =
      serveDemand 2 (journal .ufStageFired (i.val + 1) 0 (setProt (stageFlag i) (stageDisarmed i s))) := by
  have he : stageEligible (stageDisarmed i s) i = [] := hnone
  simp only [fireStage, modShd_lnk, h]
  rw [← stageDisarmed, he]
  rfl

/-- The firing of a stage in AUTO with eligible feeders (R73). -/
theorem fireStage_some (h : s.lnk.mode = .auto) (f : Nat) (hsome : stageEligible s i ≠ []) :
    fireStage f i s =
      serveDemand 2 (journal .ufStageFired (i.val + 1) (stageEligible s i).length (setProt (stageFlag i)
        { stagePushed f i s with
          shd := { (stagePushed f i s).shd with credit := creditWith s (stageEligible s i) } })) := by
  have he : stageEligible (stageDisarmed i s) i = stageEligible s i := rfl
  have fr := stagePushed_frame f i s
  obtain ⟨-, hitems⟩ := stage_trips s i
  simp only [fireStage, modShd_lnk, h]
  rw [← stageDisarmed, he, hitems, tripItems_isEmpty, if_neg (by simpa using hsome), tripItems_length, ← stagePushed,
    joinCredit_tripItems (s := s) (by rw [fr.shd (by decide)]; rfl) (fr.time (by decide))
      (fr.settings (by decide))]

/-- What a firing leaves of the shed unit: the stage disarmed, the counts as they were (R72). -/
theorem fireStage_shd (f : Nat) (i : Fin 4) (s : State) :
    (fireStage f i s).shd.counts = s.shd.counts ∧ (fireStage f i s).shd.armed = s.shd.armed.set i false := by
  cases hmode : s.lnk.mode with
  | monitor =>
    rw [fireStage_monitor hmode, journal_shd]
    exact ⟨rfl, rfl⟩
  | auto =>
    by_cases hnone : stageEligible s i = []
    · rw [fireStage_none hmode f hnone, (serveDemand_frame _ _).shd (by decide), journal_shd]
      exact ⟨rfl, rfl⟩
    · rw [fireStage_some hmode f hnone, (serveDemand_frame _ _).shd (by decide), journal_shd, setProt_shd]
      dsimp only
      rw [(stagePushed_frame f i s).shd (by decide)]
      exact ⟨rfl, rfl⟩

theorem fireStage_armed_self (f : Nat) (i : Fin 4) (s : State) : (fireStage f i s).shd.armed[i] = false := by
  obtain ⟨-, harmed⟩ := fireStage_shd f i s
  simp [harmed]

theorem fireStage_armed_other {j : Fin 4} (f : Nat) (h : j ≠ i) (s : State) :
    (fireStage f i s).shd.armed[j] = s.shd.armed[j] := by
  obtain ⟨-, harmed⟩ := fireStage_shd f i s
  have hne : i.val ≠ j.val := fun e => h (Fin.ext e.symm)
  simp [harmed, hne]

theorem setProt_stageFlag_bit (i : Fin 4) (s : State) :
    (setProt (stageFlag i) s).evr.protection.getLsbD (2 + i.val) = true := by
  fin_cases i <;> simp [stageFlag, ProtFlag.bit]

/-- The flag of a stage that fires is set in either mode (R73, R88). -/
theorem fireStage_flag (f : Nat) (i : Fin 4) (s : State) :
    (fireStage f i s).evr.protection.getLsbD (2 + i.val) = true := by
  cases hmode : s.lnk.mode with
  | monitor => rw [fireStage_monitor hmode, journal_evr_protection, setProt_stageFlag_bit]
  | auto =>
    by_cases hnone : stageEligible s i = []
    · rw [fireStage_none hmode f hnone, serveDemand_protection, journal_evr_protection, setProt_stageFlag_bit]
    · rw [fireStage_some hmode f hnone, serveDemand_protection, journal_evr_protection, setProt_stageFlag_bit]

/-- Every eligible feeder of a stage that fires in AUTO has been asked to open, and stays so (R73). -/
theorem fireStage_begun (h : s.lnk.mode = .auto) (f : Nat) {k : Fin 16} (hk : k ∈ stageEligible s i) :
    OperationBegun (effectiveStyle s.settings k) s.settings.feeders[k] false .autoShed s.feeders[k]
      (fireStage f i s).feeders[k] := by
  obtain ⟨htripped, -⟩ := stage_trips s i
  rw [fireStage_some h f (List.ne_nil_of_mem hk), (serveDemand_frame _ _).feeders (by decide), journal_feeders,
    setProt_feeders]
  exact push_tripped htripped hk _ _ _ _

end Fire

/-! ### The stage function (R71 to R74) -/

section Stages

variable {s : State}

/-- The stages of a list fire one after the other (R72). -/
theorem fireStages_shd (f : Nat) : ∀ (l : List (Fin 4)) (s : State),
    (l.foldl (fun s i => fireStage f i s) s).shd.counts = s.shd.counts
      ∧ ∀ j : Fin 4, (l.foldl (fun s i => fireStage f i s) s).shd.armed[j] = (s.shd.armed[j] && decide (j ∉ l))
  | [], s => ⟨rfl, fun j => by simp⟩
  | i :: l, s => by
    obtain ⟨hcounts, harmed⟩ := fireStages_shd f l (fireStage f i s)
    obtain ⟨hfire, -⟩ := fireStage_shd f i s
    refine ⟨hcounts.trans hfire, fun j => (harmed j).trans ?_⟩
    by_cases h : j = i
    · subst h
      rw [fireStage_armed_self, decide_eq_false (not_not_intro List.mem_cons_self), Bool.and_false, Bool.false_and]
    · rw [fireStage_armed_other f h]
      simp [h]

/-- The count of a stage after a frequency value (R71). -/
theorem stageCountsAfter_get (s : State) (f : Nat) (i : Fin 4) :
    (stageCountsAfter s f)[i] =
      if f ≤ s.settings.stages.threshold[i] then min 255 (s.shd.counts[i] + 1) else 0 := by
  simp [stageCountsAfter]

/-- The counts have been updated for a frequency value (R71). -/
def stagesCounted (f : Nat) (s : State) : State := modShd (fun h => { h with counts := stageCountsAfter s f }) s

theorem stagesCounted_settings (f : Nat) (s : State) : (stagesCounted f s).settings = s.settings := rfl

/-- The stages that fire at a frequency value: the armed ones whose new count has reached q (R72). -/
def firingAt (f : Nat) (s : State) : List (Fin 4) :=
  firingStages (stagesCounted f s)

theorem mem_firingAt {f : Nat} {i : Fin 4} :
    i ∈ firingAt f s ↔ s.shd.armed[i] = true ∧ s.settings.stages.q[i] ≤ (stageCountsAfter s f)[i] := by
  refine List.mem_filter.trans ?_
  rw [Bool.and_eq_true, decide_eq_true_eq]
  exact and_iff_right (List.mem_finRange i)

theorem stageFunction_counts (f : Nat) (s : State) : (stageFunction f s).shd.counts = stageCountsAfter s f :=
  (fireStages_shd f (firingAt f s) _).1

theorem rearmStages_armed (f : Nat) (fired : List (Fin 4)) (s : State) (i : Fin 4) :
    (rearmStages f fired s).shd.armed[i] =
      (s.shd.armed[i]
        || (!fired.contains i && decide (s.settings.stages.threshold[i] + s.settings.stages.ufRearm ≤ f))) :=
  Vector.getElem_ofFn _

/-- A stage is armed after a value when it did not fire and either was armed or has its margin met (R72, R74). -/
theorem stageFunction_armed (f : Nat) (s : State) (i : Fin 4) :
    (stageFunction f s).shd.armed[i] = true ↔
      i ∉ firingAt f s ∧
        (s.shd.armed[i] = true ∨ s.settings.stages.threshold[i] + s.settings.stages.ufRearm ≤ f) := by
  have hcounted : (stagesCounted f s).shd.armed[i] = s.shd.armed[i] := rfl
  obtain ⟨-, harmed⟩ := fireStages_shd f (firingAt f s) (stagesCounted f s)
  have hsettings := (SameBut.foldl (fun t i => fireStage_frame f i t) (firingAt f s)
    (stagesCounted f s)).settings (by decide)
  have hrearm := rearmStages_armed f (firingAt f s)
    ((firingAt f s).foldl (fun s i => fireStage f i s) (stagesCounted f s)) i
  rw [harmed, hsettings, stagesCounted_settings, hcounted] at hrearm
  rw [show (stageFunction f s).shd.armed[i] = _ from hrearm]
  by_cases h : i ∈ firingAt f s <;> simp [h]

end Stages

/-! ### The shed unit's answer to a bus notice (R70, R84) -/

section OnBus

variable {n : BusNotice} {s : State}

/-- Both functions take a value, the one or the other first (R84). -/
theorem shdValue_either (v : PresentValue) (s : State) :
    shdValue v s = rocofFunction v (stageFunction v.f (drawn s))
      ∨ shdValue v s = stageFunction v.f (rocofFunction v (drawn s)) := by
  unfold shdValue
  dsimp only
  split
  · exact Or.inl rfl
  · exact Or.inr rfl

/-- A notice with a value: the functions take it, and after a dead bus every stage is then armed (R70). -/
theorem shdOnBus_value {v : PresentValue} (hv : n.value = some v) (hb : n.brk = false) (hl : n.bus = .live) :
    shdOnBus n s =
      if n.prev ≠ .live ∧ n.afterDead = true then
        modShd (fun h => { h with armed := Vector.replicate 4 true }) (shdValue v s)
      else shdValue v s := by
  simp [shdOnBus, hv, hb, hl]

/-- A break without a value (R70). -/
theorem shdOnBus_break (hv : n.value = none) (hb : n.brk = true) (hl : n.bus ≠ .live) :
    shdOnBus n s = if n.bus = .dead ∧ n.prev ≠ .dead then shdDead (shdBreak s) else shdBreak s := by
  simp only [shdOnBus, hv, hb, hl, if_true, false_and, if_false]

theorem shdOnBus_settling (hv : n.value = none) (hb : n.brk = false) (hs : n.bus = .settling) :
    shdOnBus n s = s := by
  simp [shdOnBus, hv, hb, hs]

end OnBus

/-- Settles O32: the counts and arming of the stage function, one firing by its mode and its eligible feeders, and the
three kinds of bus notice. -/
theorem stagesCountFireAndTrip : Obligations.StagesCountFireAndTrip := by
  refine ⟨fun f s i => ?_, fun f i s => ?_, fun n s => ⟨fun v hv hb hl => ?_, fun hv hb hl => ?_,
    fun hv hb hs => shdOnBus_settling hv hb hs⟩⟩
  · rw [stageFunction_counts, ← stageCountsAfter_get]
    refine ⟨rfl, fun ha => ?_, fun ha => ?_⟩
    · rw [← Bool.not_eq_true, stageFunction_armed, mem_firingAt]
      simp only [ha, true_and, true_or, and_true, not_not]
    · rw [stageFunction_armed, mem_firingAt, ha]
      simp
  · intro u eligible disarmed
    have he : eligible = stageEligible s i := (stageEligible_eq s i).symm
    rw [he]
    obtain ⟨hcounts, -⟩ := fireStage_shd f i s
    refine ⟨fireStage_armed_self f i s, hcounts, fireStage_flag f i s, fun hmode hnone => fireStage_none hmode f hnone,
      fun hmode hsome => ⟨fun k hk => fireStage_begun hmode f hk, ?_⟩, fun hmode => ?_⟩
    · obtain ⟨htripped, -⟩ := stage_trips s i
      exact ⟨_, stagePushed f i s, htripped, rfl, fireStage_some hmode f hsome⟩
    · have hfire : u = _ := fireStage_monitor hmode f
      rw [hfire]
      refine ⟨by simp [stageDisarmed], ?_, ?_⟩
      · rw [journal_shd, setProt_shd]
        rfl
      · exact journal_evr_congr _ _ _ (setProt_evr_congr _ rfl) rfl
  · have hanswer : deliver (.bus .shd n) s = _ := shdOnBus_value hv hb hl
    refine ⟨shdValue v s, shdValue_either v s, fun h => ?_, fun h => ?_⟩
    · rw [hanswer, if_pos h]
      rfl
    · rw [hanswer, if_neg fun ⟨hp, ha⟩ => h.elim hp fun hno => Bool.false_ne_true (hno.symm.trans ha)]
  · have hanswer : deliver (.bus .shd n) s = _ := shdOnBus_break hv hb hl
    have hzero : ∀ i : Fin 4, (Vector.replicate 4 0 : Vector Nat 4)[i] = 0 := fun _ => Vector.getElem_replicate _
    by_cases h : n.bus = .dead ∧ n.prev ≠ .dead
    · rw [hanswer, if_pos h]
      obtain ⟨hbus, hprev⟩ := h
      refine ⟨hzero, rfl, rfl, fun _ => ⟨rfl, rfl, rfl⟩, fun hother => hother.elim (fun hs => ?_) (absurd · hprev),
        by simp⟩
      rw [hbus] at hs
      contradiction
    · rw [hanswer, if_neg h]
      exact ⟨hzero, rfl, rfl, fun hdead => absurd hdead h, fun _ => ⟨rfl, rfl, rfl⟩, by simp⟩

/-! ### The RoCoF candidates and their selection (R79) -/

section Selection

variable {s t : State}

/-- Selection takes its feeders from the front of the candidates and goes on until their loads reach the amount. -/
theorem takeUntil_reaches (s : State) : ∀ (fs : List (Fin 16)) (amount : Int),
    ∃ rest, fs = takeUntil s amount fs ++ rest
      ∧ (rest = [] ∨ amount ≤ ((takeUntil s amount fs).map (effectiveLoad s)).sum)
  | [], _ => ⟨[], rfl, Or.inl rfl⟩
  | f :: fs, amount => by
    by_cases h : amount ≤ 0
    · refine ⟨f :: fs, ?_, Or.inr ?_⟩ <;> simp only [takeUntil, if_pos h]
      · rfl
      · exact h
    · obtain ⟨rest, hsplit, hreach⟩ := takeUntil_reaches s fs (amount - effectiveLoad s f)
      simp only [takeUntil, if_neg h, List.map_cons, List.sum_cons]
      exact ⟨rest, congrArg (f :: ·) hsplit, hreach.imp_right fun k => by omega⟩

/-- Selection stops at the first feeder that brings the loads to the amount: those before it stay below. -/
theorem takeUntil_front {front : List (Fin 16)} {last : Fin 16} : ∀ {fs : List (Fin 16)} {amount : Int},
    takeUntil s amount fs = front ++ [last] → (front.map (effectiveLoad s)).sum < amount
  | [], _, h => by simp [takeUntil] at h
  | f :: fs, amount, h => by
    by_cases hamount : amount ≤ 0
    · simp [takeUntil, hamount] at h
    · rw [takeUntil, if_neg hamount] at h
      cases front with
      | nil => exact Int.not_le.mp hamount
      | cons g front =>
        obtain ⟨rfl, hrest⟩ := List.cons.inj h
        have := takeUntil_front hrest
        rw [List.map_cons, List.sum_cons]
        omega

theorem mem_of_mem_takeUntil {amount : Int} {fs : List (Fin 16)} {k : Fin 16} (h : k ∈ takeUntil s amount fs) :
    k ∈ fs := by
  obtain ⟨rest, hsplit, -⟩ := takeUntil_reaches s fs amount
  rw [hsplit]
  exact List.mem_append_left rest h

/-- The candidates of shed rank `r + 1`, in ascending number (R79). -/
def candidatesOfRank (s : State) (r : Nat) : List (Fin 16) :=
  (List.finRange 16).filter fun f =>
    decide (s.settings.feeders[f].shedRank = r + 1) && decide (s.feeders[f].state = .closed)
      && !s.settings.feeders[f].autoInhibit && decide (0 < effectiveLoad s f)

theorem rocofCandidates_eq (s : State) : rocofCandidates s = (List.range 15).flatMap (candidatesOfRank s) := rfl

theorem mem_candidatesOfRank {r : Nat} {k : Fin 16} :
    k ∈ candidatesOfRank s r ↔
      s.settings.feeders[k].shedRank = r + 1 ∧ s.feeders[k].state = .closed
        ∧ s.settings.feeders[k].autoInhibit = false ∧ 0 < effectiveLoad s k := by
  simp only [candidatesOfRank, List.mem_filter, List.mem_finRange, true_and, Bool.and_eq_true, decide_eq_true_eq,
    Bool.not_eq_true', and_assoc]

theorem mem_rocofCandidates {k : Fin 16} :
    k ∈ rocofCandidates s ↔
      s.feeders[k].state = .closed ∧ 1 ≤ s.settings.feeders[k].shedRank ∧ s.settings.feeders[k].shedRank ≤ 15
        ∧ s.settings.feeders[k].autoInhibit = false ∧ 0 < effectiveLoad s k := by
  simp only [rocofCandidates_eq, List.mem_flatMap, List.mem_range, mem_candidatesOfRank]
  constructor
  · rintro ⟨r, hr, hrank, hclosed, hinhibit, hload⟩
    exact ⟨hclosed, by omega, by omega, hinhibit, hload⟩
  · rintro ⟨hclosed, hlow, hhigh, hinhibit, hload⟩
    exact ⟨s.settings.feeders[k].shedRank - 1, by omega, by omega, hclosed, hinhibit, hload⟩

/-- The candidates stand in order of shed rank, and within a rank in order of number (R79). -/
theorem rocofCandidates_pairwise (s : State) :
    (rocofCandidates s).Pairwise fun a b =>
      s.settings.feeders[a].shedRank < s.settings.feeders[b].shedRank
        ∨ s.settings.feeders[a].shedRank = s.settings.feeders[b].shedRank ∧ a < b := by
  have rank {r : Nat} {k : Fin 16} (h : k ∈ candidatesOfRank s r) : s.settings.feeders[k].shedRank = r + 1 :=
    (mem_candidatesOfRank.mp h).1
  refine List.pairwise_flatMap.mpr ⟨fun r _ => ?_, ?_⟩
  · exact List.Pairwise.imp_of_mem (fun ha hb hlt => Or.inr ⟨(rank ha).trans (rank hb).symm, hlt⟩)
      ((List.pairwise_lt_finRange 16).filter _)
  · refine List.pairwise_lt_range.imp fun hlt a ha b hb => Or.inl ?_
    rw [rank ha, rank hb]
    omega

theorem rocofCandidates_nodup (s : State) : (rocofCandidates s).Nodup :=
  (rocofCandidates_pairwise s).imp fun h e => by
    subst e
    rcases h with h | ⟨-, h⟩ <;> exact lt_irrefl _ h

theorem selection_nodup (s : State) (amount : Int) : (selection s amount).Nodup := by
  obtain ⟨rest, hsplit, -⟩ := takeUntil_reaches s (rocofCandidates s) amount
  exact (List.nodup_append.mp (hsplit ▸ rocofCandidates_nodup s)).1

theorem closed_of_mem_selection {amount : Int} {k : Fin 16} (h : k ∈ selection s amount) :
    s.feeders[k].state = .closed := by
  obtain ⟨hclosed, -⟩ := mem_rocofCandidates.mp (mem_of_mem_takeUntil h)
  exact hclosed

/-- The feeders of a selection are all tripped (R80, R86). -/
theorem selection_trips (s : State) (amount : Int) :
    FeedersTripped .autoShed (selection s amount) s (tripFeeders .autoShed (selection s amount) s).1
      ∧ (tripFeeders .autoShed (selection s amount) s).2 = tripItems s (selection s amount) :=
  tripFeeders_closed (selection_nodup s amount) fun _ => closed_of_mem_selection

/-! The selection is a matter of feeders, settings and measurements. -/

theorem takeUntil_congr (h : effectiveLoad t = effectiveLoad s) : ∀ (amount : Int) (fs : List (Fin 16)),
    takeUntil t amount fs = takeUntil s amount fs
  | _, [] => rfl
  | amount, f :: fs => by rw [takeUntil, takeUntil, h, takeUntil_congr h]

theorem selection_congr (hf : t.feeders = s.feeders) (hm : t.meas = s.meas) (hs : t.settings = s.settings)
    (amount : Int) : selection t amount = selection s amount := by
  have hload := effectiveLoad_congr hm hs
  rw [selection, takeUntil_congr hload]
  simp only [selection, rocofCandidates, hload, hf, hs]

end Selection

/-! ### The RoCoF function acts (R76 to R81) -/

section Act

variable {s : State} {v : PresentValue} {r dP amount : Int}

/-- The qualification count has been updated for a RoCoF value (R76). -/
def rocofCounted (r : Int) (s : State) : State := modShd (fun h => { h with qual := qualAfter s r }) s

theorem rocofFunction_waits (hr : v.r = some r) (hp : v.dP = some dP)
    (h : qualAfter s r ≠ s.settings.stages.qr ∨ s.shd.holdoff.isRunning = true) :
    rocofFunction v s = rocofCounted r s := by
  have hno : ¬ (qualAfter s r = s.settings.stages.qr ∧ ¬ s.shd.holdoff.isRunning = true) := fun ⟨hq, hidle⟩ =>
    h.elim (absurd hq) hidle
  simp only [rocofFunction, hr, hp]
  exact if_neg hno

theorem rocofFunction_acts (hr : v.r = some r) (hp : v.dP = some dP) (hq : qualAfter s r = s.settings.stages.qr)
    (hidle : s.shd.holdoff.isRunning = false) : rocofFunction v s = rocofAct v r dP (rocofCounted r s) := by
  have hyes : qualAfter s r = s.settings.stages.qr ∧ ¬ s.shd.holdoff.isRunning = true :=
    ⟨hq, Bool.eq_false_iff.mp hidle⟩
  simp only [rocofFunction, hr, hp]
  exact if_pos hyes

/-- A covered estimate (R81). -/
theorem rocofAct_covered (ha : shedTarget s dP = amount) (h : amount ≤ 0) :
    rocofAct v r dP s = holdoffStarts (journal .rocofCovered 0 amount (setProt .rocofCovered s)) := by
  simp only [rocofAct, ha, if_pos h]

/-- A shed in MONITOR is reported only (R88). -/
theorem rocofAct_monitor (ha : shedTarget s dP = amount) (h : 0 < amount) (hm : s.lnk.mode = .monitor) :
    rocofAct v r dP s =
      holdoffStarts (journal .rocofShedMonitor (selection s amount).length amount
        (flagShort (selectionShort s amount) (setProt .rocofShed s))) := by
  simp only [rocofAct, ha, if_neg (Int.not_le.mpr h), hm]

theorem rocofAct_auto (ha : shedTarget s dP = amount) (h : 0 < amount) (hm : s.lnk.mode = .auto) :
    rocofAct v r dP s = holdoffStarts (rocofShed v r amount s) := by
  simp only [rocofAct, ha, if_neg (Int.not_le.mpr h), hm]

/-- A RoCoF shed without a candidate (R80). -/
theorem rocofShed_none (h : selection s amount = []) :
    rocofShed v r amount s = serveDemand 2 (journal .rocofShed 0 amount (setProt .shedShort s)) := by
  simp only [rocofShed, h]
  rfl

/-- The entry of a RoCoF shed of the feeders `fs` has been pushed (R80). -/
def rocofPushed (v : PresentValue) (r : Int) (fs : List (Fin 16)) (s : State) : State :=
  push .rocofShed r v.f (tripItems s fs) (tripFeeders .autoShed fs s).1

theorem rocofPushed_frame (v : PresentValue) (r : Int) (fs : List (Fin 16)) (s : State) :
    SameBut [.feeders, .rst, .evr, .notices, .draws] s (rocofPushed v r fs s) := by
  simp [rocofPushed]

/-- A state in which the tripped feeders stand on both lists (R83, R85). -/
def listsJoined (s : State) (fs : List (Fin 16)) (w : State) : State :=
  { w with shd := { w.shd with credit := creditWith s fs, targets := targetsWith s fs } }

@[simp] theorem listsJoined_feeders (s : State) (fs : List (Fin 16)) (w : State) :
    (listsJoined s fs w).feeders = w.feeders := rfl
@[simp] theorem listsJoined_shd (s : State) (fs : List (Fin 16)) (w : State) :
    (listsJoined s fs w).shd = { w.shd with credit := creditWith s fs, targets := targetsWith s fs } := rfl
@[simp] theorem listsJoined_rst (s : State) (fs : List (Fin 16)) (w : State) : (listsJoined s fs w).rst = w.rst := rfl

theorem listsJoined_frame (s : State) (fs : List (Fin 16)) (w : State) : SameBut [.shd] w (listsJoined s fs w) := by
  simp [listsJoined]
@[simp] theorem sameBut_listsJoined {ps : List Part} (x : State) (fs : List (Fin 16)) {s t : State}
    (hp : [Part.shd].all (· ∈ ps) = true) : SameBut ps s (listsJoined x fs t) ↔ SameBut ps s t :=
  sameBut_iff (listsJoined_frame x fs t) hp

theorem joins_tripItems {w : State} {fs : List (Fin 16)} (hshd : w.shd = s.shd) (ht : w.time = s.time)
    (hs : w.settings = s.settings) :
    joinTargets (tripItems s fs) (joinCredit (tripItems s fs) w) = listsJoined s fs w := by
  rw [joinCredit_tripItems (by rw [hshd]) ht hs, joinTargets_tripItems (by simp only [hshd])]
  rfl

/-- A RoCoF shed that trips the feeders `fs` (R80). -/
theorem rocofShed_some {fs : List (Fin 16)} (h : selection s amount = fs) (hne : fs ≠ []) :
    rocofShed v r amount s =
      serveDemand 2 (journal .rocofShed fs.length amount
        (flagShort (selectionShort s amount) (setProt .rocofShed (listsJoined s fs (rocofPushed v r fs s))))) := by
  have fr := rocofPushed_frame v r fs s
  obtain ⟨-, hitems⟩ := selection_trips s amount
  rw [h] at hitems
  simp only [rocofShed, h]
  rw [hitems, tripItems_isEmpty, if_neg (by simpa using hne), tripItems_length, ← rocofPushed,
    joins_tripItems (fr.shd (by decide)) (fr.time (by decide)) (fr.settings (by decide))]

end Act

/-! ### What the RoCoF function leaves (R80, R81, R88) -/

section Acted

variable {s : State} {v : PresentValue} {r dP amount : Int}

@[simp] theorem flagShort_shd (b : Bool) (s : State) : (flagShort b s).shd = s.shd :=
  (flagShort_frame b s).shd (by decide)
@[simp] theorem flagShort_settings (b : Bool) (s : State) : (flagShort b s).settings = s.settings :=
  (flagShort_frame b s).settings (by decide)
@[simp] theorem flagShort_time (b : Bool) (s : State) : (flagShort b s).time = s.time :=
  (flagShort_frame b s).time (by decide)
@[simp] theorem flagShort_feeders (b : Bool) (s : State) : (flagShort b s).feeders = s.feeders :=
  (flagShort_frame b s).feeders (by decide)
@[simp] theorem flagShort_rst (b : Bool) (s : State) : (flagShort b s).rst = s.rst :=
  (flagShort_frame b s).rst (by decide)

theorem flagShort_evr_congr (b : Bool) {t : State} (h : t.evr = s.evr) : (flagShort b t).evr = (flagShort b s).evr := by
  cases b
  · exact h
  · exact setProt_evr_congr _ h

theorem holdoffStarts_eq {t : State} (h : t.settings = s.settings) :
    holdoffStarts t = { t with shd := { t.shd with qual := 0, holdoff := .running s.settings.stages.holdoffMs } } := by
  simp only [holdoffStarts, modShd, h]

section Selected

variable {fs : List (Fin 16)} (hfs : selection s amount = fs)

include hfs

/-- The shed unit's own state after a shed that trips a feeder: only the lists have changed (R83, R85). -/
theorem rocofShed_shd (hne : fs ≠ []) :
    (rocofShed v r amount s).shd = { s.shd with credit := creditWith s fs, targets := targetsWith s fs } := by
  rw [rocofShed_some hfs hne, (serveDemand_frame _ _).shd (by decide), journal_shd, flagShort_shd, setProt_shd,
    listsJoined_shd, (rocofPushed_frame v r fs s).shd (by decide)]

theorem selected_tripped : FeedersTripped .autoShed fs s (tripFeeders .autoShed fs s).1 := by
  obtain ⟨htripped, -⟩ := selection_trips s amount
  rwa [hfs] at htripped

/-- Every selected feeder has been asked to open, and stays so (R80). -/
theorem rocofShed_begun {k : Fin 16} (hk : k ∈ fs) :
    OperationBegun (effectiveStyle s.settings k) s.settings.feeders[k] false .autoShed s.feeders[k]
      (rocofShed v r amount s).feeders[k] := by
  have hfeeders : (rocofShed v r amount s).feeders = (rocofPushed v r fs s).feeders := by
    rw [rocofShed_some hfs (List.ne_nil_of_mem hk), (serveDemand_frame _ _).feeders (by decide), journal_feeders,
      flagShort_feeders, setProt_feeders, listsJoined_feeders]
  rw [hfeeders]
  exact push_tripped (selected_tripped hfs) hk _ _ _ _

end Selected

/-- Whatever the RoCoF function does when it acts, the stages stand, its count is 0 and the hold-off timer runs
(R80 to R82). -/
theorem rocofAct_shd (v : PresentValue) (r dP : Int) (s : State) :
    (rocofAct v r dP s).shd.qual = 0
      ∧ (rocofAct v r dP s).shd.holdoff = .running s.settings.stages.holdoffMs
      ∧ (rocofAct v r dP s).shd.counts = s.shd.counts ∧ (rocofAct v r dP s).shd.armed = s.shd.armed := by
  obtain ⟨z, hz, hsettings, hcounts, harmed⟩ : ∃ z, rocofAct v r dP s = holdoffStarts z ∧ z.settings = s.settings
      ∧ z.shd.counts = s.shd.counts ∧ z.shd.armed = s.shd.armed := by
    rcases le_or_gt (shedTarget s dP) 0 with hcovered | hsought
    · exact ⟨_, rocofAct_covered rfl hcovered, by simp, by simp, by simp⟩
    · cases hm : s.lnk.mode with
      | monitor => exact ⟨_, rocofAct_monitor rfl hsought hm, by simp, by simp, by simp⟩
      | auto =>
        refine ⟨_, rocofAct_auto rfl hsought hm, (rocofShed_frame _ _ _ _).settings (by decide), ?_⟩
        by_cases hnone : selection s (shedTarget s dP) = []
        · rw [rocofShed_none hnone, (serveDemand_frame _ _).shd (by decide), journal_shd]
          exact ⟨rfl, rfl⟩
        · rw [rocofShed_shd rfl hnone]
          exact ⟨rfl, rfl⟩
  rw [hz, holdoffStarts_eq hsettings]
  exact ⟨rfl, rfl, hcounts, harmed⟩

/-- The RoCoF function acts in AUTO with a selection: trips, lists, entry, reports and start demand (R80, R88). -/
theorem rocofAct_sheds {amount : Int} {fs : List (Fin 16)} (ha : shedTarget s dP = amount) (h : 0 < amount)
    (hm : s.lnk.mode = .auto) (hfs : selection s amount = fs) (hne : fs ≠ []) :
    (∀ k ∈ fs,
        OperationBegun (effectiveStyle s.settings k) s.settings.feeders[k] false .autoShed s.feeders[k]
          (rocofAct v r dP s).feeders[k])
      ∧ (rocofAct v r dP s).shd.credit = creditWith s fs
      ∧ (rocofAct v r dP s).shd.targets = targetsWith s fs
      ∧ FeedersTripped .autoShed fs s (tripFeeders .autoShed fs s).1
      ∧ rocofAct v r dP s =
          holdoffStarts (serveDemand 2 (journal .rocofShed fs.length amount
            (flagShort (selectionShort s amount) (setProt .rocofShed (listsJoined s fs (rocofPushed v r fs s)))))) := by
  have hact : rocofAct v r dP s = _ := rocofAct_auto ha h hm
  have hshd := rocofShed_shd (v := v) (r := r) hfs hne
  refine ⟨fun k hk => ?_, ?_, ?_, selected_tripped hfs, ?_⟩
  · rw [hact, holdoffStarts, modShd_feeders]
    exact rocofShed_begun hfs hk
  · rw [hact, holdoffStarts, modShd_shd, hshd]
  · rw [hact, holdoffStarts, modShd_shd, hshd]
  · rw [hact, rocofShed_some hfs hne]

end Acted

/-! ### The supplement of a failed target trip (R86) -/

section Supplement

variable {s : State} {f : Fin 16} {amount : Int}

theorem supplement_none (h : s.lnk.mode = .monitor ∨ s.fmon.bus ≠ .live ∨ listed s f = false) :
    supplement f amount s = journal .shedSupplement f (-1) s := by
  rw [supplement, if_neg]
  rintro ⟨hm, hbus, hlisted⟩
  rcases h with h | h | h
  · rw [h] at hm
    contradiction
  · exact h hbus
  · rw [h] at hlisted
    contradiction

/-- The selection for an amount is short, or there is no candidate at all (R86). -/
def supplementShort (s : State) (amount : Int) : Bool := selectionShort s amount || (rocofCandidates s).isEmpty

theorem supplementShort_iff :
    supplementShort s amount = true ↔
      ((rocofCandidates s).map (effectiveLoad s)).sum < amount ∨ rocofCandidates s = [] := by
  rw [supplementShort, Bool.or_eq_true, selectionShort, decide_eq_true_eq, List.isEmpty_iff]

/-- The supplement's feeders have been tripped, and their items stand in the entry and on the lists (R86, R96). -/
def supplemented (f : Fin 16) (amount : Int) (s : State) : State :=
  listsJoined s (selection s amount)
    (appendItems f (tripItems s (selection s amount)) (tripFeeders .autoShed (selection s amount) s).1)

theorem supplemented_frame (f : Fin 16) (amount : Int) (s : State) :
    SameBut [.feeders, .notices, .draws, .shd, .rst] s (supplemented f amount s) := by
  simp [supplemented]

/-- A supplement trips its selection and appends it to the entry that lists the failed feeder (R86, R96). -/
theorem supplement_made (hm : s.lnk.mode = .auto) (hbus : s.fmon.bus = .live) (hlisted : listed s f = true) :
    supplement f amount s =
      journal .shedSupplement f (selection s amount).length
        (flagShort (supplementShort s amount) (setProt .rocofShed (supplemented f amount s))) := by
  have fr : SameBut [.feeders, .rst, .notices, .draws] s
      (appendItems f (tripItems s (selection s amount)) (tripFeeders .autoShed (selection s amount) s).1) := by simp
  obtain ⟨-, hitems⟩ := selection_trips s amount
  simp only [supplement, hm, hbus, hlisted, and_self, if_true]
  rw [hitems, tripItems_length, joins_tripItems (fr.shd (by decide)) (fr.time (by decide)) (fr.settings (by decide))]
  rfl

/-- Appended items join the first entry that lists the failed feeder (R96). -/
theorem appendItems_entries {below above : List Entry} {e : Entry} (he : s.rst.entries = below ++ e :: above)
    (hbelow : ∀ d ∈ below, d.lists f = false) (hlists : e.lists f = true) (items : List StackItem) :
    (appendItems f items s).rst =
      { s.rst with entries := below ++ { e with items := e.items ++ items } :: above } := by
  have hfirst : s.rst.entries.findIdx? (fun e => e.lists f) = some below.length := by
    rw [he, List.findIdx?_append, List.findIdx?_eq_none_iff.mpr hbelow]
    simp [List.findIdx?_cons, hlists]
  rw [appendItems, hfirst]
  simp [modEntry, he, List.modify_eq_take_cons_drop]

theorem supplemented_feeders (f : Fin 16) (amount : Int) (s : State) :
    (supplemented f amount s).feeders = (tripFeeders .autoShed (selection s amount) s).1.feeders := by
  rw [supplemented, listsJoined_feeders, (appendItems_frame _ _ _).feeders (by decide)]

theorem supplemented_shd (f : Fin 16) (amount : Int) (s : State) :
    (supplemented f amount s).shd =
      { s.shd with credit := creditWith s (selection s amount), targets := targetsWith s (selection s amount) } := by
  rw [supplemented, listsJoined_shd, (appendItems_frame _ _ _).shd (by decide),
    (tripFeeders_frame _ _ _).shd (by decide)]

theorem supplemented_rst {below above : List Entry} {e : Entry} (he : s.rst.entries = below ++ e :: above)
    (hbelow : ∀ d ∈ below, d.lists f = false) (hlists : e.lists f = true) (amount : Int) :
    (supplemented f amount s).rst =
      { s.rst with
        entries := below ++ { e with items := e.items ++ tripItems s (selection s amount) } :: above } := by
  have hrst : (tripFeeders .autoShed (selection s amount) s).1.rst = s.rst :=
    (tripFeeders_frame _ _ _).rst (by decide)
  rw [supplemented, listsJoined_rst, appendItems_entries (hrst ▸ he) hbelow hlists, hrst]

theorem listed_of_entry {below above : List Entry} {e : Entry} (he : s.rst.entries = below ++ e :: above)
    (hlists : e.lists f = true) : listed s f = true := by
  simp [listed, he, hlists]

/-- The credit and target-trip items of a feeder have left their lists (R83, R85). -/
def itemsLeft (f : Fin 16) (s : State) : State :=
  { s with
    shd :=
      { s.shd with
        credit := s.shd.credit.filter fun c => decide (c.feeder ≠ f)
        targets := s.shd.targets.filter fun t => decide (t.feeder ≠ f) } }

/-- A failed trip of a feeder on the target-trip list causes a supplement for its snapshot load (R85, R86). -/
theorem shdOnFeeder_tripFailed {t : TargetItem} (h : s.shd.targets.find? (fun t => decide (t.feeder = f)) = some t) :
    shdOnFeeder f (.failed .trip) .failed s = supplement f t.snapshot (itemsLeft f s) := by
  simp only [shdOnFeeder, FeederState.endsCredit, if_true, modShd, h]
  rfl

/-- A change of feeders, notices and the three blocks that a shed concerns, seen with those blocks as they end. -/
theorem sameBut_withShedBlocks {u : State} (h : SameBut [.feeders, .notices, .draws, .shd, .rst, .evr] s u) :
    SameBut [.feeders, .notices, .draws] { s with shd := u.shd, rst := u.rst, evr := u.evr } u := by
  intro p hp
  have hother : p ∈ [Part.shd, .rst, .evr] ∨ SamePart p s u :=
    or_iff_not_imp_left.mpr fun hblocks => h p fun hin =>
      (List.mem_append (s := [.feeders, .notices, .draws]).mp hin).elim hp hblocks
  cases p
  case shd | rst | evr => rfl
  all_goals exact hother.resolve_left (by decide)

/-- What a supplement leaves: its feeders tripped, their items in the entry of the failed feeder and on both lists,
its flags and its record (R86). -/
theorem supplement_effect {u : State} {fs : List (Fin 16)} (hu : u = supplement f amount s)
    (hfs : selection s amount = fs) (hm : s.lnk.mode = .auto) (hbus : s.fmon.bus = .live)
    {below above : List Entry} {e : Entry} (he : s.rst.entries = below ++ e :: above)
    (hbelow : ∀ d ∈ below, d.lists f = false) (hlists : e.lists f = true) :
    FeedersTripped .autoShed fs { s with shd := u.shd, rst := u.rst, evr := u.evr } u
      ∧ u.rst = { s.rst with entries := below ++ { e with items := e.items ++ tripItems s fs } :: above }
      ∧ u.shd = { s.shd with credit := creditWith s fs, targets := targetsWith s fs }
      ∧ u.evr =
          (journal .shedSupplement f fs.length (flagShort (supplementShort s amount) (setProt .rocofShed s))).evr := by
  subst hfs
  obtain ⟨⟨htripped, hothers, -⟩, -⟩ := selection_trips s amount
  have fr := supplemented_frame f amount s
  rw [supplement_made hm hbus (listed_of_entry he hlists)] at hu
  have hfeeders : u.feeders = (tripFeeders .autoShed (selection s amount) s).1.feeders := by
    rw [hu, journal_feeders, flagShort_feeders, setProt_feeders, supplemented_feeders]
  refine ⟨⟨fun k hk => ?_, fun k hk => ?_, sameBut_withShedBlocks ?_⟩, ?_, ?_, ?_⟩
  · rw [hfeeders]
    exact htripped k hk
  · rw [hfeeders]
    exact hothers k hk
  · rw [hu]
    simp [fr.widen]
  · rw [hu, journal_rst, flagShort_rst, setProt_rst, supplemented_rst he hbelow hlists]
  · rw [hu, journal_shd, flagShort_shd, setProt_shd, supplemented_shd]
  · rw [hu]
    refine journal_evr_congr _ _ _ (flagShort_evr_congr _ (setProt_evr_congr _ (fr.evr (by decide)))) ?_
    simp only [flagShort_time, setProt_time, fr.time (by decide)]

end Supplement

/-- Settles O33: the RoCoF function by what it finds at the value, the selection by its recursion over the candidates,
and the supplement by the conditions of R86. -/
theorem rocofFunctionShedsTheSelection : Obligations.RocofFunctionShedsTheSelection := by
  refine ⟨fun v r dP s hr hp => ?_, fun s amount => ⟨takeUntil_reaches s _ amount, fun front last => takeUntil_front,
    fun k => mem_rocofCandidates, rocofCandidates_pairwise s⟩, fun f before origin turn t s ht => ?_⟩
  · intro q amount short flagged counted ended u
    have ha : shedTarget counted dP = amount := rfl
    have hsel : selection counted amount = selection s amount := selection_congr (s := s) (t := counted) rfl rfl rfl _
    refine ⟨fun h => rocofFunction_waits hr hp h, fun hq hidle => ?_⟩
    have hu : u = rocofAct v r dP counted := rocofFunction_acts hr hp hq hidle
    have hended {x : State} (hx : x.settings = s.settings) : holdoffStarts x = ended x := holdoffStarts_eq hx
    obtain ⟨hqual, hholdoff, hcounts, harmed⟩ := rocofAct_shd v r dP counted
    refine ⟨hu ▸ hqual, hu ▸ hholdoff, hu ▸ hcounts, hu ▸ harmed, fun hcovered => ?_, fun hsought hm => ?_,
      fun hsought hm hnone => ?_, fun hsought hm hsome => ?_⟩
    · have hact : u = _ := hu.trans (rocofAct_covered ha hcovered)
      rw [hact]
      exact ⟨by simp [counted], journal_evr_congr _ _ _ (setProt_evr_congr _ rfl) rfl⟩
    · have hact : u = _ := hu.trans (rocofAct_monitor ha hsought hm)
      have hshd : u.shd = { counted.shd with qual := 0, holdoff := .running s.settings.stages.holdoffMs } := by
        rw [hact, holdoffStarts_eq (s := s) (by simp [counted]), journal_shd, flagShort_shd]
        rfl
      refine ⟨by rw [hact]; simp [counted], by rw [hshd], by rw [hshd], ?_⟩
      rw [hact, ← hsel]
      refine journal_evr_congr _ _ _ (flagShort_evr_congr short (setProt_evr_congr _ rfl)) ?_
      exact (flagShort_time _ _).trans (flagShort_time short (setProt .rocofShed s)).symm
    · have hact : u = _ := hu.trans (rocofAct_auto ha hsought hm)
      rw [hact, rocofShed_none (hsel.trans hnone)]
      refine hended ?_
      rw [(serveDemand_frame _ _).settings (by decide), journal_settings]
      rfl
    · obtain ⟨hbegun, hcredit, htargets, htripped, hact⟩ :=
        rocofAct_sheds (v := v) (r := r) ha hsought hm hsel hsome
      refine ⟨hu ▸ hbegun, hu ▸ hcredit, hu ▸ htargets, _, _, htripped, rfl, (hu.trans hact).trans (hended ?_)⟩
      rw [(serveDemand_frame _ _).settings (by decide), journal_settings, flagShort_settings, setProt_settings,
        (listsJoined_frame _ _ _).settings (by decide), (rocofPushed_frame _ _ _ _).settings (by decide)]
  · intro left u fs short
    have hu : u = supplement f t.snapshot left := shdOnFeeder_tripFailed ht
    have hfs : selection left t.snapshot = fs := selection_congr (s := s) (t := left) rfl rfl rfl _
    have hshort : supplementShort left t.snapshot = true ↔ short := supplementShort_iff
    refine ⟨fun h => hu.trans (supplement_none h), fun hm hbus below above e he hbelow hlists => ?_⟩
    obtain ⟨htripped, hrst, hshd, hevr⟩ := supplement_effect hu hfs hm hbus he hbelow hlists
    refine ⟨htripped, hrst, hshd, fun h => hevr.trans ?_, fun h => hevr.trans ?_⟩
    · rw [hshort.mpr h]
      exact journal_evr_congr _ _ _ rfl rfl
    · rw [Bool.eq_false_iff.mpr fun k => h (hshort.mp k)]
      exact journal_evr_congr _ _ _ rfl rfl

end Sys2Proof.Machine

/-! ## The laws of the restore stack: what they see of the part, and the moves that they see -/

namespace Sys2Proof.Machine

/-! ### What the laws see (R91, R97) -/

/-- What the laws of the stack see of an entry: whether it is the header, and the feeders that it lists. -/
structure Outline where
  header : Bool
  feeders : List (Fin 16)

/-- What the laws of the stack see of an entry of the model. -/
def Entry.outline (e : Entry) : Outline := ⟨e.isHeader, e.items.map fun x => x.feeder⟩

/-- The sequencer is RUNNING or HELD. -/
def BlkState.active : BlkState → Bool
  | .running => true
  | .held => true
  | _ => false

/-- The notice is a reset notice to BLK, which makes it confirm a dead bus whatever its state (R175). -/
def Notice.isBlkReset : Notice → Bool
  | .bus .blk n => n.reset
  | _ => false

/-- What the laws of the stack see of the part: the feeder states, the outlines of the entries, the state of the
sequencer, and whether a reset notice waits for it. -/
@[ext] structure StackView where
  states : Fin 16 → FeederState
  entries : List Outline
  blk : BlkState
  resetAwaited : Bool

/-- What the laws of the stack see of a state of the model. -/
def stackView (s : State) : StackView where
  states f := s.feeders[f].state
  entries := s.rst.entries.map Entry.outline
  blk := s.blk.state
  resetAwaited := s.notices.any Notice.isBlkReset

/-- The feeders that the entries list, from the bottom up. -/
def listedFeeders (l : List Outline) : List (Fin 16) := l.flatMap fun o => o.feeders

/-- The law of listing (R97), on what it sees. -/
structure Listing (states : Fin 16 → FeederState) (l : List Outline) : Prop where
  once : (listedFeeders l).Nodup
  stays : ∀ f ∈ listedFeeders l, (states f).unlists = false

/-- The size of the stack and the place of its header (R91), on what they see; `b` says whether a header stands. -/
structure Shaped (l : List Outline) (b : Bool) : Prop where
  size : l.length ≤ 8
  bottom : ∀ o ∈ l.tail, o.header = false
  bare : ∀ o ∈ l, o.header = true → o.feeders = []
  stands : l.any (fun o => o.header) = b

theorem mem_listedFeeders {l : List Outline} {f : Fin 16} : f ∈ listedFeeders l ↔ ∃ o ∈ l, f ∈ o.feeders :=
  List.mem_flatMap

theorem listedFeeders_append (k l : List Outline) : listedFeeders (k ++ l) = listedFeeders k ++ listedFeeders l :=
  List.flatMap_append

theorem listedFeeders_cons (o : Outline) (l : List Outline) : listedFeeders (o :: l) = o.feeders ++ listedFeeders l :=
  List.flatMap_cons

theorem lists_iff (e : Entry) (f : Fin 16) : e.lists f = true ↔ f ∈ e.outline.feeders := by
  simp [Entry.lists, Entry.outline]

theorem listed_iff (s : State) (f : Fin 16) : listed s f = true ↔ f ∈ listedFeeders (stackView s).entries := by
  simp [listed, lists_iff, mem_listedFeeders, stackView]

/-- The states that keep a feeder in the stack are the three of R97. -/
theorem unlists_eq_false_iff (x : FeederState) :
    x.unlists = false ↔ x = .opened ∨ x = .opening ∨ ∃ dir, x = .failed dir := by
  cases x <;> simp [FeederState.unlists]

theorem listingLaw_iff_listing (s : State) : ListingLaw s ↔ Listing (stackView s).states (stackView s).entries := by
  have e : listedFeeders (stackView s).entries = s.rst.entries.flatMap fun e => e.items.map fun x => x.feeder := by
    simp [listedFeeders, stackView, List.flatMap_map, Entry.outline]
  constructor
  · rintro ⟨once, stays⟩
    exact ⟨e ▸ once, fun f hf => (unlists_eq_false_iff _).mpr (stays f ((listed_iff s f).mpr hf))⟩
  · rintro ⟨once, stays⟩
    exact ⟨e ▸ once, fun f hf => (unlists_eq_false_iff _).mp (stays f ((listed_iff s f).mp hf))⟩

theorem blkActive_eq (s : State) : blkActive s = (stackView s).blk.active := rfl

theorem stackShape_iff_shaped (s : State) : StackShape s ↔ Shaped (stackView s).entries (stackView s).blk.active := by
  have stands : headerStands s = (stackView s).entries.any fun o => o.header := by
    simp [headerStands, stackView, Entry.outline, List.any_map, Function.comp_def]
  have size : (stackView s).entries.length = s.rst.entries.length := List.length_map _
  constructor
  · rintro ⟨hsize, place, header⟩
    refine ⟨size ▸ hsize, fun o ho => ?_, fun o ho hh => ?_, ?_⟩
    · obtain ⟨i, hi, rfl⟩ := List.mem_iff_getElem.mp ho
      by_contra hh
      have hi' : i + 1 < s.rst.entries.length := by simpa [stackView, Nat.lt_sub_iff_add_lt] using hi
      obtain ⟨h0, -⟩ := place (i + 1) s.rst.entries[i + 1] (List.getElem?_eq_getElem hi')
        (by simpa [stackView, Entry.outline] using hh)
      exact absurd h0 (Nat.succ_ne_zero i)
    · obtain ⟨e, he, rfl⟩ := List.mem_map.mp ho
      obtain ⟨i, hi, rfl⟩ := List.mem_iff_getElem.mp he
      obtain ⟨-, hitems⟩ := place i _ (List.getElem?_eq_getElem hi) hh
      simp [Entry.outline, hitems]
    · rw [← stands, Bool.eq_iff_iff, ← blkActive_eq]
      exact header
  · rintro ⟨hsize, bottom, bare, hstands⟩
    refine ⟨size ▸ hsize, fun i e he hh => ?_, ?_⟩
    · obtain ⟨hi, rfl⟩ := List.getElem?_eq_some_iff.mp he
      have hmem : (s.rst.entries[i]).outline ∈ (stackView s).entries := List.mem_map_of_mem (List.getElem_mem hi)
      refine ⟨?_, by simpa [Entry.outline] using bare _ hmem hh⟩
      by_contra h0
      obtain ⟨j, rfl⟩ := Nat.exists_eq_succ_of_ne_zero h0
      have hj : j < (stackView s).entries.tail.length := by simp [stackView]; omega
      have := bottom _ (List.getElem_mem hj)
      simp [stackView, Entry.outline, hh] at this
    · rw [stands, hstands]
      rfl

/-! ### The moves of the stack (chapters 4 to 6) -/

/-- A feeder is gone from the entry that lists it, and an entry whose list becomes empty is gone (R97, R98). -/
inductive Leaves (f : Fin 16) : List Outline → List Outline → Prop
  | emptied {below above : List Outline} {o : Outline} (hf : f ∈ o.feeders) :
    Leaves f (below ++ o :: above) (below ++ above)
  | kept {below above : List Outline} {o : Outline} (hf : f ∈ o.feeders) :
    Leaves f (below ++ o :: above) (below ++ ⟨o.header, o.feeders.filter fun k => k ≠ f⟩ :: above)

/-- Tripped feeders are listed: in a new entry, by a merge into the top of a full stack, or behind the feeders of an
entry that lists some (R94, R95, R96). -/
inductive Takes (fs : List (Fin 16)) : List Outline → List Outline → Prop
  | pushed {l : List Outline} (h : l.length < 8) : Takes fs l (l ++ [⟨false, fs⟩])
  | merged {below : List Outline} {o : Outline} (h : 8 ≤ (below ++ [o]).length) :
    Takes fs (below ++ [o]) (below ++ [⟨false, o.feeders ++ fs⟩])
  | appended {below above : List Outline} {o : Outline} (h : o.feeders ≠ []) :
    Takes fs (below ++ o :: above) (below ++ ⟨o.header, o.feeders ++ fs⟩ :: above)

/-- One move of the stack with the sequencer standing as it does. -/
inductive StackMove : StackView → StackView → Prop
  /-- A feeder enters a state; it is not listed when the state is one of R97. -/
  | enters {v : StackView} (f : Fin 16) (new : FeederState)
    (h : new.unlists = true → f ∉ listedFeeders v.entries) :
    StackMove v { v with states := Function.update v.states f new }
  /-- A feeder leaves the stack, whatever state it enters. -/
  | leaves {v : StackView} {l : List Outline} (f : Fin 16) (new : FeederState) (h : Leaves f v.entries l) :
    StackMove v { v with states := Function.update v.states f new, entries := l }
  /-- CLOSED feeders, each named once, are tripped and listed. -/
  | sheds {v : StackView} {l : List Outline} (fs : List (Fin 16)) (hn : fs.Nodup)
    (hc : ∀ f ∈ fs, v.states f = .closed) (h : Takes fs v.entries l) :
    StackMove v { v with states := fun f => if f ∈ fs then .opening else v.states f, entries := l }
  /-- An entry other than the header is discarded (R110). -/
  | discards {v : StackView} {below above : List Outline} {o : Outline} (hv : v.entries = below ++ o :: above)
    (ho : o.header = false) : StackMove v { v with entries := below ++ above }
  /-- Every entry but the header is discarded (R111). -/
  | empties {v : StackView} : StackMove v { v with entries := v.entries.filter fun o => o.header }

/-- One move of the stack or of the sequencer. `r` says whether BLK may have to take a reset notice. -/
inductive RunMove (r : Prop) : StackView → StackView → Prop
  | stack {v w : StackView} (h : StackMove v w) : RunMove r v w
  /-- The sequencer changes its state within, or outside, RUNNING and HELD. -/
  | turns {v : StackView} (new : BlkState) (h : new.active = v.blk.active) : RunMove r v { v with blk := new }
  /-- A run begins: the header replaces every entry (R99). -/
  | begins {v w : StackView} (h : Relation.ReflTransGen StackMove { v with entries := [⟨true, []⟩] } w) :
    RunMove r v { w with blk := .running }
  /-- A run ends: the header is removed (R99). -/
  | ends {v w : StackView} (new : BlkState) (hn : new.active = false)
    (h : Relation.ReflTransGen StackMove { v with entries := v.entries.filter fun o => !o.header } w) :
    RunMove r v { w with blk := new }
  /-- A notice has been taken. -/
  | taken {v : StackView} (b : Bool) (h : b = true → v.resetAwaited = true) : RunMove r v { v with resetAwaited := b }
  /-- BLK takes a reset notice (R175). -/
  | reset {v : StackView} (h : r) : RunMove r v { v with blk := .confirming }

/-! ### What leaves and what joins -/

section Lists

variable {f : Fin 16} {fs : List (Fin 16)} {l l' below above : List Outline} {o o' : Outline} {b : Bool}

theorem Leaves.sublist (h : Leaves f l l') : (listedFeeders l').Sublist (listedFeeders l) := by
  cases h with
  | emptied hf =>
    rw [listedFeeders_append, listedFeeders_append, listedFeeders_cons]
    exact (List.Sublist.refl _).append (List.sublist_append_right _ _)
  | kept hf =>
    rw [listedFeeders_append, listedFeeders_append, listedFeeders_cons, listedFeeders_cons]
    exact (List.Sublist.refl _).append (List.filter_sublist.append (List.Sublist.refl _))

/-- A feeder that is listed once and leaves is listed no more. -/
theorem Leaves.gone (h : Leaves f l l') (once : (listedFeeders l).Nodup) : f ∉ listedFeeders l' := by
  cases h with
  | emptied hf =>
    rw [listedFeeders_append, listedFeeders_cons] at once
    rw [listedFeeders_append]
    grind
  | kept hf =>
    rw [listedFeeders_append, listedFeeders_cons] at once
    rw [listedFeeders_append, listedFeeders_cons]
    grind

theorem Takes.perm (h : Takes fs l l') : (listedFeeders l').Perm (listedFeeders l ++ fs) := by
  cases h with
  | pushed h => simp [listedFeeders]
  | merged h => simp [listedFeeders]
  | appended h =>
    simp only [listedFeeders_append, listedFeeders_cons, List.append_assoc]
    exact ((List.perm_append_comm).append_left _).append_left _

theorem Shaped.header_of_mem (h : Shaped l b) (ho : o ∈ l) (hf : o.feeders ≠ []) : o.header = false := by
  by_contra hh
  exact hf (h.bare o ho (by simpa using hh))

/-- The shape is kept when an entry other than the header goes. -/
theorem Shaped.erase (h : Shaped (below ++ o :: above) b) (ho : o.header = false) : Shaped (below ++ above) b := by
  obtain ⟨size, bottom, bare, stands⟩ := h
  have sub : (below ++ above).Sublist (below ++ o :: above) := (List.Sublist.refl _).append (List.sublist_cons_self _ _)
  refine ⟨sub.length_le.trans size, fun d hd => bottom d (sub.tail.subset hd), fun d hd => bare d (sub.subset hd), ?_⟩
  simpa [ho] using stands

/-- The shape is kept when an entry other than the header is replaced by another. -/
theorem Shaped.replace (h : Shaped (below ++ o :: above) b) (ho : o.header = false) (ho' : o'.header = false) :
    Shaped (below ++ o' :: above) b := by
  obtain ⟨size, bottom, bare, stands⟩ := h
  refine ⟨by simpa using size, fun d hd => ?_, fun d hd hh => ?_, by simpa [ho, ho'] using stands⟩
  · cases below with
    | nil => exact bottom d hd
    | cons e below =>
      rcases List.mem_append.mp hd with hd | hd
      · exact bottom d (List.mem_append_left _ hd)
      · rcases List.mem_cons.mp hd with rfl | hd
        · exact ho'
        · exact bottom d (List.mem_append_right _ (List.mem_cons_of_mem _ hd))
  · rcases List.mem_append.mp hd with hd | hd
    · exact bare d (List.mem_append_left _ hd) hh
    · rcases List.mem_cons.mp hd with rfl | hd
      · rw [ho'] at hh
        exact absurd hh (by decide)
      · exact bare d (List.mem_append_right _ (List.mem_cons_of_mem _ hd)) hh

theorem Shaped.leaves (h : Shaped l b) (k : Leaves f l l') : Shaped l' b := by
  cases k with
  | emptied hf => exact h.erase (h.header_of_mem (by simp) (List.ne_nil_of_mem hf))
  | kept hf =>
    have ho := h.header_of_mem (by simp) (List.ne_nil_of_mem hf)
    exact h.replace ho ho

theorem Shaped.takes (h : Shaped l b) (k : Takes fs l l') : Shaped l' b := by
  cases k with
  | pushed hl =>
    obtain ⟨-, bottom, bare, stands⟩ := h
    refine ⟨by simpa using hl, fun d hd => ?_, fun d hd hh => ?_, by simpa using stands⟩
    · cases l with
      | nil => exact absurd hd List.not_mem_nil
      | cons e l =>
        rcases List.mem_append.mp hd with hd | hd
        · exact bottom d hd
        · exact List.mem_singleton.mp hd ▸ rfl
    · rcases List.mem_append.mp hd with hd | hd
      · exact bare d hd hh
      · rw [List.mem_singleton.mp hd] at hh
        exact absurd hh Bool.false_ne_true
  | @merged below o hl =>
    refine h.replace (h.bottom o ?_) rfl
    cases below with
    | nil => simp at hl
    | cons e below => exact List.mem_append_right _ (List.mem_singleton_self o)
  | appended hne =>
    have ho := h.header_of_mem (by simp) hne
    exact h.replace ho ho

/-- The header alone has the shape of a stack with a header. -/
theorem shaped_header : Shaped [⟨true, []⟩] true := ⟨by decide, by simp, by simp, rfl⟩

/-- Without the header the shape is that of a stack without one. -/
theorem Shaped.withoutHeader (h : Shaped l b) : Shaped (l.filter fun o => !o.header) false := by
  obtain ⟨size, bottom, bare, stands⟩ := h
  have sub : (l.filter fun o => !o.header).Sublist l := List.filter_sublist
  exact ⟨sub.length_le.trans size, fun d hd => bottom d (sub.tail.subset hd), fun d hd => bare d (sub.subset hd),
    by simp⟩

theorem Shaped.headerOnly (h : Shaped l b) : Shaped (l.filter fun o => o.header) b := by
  obtain ⟨size, bottom, bare, stands⟩ := h
  have sub : (l.filter fun o => o.header).Sublist l := List.filter_sublist
  refine ⟨sub.length_le.trans size, fun d hd => bottom d (sub.tail.subset hd), fun d hd => bare d (sub.subset hd), ?_⟩
  rw [← stands, List.any_filter]
  simp

end Lists

/-! ### The laws along the moves -/

section Moves

variable {v w : StackView} {r : Prop} {b : Bool}

theorem StackMove.blk (h : StackMove v w) : w.blk = v.blk := by cases h <;> rfl

theorem StackMove.resetAwaited (h : StackMove v w) : w.resetAwaited = v.resetAwaited := by cases h <;> rfl

theorem Listing.sublist {states : Fin 16 → FeederState} {l l' : List Outline} (h : Listing states l)
    (sub : (listedFeeders l').Sublist (listedFeeders l)) : Listing states l' :=
  ⟨h.once.sublist sub, fun f hf => h.stays f (sub.subset hf)⟩

theorem listedFeeders_sublist {l l' : List Outline} (h : l'.Sublist l) :
    (listedFeeders l').Sublist (listedFeeders l) :=
  h.flatMap _

/-- Every move of the stack keeps the law of listing (R97). -/
theorem StackMove.listing (h : StackMove v w) (k : Listing v.states v.entries) : Listing w.states w.entries := by
  cases h with
  | enters f new hnew =>
    refine ⟨k.once, fun g hg => ?_⟩
    by_cases e : g = f
    · subst e
      simpa using fun hu => hnew hu hg
    · simpa [e] using k.stays g hg
  | leaves f new hl =>
    have left := k.sublist hl.sublist
    refine ⟨left.once, fun g hg => ?_⟩
    have e : g ≠ f := fun e => hl.gone k.once (e ▸ hg)
    simpa [e] using left.stays g hg
  | sheds fs hn hc ht =>
    have new : ∀ f ∈ listedFeeders v.entries, f ∉ fs := fun f hf hfs => by
      have := k.stays f hf
      rw [hc f hfs] at this
      exact absurd this (by decide)
    refine ⟨ht.perm.nodup_iff.mpr (List.nodup_append'.mpr ⟨k.once, hn, new⟩), fun g hg => ?_⟩
    by_cases e : g ∈ fs
    · simp [e, FeederState.unlists]
    · have hg' : g ∈ listedFeeders v.entries := by
        rcases List.mem_append.mp (ht.perm.mem_iff.mp hg) with hg | hg
        · exact hg
        · exact absurd hg e
      simpa [e] using k.stays g hg'
  | discards hv ho =>
    refine k.sublist (listedFeeders_sublist ?_)
    rw [hv]
    exact (List.Sublist.refl _).append (List.sublist_cons_self _ _)
  | empties => exact k.sublist (listedFeeders_sublist List.filter_sublist)

/-- Every move of the stack keeps its size and the place of its header (R91). -/
theorem StackMove.shaped (h : StackMove v w) (k : Shaped v.entries b) : Shaped w.entries b := by
  cases h with
  | enters => exact k
  | leaves f new hl => exact k.leaves hl
  | sheds fs hn hc ht => exact k.takes ht
  | discards hv ho => exact (hv ▸ k).erase ho
  | empties => exact k.headerOnly

/-- What every move of the stack keeps, any number of them keep. -/
theorem StackMove.induction {P : StackView → Prop} (step : ∀ v w, StackMove v w → P v → P w)
    (h : Relation.ReflTransGen StackMove v w) (k : P v) : P w := by
  induction h with
  | refl => exact k
  | tail _ m ih => exact step _ _ m ih

theorem stackMoves_blk (h : Relation.ReflTransGen StackMove v w) : w.blk = v.blk :=
  StackMove.induction (P := fun u => u.blk = v.blk) (fun _ _ m k => m.blk.trans k) h rfl

theorem stackMoves_resetAwaited (h : Relation.ReflTransGen StackMove v w) : w.resetAwaited = v.resetAwaited :=
  StackMove.induction (P := fun u => u.resetAwaited = v.resetAwaited) (fun _ _ m k => m.resetAwaited.trans k) h rfl

theorem stackMoves_listing (h : Relation.ReflTransGen StackMove v w) (k : Listing v.states v.entries) :
    Listing w.states w.entries :=
  StackMove.induction (P := fun u => Listing u.states u.entries) (fun _ _ m => m.listing) h k

theorem stackMoves_shaped (h : Relation.ReflTransGen StackMove v w) (k : Shaped v.entries b) : Shaped w.entries b :=
  StackMove.induction (P := fun u => Shaped u.entries b) (fun _ _ m => m.shaped) h k

theorem listing_header (states : Fin 16 → FeederState) : Listing states [⟨true, []⟩] :=
  ⟨List.nodup_nil, fun _ hf => absurd hf List.not_mem_nil⟩

theorem RunMove.listing (h : RunMove r v w) (k : Listing v.states v.entries) : Listing w.states w.entries := by
  cases h with
  | stack h => exact h.listing k
  | turns => exact k
  | @begins w h =>
    have kept : Listing w.states w.entries := stackMoves_listing h (listing_header _)
    exact kept
  | @ends w new hn h =>
    have kept : Listing w.states w.entries :=
      stackMoves_listing h (k.sublist (listedFeeders_sublist List.filter_sublist))
    exact kept
  | taken => exact k
  | reset => exact k

/-- A header stands exactly while the sequencer is active: every move keeps it, as long as BLK takes no reset notice. -/
theorem RunMove.shaped (h : RunMove r v w) (hr : ¬ r) (k : Shaped v.entries v.blk.active) :
    Shaped w.entries w.blk.active := by
  cases h with
  | stack h => exact h.blk ▸ h.shaped k
  | turns new hn => exact hn ▸ k
  | @begins w h =>
    have kept : Shaped w.entries true := stackMoves_shaped h shaped_header
    exact kept
  | @ends w new hn h =>
    have kept : Shaped w.entries false := stackMoves_shaped h k.withoutHeader
    rw [← hn] at kept
    exact kept
  | taken => exact k
  | reset h => exact absurd h hr

/-- No move brings a reset notice. -/
theorem RunMove.resetAwaited (h : RunMove r v w) (k : w.resetAwaited = true) : v.resetAwaited = true := by
  cases h with
  | stack h => exact h.resetAwaited ▸ k
  | turns => exact k
  | begins h => exact (stackMoves_resetAwaited h).symm.trans k
  | ends new hn h => exact (stackMoves_resetAwaited h).symm.trans k
  | taken b hb => exact hb k
  | reset => exact k

theorem runMoves_listing (h : Relation.ReflTransGen (RunMove r) v w) (k : Listing v.states v.entries) :
    Listing w.states w.entries := by
  induction h with
  | refl => exact k
  | tail _ m ih => exact m.listing ih

theorem runMoves_shaped (h : Relation.ReflTransGen (RunMove r) v w) (hr : ¬ r)
    (k : Shaped v.entries v.blk.active) : Shaped w.entries w.blk.active := by
  induction h with
  | refl => exact k
  | tail _ m ih => exact m.shaped hr ih

theorem runMoves_resetAwaited (h : Relation.ReflTransGen (RunMove r) v w) (k : w.resetAwaited = true) :
    v.resetAwaited = true := by
  induction h with
  | refl => exact k
  | tail _ m ih => exact ih (m.resetAwaited k)

end Moves

end Sys2Proof.Machine

/-! ## The laws of the restore stack: operations that they do not see -/

namespace Sys2Proof.Machine

section Views

variable (s : State)

/-- The parts that no law of the stack speaks of: all but the feeders, the stack, the sequencer and the notices. -/
def offStack : List Part :=
  [.phase, .time, .settings, .fmon, .inputs, .meas, .shd, .gen, .cur, .lnk, .evr, .sto, .draws, .pending]

variable {s} in
/-- What reaches none of those four parts is not seen. -/
theorem stackView_of_frame {t : State} (k : SameBut offStack s t) : stackView t = stackView s := by
  simp only [stackView, k.feeders (by decide), k.rst (by decide), k.blk (by decide), k.notices (by decide)]

variable {s} in
/-- A frame that keeps off those four parts, the inclusion being decided. -/
theorem SameBut.stackView {t : State} {ps : List Part} (k : SameBut ps s t) (hp : ps.all (· ∈ offStack) = true) :
    stackView t = stackView s := stackView_of_frame (k.widen _ hp)

@[simp] theorem stackView_ite {c : Prop} [Decidable c] (a b : State) :
    stackView (if c then a else b) = if c then stackView a else stackView b := apply_ite _ _ _ _

theorem stackView_foldl {α : Type} {act : State → α → State} (h : ∀ s x, stackView (act s x) = stackView s)
    (l : List α) : stackView (l.foldl act s) = stackView s := by
  induction l generalizing s with
  | nil => rfl
  | cons x l ih => rw [List.foldl_cons, ih, h]

/-! ### Records, flags and notices -/

@[simp] theorem stackView_modSet (g : Fin 4) (m : SetCtl → SetCtl) : stackView (modSet g m s) = stackView s := rfl
@[simp] theorem stackView_modGen (m : Gen → Gen) : stackView (modGen m s) = stackView s := rfl
@[simp] theorem stackView_modShd (m : Shd → Shd) : stackView (modShd m s) = stackView s := rfl
@[simp] theorem stackView_modLnk (m : Lnk → Lnk) : stackView (modLnk m s) = stackView s := rfl
@[simp] theorem stackView_modFmon (m : FMon → FMon) : stackView (modFmon m s) = stackView s := rfl
@[simp] theorem stackView_modRun (m : RunRecord → RunRecord) : stackView (modRun m s) = stackView s := rfl
@[simp] theorem stackView_modInput (i : Fin 32) (m : InputCtl → InputCtl) : stackView (modInput i m s) = stackView s :=
  rfl
@[simp] theorem stackView_setProt (k : ProtFlag) : stackView (setProt k s) = stackView s := rfl
@[simp] theorem stackView_setAdv (k : AdvFlag) : stackView (setAdv k s) = stackView s := rfl
@[simp] theorem stackView_drawn : stackView (drawn s) = stackView s := rfl

@[simp] theorem stackView_modLink (l : Link) (m : LinkCtl → LinkCtl) : stackView (modLink l m s) = stackView s :=
  (modLink_frame l m s).stackView rfl

@[simp] theorem stackView_journal (k : JournalKind) (o : Nat) (v : Int) : stackView (journal k o v s) = stackView s :=
  (journal_frame k o v s).stackView rfl

variable {s} in
/-- An update of a feeder's record that leaves its state. -/
theorem stackView_modFeeder {f : Fin 16} {m : FeederCtl → FeederCtl}
    (h : (m s.feeders[f]).state = s.feeders[f].state) : stackView (modFeeder f m s) = stackView s := by
  have states : ∀ k : Fin 16, (modFeeder f m s).feeders[k].state = s.feeders[k].state := fun k => by
    by_cases e : k = f
    · subst e
      rw [modFeeder_self, h]
    · rw [modFeeder_other _ _ e]
  simp only [stackView, states, modFeeder_rst, modFeeder_blk, modFeeder_notices]

variable {s} in
/-- A notice that is no reset notice to BLK is not seen. -/
@[simp] theorem stackView_emit {d : List Consumer} {mk : Consumer → Notice} (h : ∀ c, (mk c).isBlkReset = false) :
    stackView (emit d mk s) = stackView s := by
  simp [stackView, h, Function.comp_def]

variable {s} in
@[simp] theorem stackView_emitFirst {n : Notice} (h : n.isBlkReset = false) :
    stackView (emitFirst n s) = stackView s := by
  simp [stackView, h]

variable {s} in
@[simp] theorem stackView_emitAmong {n : Notice} (h : n.isBlkReset = false) :
    stackView (emitAmong n s) = stackView s := by
  have e : (emitAmong n s).notices.any Notice.isBlkReset = s.notices.any Notice.isBlkReset := by
    rw [emitAmong_notices, (insertAt_perm n _ _).any_eq, List.any_cons, h, Bool.false_or]
  simp only [stackView, e, emitAmong_feeders, emitAmong_rst, emitAmong_blk]

@[simp] theorem feederNotice_isBlkReset (c : Consumer) (f : Fin 16) (a b : FeederState) (x : FeederCause)
    (o : Option OpOrigin) (t : Bool) : (Notice.feeder c f a b x o t).isBlkReset = false := (rfl)
@[simp] theorem setNotice_isBlkReset (c : Consumer) (g : Fin 4) (a b : SetState) (x : SetCause) (o : SetOrigin) :
    (Notice.set c g a b x o).isBlkReset = false := (rfl)
@[simp] theorem stackNotice_isBlkReset (c : Consumer) : (Notice.stack c).isBlkReset = false := (rfl)
@[simp] theorem updateNotice_isBlkReset (c : Consumer) (n : PointNames) : (Notice.update c n).isBlkReset = false := (rfl)
@[simp] theorem staleNotice_isBlkReset (c : Consumer) (n : PointNames) : (Notice.stale c n).isBlkReset = false := (rfl)
@[simp] theorem modeNotice_isBlkReset (c : Consumer) (m : Mode) : (Notice.mode c m).isBlkReset = false := (rfl)
@[simp] theorem stepNotice_isBlkReset : Notice.step.isBlkReset = false := (rfl)

theorem busNotice_isBlkReset (c : Consumer) (n : BusNotice) (h : n.reset = false) :
    (Notice.bus c n).isBlkReset = false := by
  cases c <;> simp [Notice.isBlkReset, h]

@[simp] theorem stackView_queueStep : stackView (queueStep s) = stackView s := by simp [queueStep, stackView]
@[simp] theorem stackView_emitStack : stackView (emitStack s) = stackView s := by simp [emitStack]
@[simp] theorem stackView_emitDiscard : stackView (emitDiscard s) = stackView s := by simp [emitDiscard]

/-! ### The generating sets (chapter 7) -/

@[simp] theorem stackView_driveSet (b : Bool) (g : Fin 4) : stackView (driveSet b g s) = stackView s :=
  (driveSet_frame b g s).stackView rfl
@[simp] theorem stackView_genRecord (k : JournalKind) (g : Fin 4) (v : Int) :
    stackView (genRecord k g v s) = stackView s := (genRecord_frame k g v s).stackView rfl
@[simp] theorem stackView_leaveCrank (g : Fin 4) : stackView (leaveCrank g s) = stackView s := rfl
@[simp] theorem stackView_evalDispatch : stackView (evalDispatch s) = stackView s := rfl

@[simp] theorem stackView_enterSet (b : Bool) (e : SetCause) (g : Fin 4) (new : SetState) (m : Timer) :
    stackView (enterSet b e g new m s) = stackView s := by simp [enterSet]

@[simp] theorem stackView_servePermit : stackView (servePermit s) = stackView s := by
  unfold servePermit
  split <;> simp

@[simp] theorem stackView_enterSyncing (e : SetCause) (g : Fin 4) : stackView (enterSyncing e g s) = stackView s := by
  simp [enterSyncing]
@[simp] theorem stackView_enterRunUp (e : SetCause) (g : Fin 4) : stackView (enterRunUp e g s) = stackView s := by
  simp [enterRunUp]
@[simp] theorem stackView_enterOnline (e : SetCause) (g : Fin 4) : stackView (enterOnline e g s) = stackView s := by
  simp [enterOnline]
@[simp] theorem stackView_lockOut (g : Fin 4) (c : Nat) : stackView (lockOut g c s) = stackView s := by simp [lockOut]
@[simp] theorem stackView_abortStart (b : Bool) (e : SetCause) (g : Fin 4) (rest : SetState) (v : Int) :
    stackView (abortStart b e g rest v s) = stackView s := by simp [abortStart]
@[simp] theorem stackView_endCooldown (e : SetCause) (g : Fin 4) (v : Int) :
    stackView (endCooldown e g v s) = stackView s := by simp [endCooldown]
@[simp] theorem stackView_enterCooldown (g : Fin 4) : stackView (enterCooldown g s) = stackView s := by
  simp [enterCooldown]
@[simp] theorem stackView_closedExternally (g : Fin 4) : stackView (closedExternally g s) = stackView s := by
  simp [closedExternally]
@[simp] theorem stackView_resetLockout (g : Fin 4) : stackView (resetLockout g s) = stackView s := by
  simp [resetLockout]

@[simp] theorem stackView_startSet (g : Fin 4) (o : SetOrigin) : stackView (startSet g o s).1 = stackView s := by
  unfold startSet
  split
  · dsimp only
    split <;> simp
  · rfl

@[simp] theorem stackView_stopSet (b : Bool) (g : Fin 4) (o : SetOrigin) : stackView (stopSet b g o s) = stackView s := by
  simp [stopSet]

@[simp] theorem stackView_readyChange (g : Fin 4) (b : Bool) : stackView (readyChange g b s) = stackView s := by
  unfold readyChange
  split <;> simp
@[simp] theorem stackView_runningChange (g : Fin 4) (b : Bool) : stackView (runningChange g b s) = stackView s := by
  unfold runningChange
  split <;> simp
@[simp] theorem stackView_breakerChange (g : Fin 4) (b : Bool) : stackView (breakerChange g b s) = stackView s := by
  unfold breakerChange
  split <;> simp
@[simp] theorem stackView_crankOnTimeExpires (g : Fin 4) : stackView (crankOnTimeExpires g s) = stackView s := by
  simp [crankOnTimeExpires]
@[simp] theorem stackView_crankRestExpires (g : Fin 4) : stackView (crankRestExpires g s) = stackView s := by
  simp [crankRestExpires]
@[simp] theorem stackView_setServiceChange (g : Fin 4) : stackView (setServiceChange g s) = stackView s := by
  unfold setServiceChange
  split <;> simp

@[simp] theorem stackView_serveDemand (n : Nat) : stackView (serveDemand n s) = stackView s := by
  unfold serveDemand
  repeat' split
  all_goals simp

@[simp] theorem stackView_lowReserveExpires : stackView (lowReserveExpires s) = stackView s := by
  simp [lowReserveExpires]

@[simp] theorem stackView_stopTimerExpires : stackView (stopTimerExpires s) = stackView s := by
  unfold stopTimerExpires
  dsimp only
  repeat' split
  all_goals simp

@[simp] theorem stackView_genOnBus (n : BusNotice) : stackView (genOnBus n s) = stackView s := by simp [genOnBus]
@[simp] theorem stackView_genOnSequencer : stackView (genOnSequencer s) = stackView s := by simp [genOnSequencer]

@[simp] theorem stackView_genOnMode (m : Mode) : stackView (genOnMode m s) = stackView s := by
  unfold genOnMode
  cases m with
  | auto => rfl
  | monitor =>
    rw [stackView_evalDispatch]
    exact stackView_foldl s (fun s g => by simp) _

/-! ### The channels (chapter 8) -/

@[simp] theorem stackView_clearReleases : stackView (clearReleases s) = stackView s :=
  (clearReleases_frame s).stackView rfl
@[simp] theorem stackView_setRelease (j : Fin 6) (p : Nat) : stackView (setRelease j p s) = stackView s :=
  (setRelease_frame j p s).stackView rfl
@[simp] theorem stackView_curOnSequencer (a b : BlkState) : stackView (curOnSequencer a b s) = stackView s :=
  (curOnSequencer_frame a b s).stackView rfl
@[simp] theorem stackView_recomputeShares : stackView (recomputeShares s) = stackView s :=
  (recomputeShares_frame s).stackView rfl

/-! ### The monitor, the measurements and LNK (chapters 1, 3 and 10) -/

/-- A bus notice that is no reset notice is not seen. -/
theorem stackView_emitBus {n : BusNotice} (h : n.reset = false) : stackView (emitBus n s) = stackView s :=
  stackView_emit fun c => busNotice_isBlkReset c n h

@[simp] theorem stackView_breakRun (p : Nat) : stackView (breakRun p s) = stackView s := by
  unfold breakRun
  dsimp only
  split <;> simp [stackView_emitBus]

@[simp] theorem stackView_enterDead : stackView (enterDead s) = stackView s := by
  simp [enterDead, stackView_emitBus]

@[simp] theorem stackView_nominalChanged : stackView (nominalChanged s) = stackView s := by simp [nominalChanged]

@[simp] theorem stackView_formValue (l : List Nat) : stackView (formValue l s) = stackView s := by
  simp [formValue, stackView_emitBus]

theorem stackView_crossingArrives : stackView (crossingArrives s) = stackView s := by
  unfold crossingArrives acceptValid
  dsimp only
  repeat' split
  all_goals simp [stackView_emitBus]

theorem stackView_deadBusExpires : stackView (deadBusExpires s) = stackView s := by simp [deadBusExpires]

@[simp] theorem stackView_emitUpdate (n : PointNames) : stackView (emitUpdate n s) = stackView s := by
  simp [emitUpdate]

@[simp] theorem stackView_pointsGoStale : stackView (pointsGoStale s) = stackView s := by
  unfold pointsGoStale
  dsimp only
  split
  · rfl
  · rw [stackView_emit (by simp)]
    rfl

theorem stackView_staleTick : stackView (staleTick s) = stackView s := by
  unfold staleTick
  split
  · rfl
  · rw [stackView_pointsGoStale]
    rfl

theorem stackView_applyMeasure (l : List (PointRef × Int)) : stackView (applyMeasure l s) = stackView s := by
  rw [applyMeasure, stackView_emitUpdate]
  exact stackView_foldl s (fun s x => by unfold writePoint; cases x.1 <;> rfl) l

@[simp] theorem stackView_reclampSet (g : Fin 4) : stackView (reclampSet g s) = stackView s := by
  unfold reclampSet
  dsimp only
  repeat' split
  · rfl
  · rw [stackView_emitUpdate]
    rfl
  · rfl

theorem stackView_reclampChannel (j : Fin 6) : stackView (reclampChannel j s) = stackView s := by
  unfold reclampChannel
  dsimp only
  repeat' split
  · rfl
  · rw [stackView_emitUpdate]
    rfl
  · rfl

@[simp] theorem stackView_superviseFrame (l : Link) : stackView (superviseFrame l s) = stackView s :=
  (superviseFrame_frame l s).stackView rfl

end Views

end Sys2Proof.Machine

/-! ## The laws of the restore stack: feeders, restorer and shedding as moves of the stack -/

namespace Sys2Proof.Machine

/-- Between `s` and `t` the laws of the stack see moves of the stack, with the sequencer standing as it does. -/
def Stacks (s t : State) : Prop := Relation.ReflTransGen StackMove (stackView s) (stackView t)

section Moves

variable {s t u : State}

theorem Stacks.refl (s : State) : Stacks s s := Relation.ReflTransGen.refl

theorem Stacks.trans (h : Stacks s t) (k : Stacks t u) : Stacks s u := Relation.ReflTransGen.trans h k

/-- What the laws do not see adds nothing. -/
theorem Stacks.after (h : Stacks s t) (k : stackView u = stackView t) : Stacks s u := by
  unfold Stacks
  rw [k]
  exact h

theorem Stacks.of_eq (k : stackView t = stackView s) : Stacks s t := (Stacks.refl s).after k

theorem Stacks.move (h : Stacks s t) (k : StackMove (stackView t) (stackView u)) : Stacks s u := h.tail k

theorem Stacks.ite {c : Prop} [Decidable c] (ht : Stacks s t) (hu : Stacks s u) : Stacks s (if c then t else u) := by
  split
  · exact ht
  · exact hu

theorem Stacks.foldl {α : Type} {act : State → α → State} (k : ∀ {t} x, Stacks s t → Stacks s (act t x)) :
    ∀ (l : List α) {t : State}, Stacks s t → Stacks s (l.foldl act t)
  | [], _, h => h
  | x :: l, _, h => Stacks.foldl k l (k x h)

theorem Stacks.blk (h : Stacks s t) : t.blk.state = s.blk.state := stackMoves_blk h

end Moves

/-! ### The entries of the stack -/

section Entries

variable {s t : State}

/-- An update of the stack that keeps the outline of every entry is not seen. -/
theorem stackView_modRst {m : Rst → Rst}
    (h : (m s.rst).entries.map Entry.outline = s.rst.entries.map Entry.outline) :
    stackView (modRst m s) = stackView s := by
  simp only [stackView, modRst_feeders, modRst_rst, modRst_blk, modRst_notices, h]

theorem modify_map_outline {h : Entry → Entry} (k : ∀ e, (h e).outline = e.outline) (i : Nat) (l : List Entry) :
    (l.modify i h).map Entry.outline = l.map Entry.outline := by
  refine List.ext_getElem? fun j => ?_
  simp only [List.getElem?_map, List.getElem?_modify]
  split <;> cases l[j]? <;> simp [k]

/-- An update of an entry that keeps its outline is not seen. -/
theorem stackView_modEntry (i : Nat) {h : Entry → Entry} (k : ∀ e, (h e).outline = e.outline) :
    stackView (modEntry i h s) = stackView s :=
  stackView_modRst (modify_map_outline k i _)

@[simp] theorem stackView_restartDelay : stackView (restartDelay s) = stackView s := rfl
@[simp] theorem stackView_testDelay : stackView (testDelay s) = stackView s := rfl
@[simp] theorem stackView_tagGiven : stackView (tagGiven s) = stackView s := rfl

@[simp] theorem stackView_endEpisode : stackView (endEpisode s) = stackView s :=
  stackView_modRst (by rw [List.map_map]; rfl)

@[simp] theorem stackView_keepEpisode : stackView (keepEpisode s) = stackView s := by
  unfold keepEpisode
  repeat' split
  all_goals simp

@[simp] theorem stackView_beginEpisode (i : Nat) (f : Fin 16) : stackView (beginEpisode i f s) = stackView s := by
  unfold beginEpisode
  split
  · rfl
  · dsimp only
    have marked (t : State) : stackView (modEntry i (fun e => { e with blocked := true }) t) = stackView t :=
      stackView_modEntry i fun _ => rfl
    rw [stackView_modRst rfl, marked, stackView_journal, stackView_setAdv]

@[simp] theorem stackView_writeHeader (h : HeaderRun) : stackView (writeHeader h s) = stackView s := by
  refine stackView_modRst ?_
  rw [List.map_map]
  refine List.map_congr_left fun e _ => ?_
  simp only [Function.comp_apply]
  split <;> rfl

/-- A feeder that leaves the stack, as the laws see it. -/
theorem LeftTheStack.leaves {f : Fin 16} (h : LeftTheStack f s t) :
    Leaves f (s.rst.entries.map Entry.outline) (t.rst.entries.map Entry.outline) := by
  obtain ⟨below, above, e, hentries, -, hlists, -, hlast, hmore⟩ := h
  have hf := (lists_iff e f).mp hlists
  rw [hentries, List.map_append, List.map_cons]
  by_cases hx : ∀ x ∈ e.items, x.feeder = f
  · obtain ⟨hgone, -⟩ := hlast hx
    rw [hgone, List.map_append]
    exact .emptied hf
  · obtain ⟨hkept, -⟩ := hmore (by simpa using hx)
    have outline : ({ e with items := e.items.filter fun x => decide (x.feeder ≠ f) } : Entry).outline
        = ⟨e.outline.header, e.outline.feeders.filter fun k => k ≠ f⟩ := by
      simp [Entry.outline, Entry.isHeader, List.filter_map, Function.comp_def]
    rw [hkept, List.map_append, List.map_cons, outline]
    exact .kept hf

theorem unlist_resetAwaited (f : Fin 16) (s : State) :
    (unlist f s).notices.any Notice.isBlkReset = s.notices.any Notice.isBlkReset := by
  have quiet (t : State) (m : Rst → Rst) :
      (emitStack (modRst m t)).notices.any Notice.isBlkReset = t.notices.any Notice.isBlkReset :=
    congrArg StackView.resetAwaited (stackView_emitStack (modRst m t))
  unfold unlist removeEntry
  repeat' split
  · rfl
  · rfl
  · dsimp only
    split
    · rw [quiet, journal_notices]
      rfl
    · rfl

/-- What is left of the part when a listed feeder is taken out of the stack. -/
theorem stackView_unlist (f : Fin 16) (s : State) :
    stackView (unlist f s) = { stackView s with entries := (unlist f s).rst.entries.map Entry.outline } := by
  have fr := unlist_frame f s
  simp only [stackView, fr.feeders (by decide), fr.blk (by decide), unlist_resetAwaited]

theorem stackView_enters (f : Fin 16) (new : FeederState) (s : State) :
    stackView (modFeeder f (fun c => { c with state := new }) s) =
      { stackView s with states := Function.update (stackView s).states f new } := by
  have states : (fun k : Fin 16 => (modFeeder f (fun c => { c with state := new }) s).feeders[k].state)
      = Function.update (fun k : Fin 16 => s.feeders[k].state) f new := by
    funext k
    by_cases e : k = f
    · subst e
      rw [modFeeder_self, Function.update_self]
    · rw [modFeeder_other _ _ e, Function.update_of_ne e]
  simp only [stackView, states, modFeeder_rst, modFeeder_blk, modFeeder_notices]

/-- A listed feeder is taken out of the stack; its state stands (R104). -/
theorem unlist_stacks {s₀ : State} (h : Stacks s₀ s) (f : Fin 16) : Stacks s₀ (unlist f s) := by
  by_cases hl : listed s f = true
  · have m : StackMove (stackView s) (stackView (unlist f s)) := by
      rw [stackView_unlist]
      have k := StackMove.leaves (v := stackView s) f ((stackView s).states f) (unlist_left hl).leaves
      rwa [Function.update_eq_self] at k
    exact h.move m
  · have e : unlist f s = s := by
      have none : s.rst.entries.findIdx? (fun e => e.lists f) = none := by
        rw [List.findIdx?_eq_none_iff]
        simpa [listed] using hl
      simp only [unlist, none]
    rwa [e]

/-- A listed feeder that enters a state of R97 leaves the stack. -/
theorem leaves_of_unlist {f : Fin 16} {new : FeederState} {z : State} (hl : listed s f = true)
    (hz : stackView z = { stackView s with states := Function.update (stackView s).states f new })
    (hr : z.rst = s.rst) : StackMove (stackView s) (stackView (unlist f z)) := by
  rw [stackView_unlist, hz]
  have k := (unlist_left (f := f) (s := z) ((listed_congr hr).trans hl)).leaves
  rw [hr] at k
  exact .leaves f new k

end Entries

/-! ### Feeders (chapter 4) -/

section Feeders

variable {s₀ s : State}

/-- A feeder enters a state and, in a state of R97, leaves the stack. -/
theorem changeFeeder_stacks (h : Stacks s₀ s) (f : Fin 16) (new : FeederState) (c : FeederCause) :
    Stacks s₀ (changeFeeder f new c s) := by
  have entered := stackView_enters f new s
  unfold changeFeeder leaveStack
  generalize hz : modFeeder f (fun c => { c with state := new }) s = z at entered
  have hr : z.rst = s.rst := hz ▸ rfl
  dsimp only
  split
  next same =>
    refine h.after (entered.trans ?_)
    have e : new = (stackView s).states f := same.symm
    rw [e, Function.update_eq_self]
  next =>
    refine Stacks.after ?_ (stackView_emit fun _ => rfl)
    split
    next leaves =>
      obtain ⟨-, hl⟩ := Bool.and_eq_true_iff.mp leaves
      rw [listed_congr hr] at hl
      refine h.move (leaves_of_unlist (new := new) hl ?_ ?_)
      · rw [stackView_ite, stackView_journal, ite_self, entered]
      · split
        · rw [journal_rst, hr]
        · exact hr
    next stays =>
      refine h.move (entered ▸ .enters f new fun hu hf => stays ?_)
      rw [hu, listed_congr hr, (listed_iff s f).mpr hf]
      rfl

theorem stackView_lineCommand (f : Fin 16) (closed : Bool) (s : State) :
    stackView (lineCommand f closed s) = stackView s := by
  unfold lineCommand
  split <;> exact stackView_modFeeder rfl

theorem stackView_lineAlign (f : Fin 16) (closed : Bool) (s : State) :
    stackView (lineAlign f closed s) = stackView s := by
  unfold lineAlign
  split
  · rfl
  · exact stackView_lineCommand f closed s

theorem stackView_lineRestyle (f : Fin 16) (s : State) : stackView (lineRestyle f s) = stackView s := by
  unfold lineRestyle
  split <;> exact stackView_modFeeder rfl

theorem beginOperation_stacks (h : Stacks s₀ s) (f : Fin 16) (closing : Bool) (o : OpOrigin) :
    Stacks s₀ (beginOperation f closing o s) :=
  changeFeeder_stacks (h.after ((stackView_lineCommand _ _ _).trans (stackView_modFeeder rfl))) f _ _

theorem acceptPosition_stacks (h : Stacks s₀ s) (f : Fin 16) (closed : Bool) :
    Stacks s₀ (acceptPosition f closed s) :=
  changeFeeder_stacks (h.after (stackView_lineAlign f closed s)) f _ _

theorem operate_stacks (h : Stacks s₀ s) (f : Fin 16) (closing : Bool) (o : OpOrigin) :
    Stacks s₀ (operate f closing o s).1 := by
  have begun : ∀ b, Stacks s₀ (beginOperation f b o s) := fun b => beginOperation_stacks h f b o
  have accepted : ∀ b, Stacks s₀ (acceptPosition f b s) := fun b => acceptPosition_stacks h f b
  unfold operate
  cases s.feeders[f].state with
  | failed dir => cases dir <;> cases closing <;> simp [begun, accepted]
  | _ => cases closing <;> simp [h, begun]

/-- The state that a request for an operation is seen to leave. -/
theorem stacks_of_operate {t : State} {f : Fin 16} {closing : Bool} {o : OpOrigin} {r : OpOutcome} (h : Stacks s₀ s)
    (e : operate f closing o s = (t, r)) : Stacks s₀ t := by
  have k := operate_stacks h f closing o
  rwa [e] at k

theorem operateTimerExpires_stacks (h : Stacks s₀ s) (f : Fin 16) : Stacks s₀ (operateTimerExpires f s) := by
  have idle : stackView (modFeeder f (fun c => { c with timer := .idle }) s) = stackView s := stackView_modFeeder rfl
  unfold operateTimerExpires
  dsimp only
  split
  · exact changeFeeder_stacks (h.after (by simp [idle])) f _ _
  · exact changeFeeder_stacks (h.after (by simp [idle])) f _ _
  · exact h

theorem feederStatusChange_stacks (h : Stacks s₀ s) (f : Fin 16) (level : Bool) :
    Stacks s₀ (feederStatusChange f level s) := by
  have operated : Stacks s₀ (modFeeder f (fun c => { c with operated := true }) s) := h.after (stackView_modFeeder rfl)
  unfold feederStatusChange
  dsimp only
  generalize modFeeder f (fun c => { c with operated := true }) s = t at operated ⊢
  have idle : Stacks s₀ (modFeeder f (fun c => { c with timer := .idle }) t) := operated.after (stackView_modFeeder rfl)
  have align {k : JournalKind} {v : Int} (c : FeederCause) :
      Stacks s₀ (changeFeeder f (stateOfStatus level) c (lineAlign f level (journal k f v t))) :=
    changeFeeder_stacks (operated.after ((stackView_lineAlign _ _ _).trans (stackView_journal _ _ _ _))) f _ _
  split
  · exact changeFeeder_stacks idle f _ _
  · exact changeFeeder_stacks idle f _ _
  · exact .ite operated (align _)
  · exact .ite operated (align _)
  · exact align _
  · exact operated

theorem feederServiceChange_stacks (h : Stacks s₀ s) (f : Fin 16) : Stacks s₀ (feederServiceChange f s) := by
  unfold feederServiceChange
  dsimp only
  split
  · exact changeFeeder_stacks (h.after (stackView_lineAlign _ _ _)) f _ _
  · exact changeFeeder_stacks (h.after (stackView_modFeeder rfl)) f _ _

end Feeders

/-! ### The restorer (chapter 6) -/

section Restorer

variable {s₀ s : State}

theorem restoreClose_stacks (h : Stacks s₀ s) (i : Nat) (x : StackItem) : Stacks s₀ (restoreClose i x s) := by
  unfold restoreClose
  split
  next e =>
    have noted := (stackView_journal _ .feederRestored x.feeder x.snapshot).trans
      (stackView_modEntry (s := s) i (h := fun e => { e with restoring := true }) fun _ => rfl)
    exact (stacks_of_operate (h.after noted) e).after (stackView_endEpisode.trans (stackView_modRst rfl))
  next => exact h

theorem examine_stacks : ∀ (n : Nat) {s : State}, Stacks s₀ s → Stacks s₀ (examine n s)
  | 0, s, h => h.after stackView_keepEpisode
  | n + 1, s, h => by
    have k : Stacks s₀ (keepEpisode s) := h.after stackView_keepEpisode
    unfold examine
    dsimp only
    repeat' split
    · exact k
    · exact k
    · exact k.after (stackView_beginEpisode _ _)
    · exact examine_stacks n (unlist_stacks (k.after (stackView_journal _ _ _ _)) _)
    · exact restoreClose_stacks k _ _
    · exact k

theorem restorerTurn_stacks (h : Stacks s₀ s) : Stacks s₀ (restorerTurn s) := examine_stacks _ h

theorem restoreDelayExpires_stacks (h : Stacks s₀ s) : Stacks s₀ (restoreDelayExpires s) :=
  .ite (restorerTurn_stacks (h.after (stackView_modRst rfl))) h

theorem intervalExpires_stacks (h : Stacks s₀ s) : Stacks s₀ (intervalExpires s) :=
  .ite (restorerTurn_stacks (h.after (stackView_modRst rfl))) h

theorem stackView_startDelayExpires (s : State) : stackView (startDelayExpires s) = stackView s := by
  unfold startDelayExpires
  repeat' split
  · dsimp only
    rw [stackView_modRst rfl]
    simp
  · rfl
  · rfl

/-- At the entry into DEAD every entry but the header goes (R111). -/
theorem discardAtDead_stacks (h : Stacks s₀ s) : Stacks s₀ (discardAtDead s) := by
  unfold discardAtDead
  dsimp only
  refine Stacks.after ?_ (stackView_modRst rfl)
  refine .ite h (h.move ?_)
  rw [stackView_emitDiscard]
  have e : stackView (modRst (fun r => { r with entries := r.entries.filter Entry.isHeader })
        (journal .stackDiscarded 0 (entriesAboveHeader s) s))
      = { stackView s with entries := (stackView s).entries.filter fun o => o.header } := by
    simp only [stackView, modRst_feeders, modRst_rst, modRst_blk, modRst_notices, journal_feeders, journal_rst,
      journal_blk, journal_notices, List.filter_map]
    rfl
  rw [e]
  exact .empties

theorem rstOnBus_stacks (h : Stacks s₀ s) (n : BusNotice) : Stacks s₀ (rstOnBus n s) := by
  have k : Stacks s₀ (testDelay s) := h.after stackView_testDelay
  exact .ite h (.ite (discardAtDead_stacks h) (.ite (restorerTurn_stacks k) k))

theorem rstOnFeeder_stacks (h : Stacks s₀ s) (f : Fin 16) (turn : Bool) : Stacks s₀ (rstOnFeeder f turn s) :=
  .ite (restorerTurn_stacks h) h

theorem rstOnMode_stacks (h : Stacks s₀ s) : Stacks s₀ (rstOnMode s) :=
  restorerTurn_stacks (h.after stackView_testDelay)

end Restorer

/-! ### Shedding (chapter 5) -/

section Shedding

variable {s₀ s : State} {fs : List (Fin 16)}

theorem tripFeeders_stacks (o : OpOrigin) : ∀ (fs : List (Fin 16)) {s : State}, Stacks s₀ s →
    Stacks s₀ (tripFeeders o fs s).1
  | [], _, h => h
  | f :: fs, s, h => by
    unfold tripFeeders
    dsimp only
    split
    all_goals
      rename_i e
      exact tripFeeders_stacks o fs (stacks_of_operate h e)

theorem tripItems_feeders (s : State) (fs : List (Fin 16)) : (tripItems s fs).map (fun x => x.feeder) = fs := by
  simp [tripItems, Function.comp_def]

/-- CLOSED feeders that have been tripped stand OPENING; nothing else is seen (R55). -/
theorem stackView_tripFeeders (o : OpOrigin) (hn : fs.Nodup) (hc : ∀ f ∈ fs, s.feeders[f].state = .closed) :
    stackView (tripFeeders o fs s).1 =
      { stackView s with states := fun f => if f ∈ fs then .opening else (stackView s).states f } := by
  obtain ⟨tripped, -⟩ := tripFeeders_closed (o := o) hn hc
  have hr : (stackView (tripFeeders o fs s).1).resetAwaited = (stackView s).resetAwaited :=
    stackMoves_resetAwaited (tripFeeders_stacks o fs (.refl s))
  have states : (stackView (tripFeeders o fs s).1).states
      = fun f => if f ∈ fs then .opening else (stackView s).states f := by
    funext f
    by_cases e : f ∈ fs
    · rw [if_pos e]
      exact tripped.opening e
    · obtain ⟨-, others, -⟩ := tripped
      rw [if_neg e]
      exact congrArg FeederCtl.state (others f e)
  obtain ⟨-, -, fr⟩ := tripped
  have entries : (stackView (tripFeeders o fs s).1).entries = (stackView s).entries := by
    simp only [stackView, fr.rst (by decide)]
  have blk : (stackView (tripFeeders o fs s).1).blk = (stackView s).blk := by simp only [stackView, fr.blk (by decide)]
  exact StackView.ext states entries blk hr

/-- Tripped feeders that some update of the stack lists. -/
theorem stacks_of_takes {t u : State} {o : OpOrigin} (h : Stacks s₀ s) (hn : fs.Nodup)
    (hc : ∀ f ∈ fs, s.feeders[f].state = .closed) (ht : t = (tripFeeders o fs s).1)
    (hu : stackView u = { stackView t with entries := (stackView u).entries })
    (k : Takes fs (stackView t).entries (stackView u).entries) : Stacks s₀ u := by
  rw [ht, stackView_tripFeeders o hn hc] at hu k
  refine h.move ?_
  rw [hu]
  exact .sheds fs hn hc k

/-- The entry of a push: a new one at the top, or the top of a full stack that takes the feeders (R94, R95). -/
def entryPushed (kind : EntryKind) (v : Int) (f : Nat) (items : List StackItem) (s : State) : State :=
  if s.rst.entries.length < Config.stackMax then pushEntry kind v f items s else mergeTop kind v f items s

theorem push_eq (kind : EntryKind) (v : Int) (f : Nat) (items : List StackItem) (s : State) :
    push kind v f items s = restorerTurn (emitStack (restartDelay (entryPushed kind v f items s))) := rfl

theorem modify_length_sub_one {α : Type} (below : List α) (top : α) (h : α → α) :
    (below ++ [top]).modify ((below ++ [top]).length - 1) h = below ++ [h top] := by
  rw [List.modify_eq_take_cons_drop (by simp)]
  simp

theorem mergeTop_entries {below : List Entry} {top : Entry} (hs : s.rst.entries = below ++ [top]) (kind : EntryKind)
    (v : Int) (f : Nat) (items : List StackItem) :
    (mergeTop kind v f items s).rst.entries =
      below ++ [{ top with
        tag := s.rst.nextTag, kind := kind, trigger := v, freq := f, pushTime := s.time.part
        items := top.items ++ items, merged := true, requested := false }] := by
  unfold mergeTop
  dsimp only
  rw [journal_rst, setProt_rst]
  simp only [tagGiven, modEntry, modRst]
  rw [hs, modify_length_sub_one]

/-- A push of feeders, on what the laws see (R94, R95). -/
theorem entryPushed_takes {kind : EntryKind} (hk : kind ≠ .header) (v : Int) (f : Nat) {items : List StackItem}
    (hi : items.map (fun x => x.feeder) = fs) :
    Takes fs (stackView s).entries (stackView (entryPushed kind v f items s)).entries := by
  have hh : decide (kind = .header) = false := decide_eq_false hk
  unfold entryPushed
  split
  next room =>
    have e : (stackView (pushEntry kind v f items s)).entries = (stackView s).entries ++ [⟨false, fs⟩] := by
      simp [stackView, pushEntry, tagGiven, Entry.outline, Entry.isHeader, hi, hk]
    rw [e]
    exact .pushed (by simpa [stackView, Config.stackMax] using room)
  next full =>
    rcases List.eq_nil_or_concat s.rst.entries with hs | ⟨below, top, hs⟩
    · rw [hs] at full
      exact absurd (by decide) full
    · rw [List.concat_eq_append] at hs
      have e : (stackView (mergeTop kind v f items s)).entries
          = below.map Entry.outline ++ [⟨false, top.outline.feeders ++ fs⟩] := by
        simp [stackView, mergeTop_entries hs, Entry.outline, Entry.isHeader, hi, hk]
      have e' : (stackView s).entries = below.map Entry.outline ++ [top.outline] := by simp [stackView, hs]
      rw [e, e']
      refine .merged ?_
      rw [← e']
      simpa [stackView, Config.stackMax] using full

theorem stackView_entryPushed (kind : EntryKind) (v : Int) (f : Nat) (items : List StackItem) (s : State) :
    stackView (entryPushed kind v f items s) =
      { stackView s with entries := (stackView (entryPushed kind v f items s)).entries } := by
  have fr : SameBut [.rst, .evr] s (entryPushed kind v f items s) := by simp [entryPushed]
  simp only [stackView, fr.feeders (by decide), fr.blk (by decide), fr.notices (by decide)]

/-- CLOSED feeders, each named once, are tripped and pushed (R73, R80, R87, R94, R95). -/
theorem push_stacks (h : Stacks s₀ s) {o : OpOrigin} (hn : fs.Nodup) (hc : ∀ f ∈ fs, s.feeders[f].state = .closed)
    {kind : EntryKind} (hk : kind ≠ .header) (v : Int) (f : Nat) :
    Stacks s₀ (push kind v f (tripFeeders o fs s).2 (tripFeeders o fs s).1) := by
  obtain ⟨-, items⟩ := tripFeeders_closed (o := o) hn hc
  rw [push_eq]
  refine restorerTurn_stacks (Stacks.after ?_ ((stackView_emitStack _).trans stackView_restartDelay))
  exact stacks_of_takes h hn hc rfl (stackView_entryPushed _ _ _ _ _)
    (entryPushed_takes hk v f (by rw [items, tripItems_feeders]))

/-- CLOSED feeders are tripped as a supplement and join the entry of the feeder that failed to open (R96). -/
theorem appendItems_stacks (h : Stacks s₀ s) {o : OpOrigin} (hn : fs.Nodup)
    (hc : ∀ f ∈ fs, s.feeders[f].state = .closed) (f : Fin 16) :
    Stacks s₀ (appendItems f (tripFeeders o fs s).2 (tripFeeders o fs s).1) := by
  obtain ⟨-, items⟩ := tripFeeders_closed (o := o) hn hc
  rw [items]
  have tripped := tripFeeders_stacks o fs h
  generalize ht : (tripFeeders o fs s).1 = t at tripped ⊢
  unfold appendItems
  split
  next i hfind =>
    obtain ⟨hi, hlists, -⟩ := List.findIdx?_eq_some_iff_getElem.mp hfind
    refine stacks_of_takes (t := t) (o := o) h hn hc ht.symm ?_ ?_
    · simp only [stackView, modEntry, modRst_feeders, modRst_blk, modRst_notices]
    · have hne : (t.rst.entries[i]).outline.feeders ≠ [] := List.ne_nil_of_mem ((lists_iff _ f).mp hlists)
      have e' : (stackView t).entries = (t.rst.entries.take i).map Entry.outline
          ++ (t.rst.entries[i]).outline :: (t.rst.entries.drop (i + 1)).map Entry.outline := by
        rw [← List.map_cons, ← List.drop_eq_getElem_cons hi, ← List.map_append, List.take_append_drop]
        rfl
      have e : (stackView (modEntry i (fun e => { e with items := e.items ++ tripItems s fs }) t)).entries
          = (t.rst.entries.take i).map Entry.outline
            ++ ⟨(t.rst.entries[i]).outline.header, (t.rst.entries[i]).outline.feeders ++ fs⟩
              :: (t.rst.entries.drop (i + 1)).map Entry.outline := by
        simp [stackView, modEntry, List.modify_eq_take_cons_drop hi, Entry.outline, Entry.isHeader, tripItems_feeders]
      rw [e, e']
      exact .appended hne
  next => exact tripped

@[simp] theorem stackView_flagShort (b : Bool) (s : State) : stackView (flagShort b s) = stackView s := by
  simp [flagShort]
@[simp] theorem stackView_joinCredit (l : List StackItem) (s : State) : stackView (joinCredit l s) = stackView s := rfl
@[simp] theorem stackView_joinTargets (l : List StackItem) (s : State) : stackView (joinTargets l s) = stackView s := rfl

theorem fireStage_stacks (h : Stacks s₀ s) (f : Nat) (i : Fin 4) : Stacks s₀ (fireStage f i s) := by
  have disarmed : Stacks s₀ (modShd (fun h => { h with armed := h.armed.set i false }) s) := h.after (by simp)
  unfold fireStage
  dsimp only
  generalize modShd (fun h => { h with armed := h.armed.set i false }) s = u at disarmed ⊢
  have closed : ∀ k ∈ stageEligible u i, u.feeders[k].state = .closed := fun _ => closed_of_mem_stageEligible
  split
  · exact disarmed.after (by simp)
  · have pushed := push_stacks disarmed (o := .autoShed) (stageEligible_nodup u i) closed (kind := .ufShed) (by decide)
      (i.val + 1 : Nat) f
    unfold Stacks
    rw [stackView_serveDemand, stackView_journal, stackView_setProt]
    exact Stacks.ite (tripFeeders_stacks _ _ disarmed) (pushed.after (stackView_joinCredit _ _))

theorem stageFunction_stacks (h : Stacks s₀ s) (f : Nat) : Stacks s₀ (stageFunction f s) := by
  have counted : Stacks s₀ (modShd (fun h => { h with counts := stageCountsAfter s f }) s) :=
    h.after (stackView_modShd _ _)
  exact (Stacks.foldl (fun i k => fireStage_stacks k f i) _ counted).after (stackView_modShd _ _)

theorem rocofShed_stacks (h : Stacks s₀ s) (v : PresentValue) (r a : Int) : Stacks s₀ (rocofShed v r a s) := by
  have closed : ∀ k ∈ selection s a, s.feeders[k].state = .closed := fun _ => closed_of_mem_selection
  unfold rocofShed
  dsimp only
  have pushed := push_stacks h (o := .autoShed) (selection_nodup s a) closed (kind := .rocofShed) (by decide) r v.f
  refine Stacks.after (.ite ((tripFeeders_stacks .autoShed (selection s a) h).after (stackView_flagShort _ _))
    (pushed.after ?_)) ((stackView_serveDemand _ _).trans (stackView_journal _ _ _ _))
  rw [stackView_flagShort, stackView_setProt, stackView_joinTargets, stackView_joinCredit]

theorem rocofAct_stacks (h : Stacks s₀ s) (v : PresentValue) (r d : Int) : Stacks s₀ (rocofAct v r d s) := by
  unfold rocofAct holdoffStarts
  dsimp only
  refine Stacks.after (.ite (h.after (by simp)) ?_) (stackView_modShd _ _)
  split
  · exact rocofShed_stacks h v r _
  · exact h.after (by simp)

theorem rocofFunction_stacks (h : Stacks s₀ s) (v : PresentValue) : Stacks s₀ (rocofFunction v s) := by
  unfold rocofFunction
  dsimp only
  repeat' split
  · exact h
  · exact h.after (stackView_modShd _ _)
  · exact rocofAct_stacks (h.after (stackView_modShd _ _)) v _ _
  · exact h.after (stackView_modShd _ _)

theorem shdValue_stacks (h : Stacks s₀ s) (v : PresentValue) : Stacks s₀ (shdValue v s) := by
  have k : Stacks s₀ (drawn s) := h.after (stackView_drawn s)
  exact .ite (rocofFunction_stacks (stageFunction_stacks k _) v) (stageFunction_stacks (rocofFunction_stacks k v) _)

theorem shdOnBus_stacks (h : Stacks s₀ s) (n : BusNotice) : Stacks s₀ (shdOnBus n s) := by
  have broken : Stacks s₀ (if n.brk then shdBreak s else s) := h.after (by simp [shdBreak])
  have dead : Stacks s₀ (if n.bus = .dead ∧ n.prev ≠ .dead then shdDead (if n.brk then shdBreak s else s)
      else if n.brk then shdBreak s else s) := broken.after (by simp [shdDead])
  unfold shdOnBus
  dsimp only
  cases n.value with
  | none => exact dead.after (by simp)
  | some v => exact (shdValue_stacks dead v).after (by simp)

theorem supplement_stacks (h : Stacks s₀ s) (f : Fin 16) (a : Int) : Stacks s₀ (supplement f a s) := by
  have closed : ∀ k ∈ selection s a, s.feeders[k].state = .closed := fun _ => closed_of_mem_selection
  unfold supplement
  dsimp only
  refine .ite ?_ (h.after (by simp))
  refine (appendItems_stacks h (o := .autoShed) (selection_nodup s a) closed f).after ?_
  rw [stackView_journal, stackView_flagShort, stackView_setProt, stackView_joinTargets, stackView_joinCredit]

theorem shdOnFeeder_stacks (h : Stacks s₀ s) (f : Fin 16) (after : FeederState) (cause : FeederCause) :
    Stacks s₀ (shdOnFeeder f after cause s) := by
  have credit : Stacks s₀ (if after.endsCredit then
      modShd (fun h => { h with credit := h.credit.filter fun c => c.feeder ≠ f }) s else s) := h.after (by simp)
  unfold shdOnFeeder
  dsimp only
  generalize (if after.endsCredit then
    modShd (fun h => { h with credit := h.credit.filter fun c => c.feeder ≠ f }) s else s) = u at credit ⊢
  split
  · exact credit
  · have left : Stacks s₀ (modShd (fun h => { h with targets := h.targets.filter fun t => t.feeder ≠ f }) u) :=
      credit.after (stackView_modShd _ _)
    split
    · exact left
    · exact left
    · exact .ite (supplement_stacks left f _) left
    · exact credit

theorem manualShed_stacks (h : Stacks s₀ s) (l : Link) (hn : fs.Nodup)
    (hc : ∀ f ∈ fs, s.feeders[f].state = .closed) : Stacks s₀ (manualShed l fs s).1 :=
  (push_stacks h hn hc (by decide) _ _).after (stackView_journal _ _ _ _)

end Shedding

end Sys2Proof.Machine

/-! ## The laws of the restore stack: the sequencer, the delivery of notices and the end of an event -/

namespace Sys2Proof.Machine

/-- Between `s` and `t` the laws of the stack see moves of the stack and of the sequencer; BLK takes a reset notice only
if one waited in `s`. -/
def Runs (s t : State) : Prop :=
  Relation.ReflTransGen (RunMove ((stackView s).resetAwaited = true)) (stackView s) (stackView t)

section Moves

variable {s t u : State}

theorem Runs.refl (s : State) : Runs s s := Relation.ReflTransGen.refl

/-- What the laws do not see adds nothing. -/
theorem Runs.after (h : Runs s t) (k : stackView u = stackView t) : Runs s u := by
  unfold Runs
  rw [k]
  exact h

theorem Runs.of_eq (k : stackView t = stackView s) : Runs s t := (Runs.refl s).after k

theorem Runs.stacks (h : Runs s t) (k : Stacks t u) : Runs s u :=
  Relation.ReflTransGen.trans h (Relation.ReflTransGen.mono (p := RunMove _) (fun _ _ => RunMove.stack) _ _ k)

theorem Stacks.runs (h : Stacks s t) : Runs s t := (Runs.refl s).stacks h

/-- What is unseen first changes nothing of the moves that follow. -/
theorem Runs.before (k : stackView t = stackView s) (h : Runs t u) : Runs s u := by
  unfold Runs at h ⊢
  rwa [k] at h

theorem Runs.ite {c : Prop} [Decidable c] (ht : Runs s t) (hu : Runs s u) : Runs s (if c then t else u) := by
  split
  · exact ht
  · exact hu

/-- No reset notice comes to wait. -/
theorem Runs.resetAwaited (h : Runs s t) (k : (stackView t).resetAwaited = true) :
    (stackView s).resetAwaited = true := runMoves_resetAwaited h k

theorem Runs.listing (h : Runs s t) (k : ListingLaw s) : ListingLaw t := by
  rw [listingLaw_iff_listing] at k ⊢
  exact runMoves_listing h k

theorem Runs.shape (h : Runs s t) (hr : (stackView s).resetAwaited = false) (k : StackShape s) : StackShape t := by
  rw [stackShape_iff_shaped] at k ⊢
  exact runMoves_shaped h (by simp [hr]) k

end Moves

/-! ### States of the sequencer -/

section States

variable {s₀ s : State}

theorem stackView_blkEnter (new : BlkState) (s : State) : stackView (blkEnter new s) = { stackView s with blk := new } := by
  unfold blkEnter
  dsimp only
  split
  next same => rw [← same]; rfl
  next => rw [stackView_curOnSequencer, stackView_genOnSequencer, stackView_setProt]; rfl

theorem stackView_blkToIdle (s : State) : stackView (blkToIdle s) = { stackView s with blk := .idle } :=
  stackView_blkEnter _ _

/-- The sequencer changes its state within, or outside, RUNNING and HELD. -/
theorem blkEnter_runs (h : Runs s₀ s) {new : BlkState} (hn : new.active = s.blk.state.active) :
    Runs s₀ (blkEnter new s) := by
  refine Relation.ReflTransGen.tail h ?_
  rw [stackView_blkEnter]
  exact .turns new hn

theorem blkToIdle_runs (h : Runs s₀ s) (hn : s.blk.state.active = false) : Runs s₀ (blkToIdle s) :=
  blkEnter_runs (s := { s with blk := { s.blk with confirm := .idle, run := {} } }) (h.after rfl) hn.symm

theorem stackView_withdrawGrant (s : State) : stackView (withdrawGrant s) = stackView s := rfl

/-- The stack without its header, before the restorer turns to it (R99). -/
theorem removeHeader_stacks (s : State) :
    Relation.ReflTransGen StackMove { stackView s with entries := (stackView s).entries.filter fun o => !o.header }
      (stackView (removeHeader s)) := by
  have e : ({ stackView s with entries := (stackView s).entries.filter fun o => !o.header } : StackView)
      = stackView (modRst (fun r => { r with entries := r.entries.filter fun e => !e.isHeader }) s) := by
    simp only [stackView, modRst_feeders, modRst_rst, modRst_blk, modRst_notices, List.filter_map]
    rfl
  rw [e]
  unfold removeHeader
  split
  · exact restorerTurn_stacks (Stacks.of_eq (stackView_emitStack _))
  next none =>
    refine Stacks.of_eq (stackView_modRst ?_).symm
    congr 1
    refine List.filter_eq_self.mpr fun e he => ?_
    simpa [headerStands] using fun hh => none (List.any_eq_true.mpr ⟨e, he, hh⟩)

/-- A run that has ended: the header is removed and the sequencer enters a state outside RUNNING and HELD. -/
theorem runs_of_ends {t : State} (h : Runs s₀ s) {new : BlkState} (hn : new.active = false)
    (ht : stackView t = { stackView (removeHeader s) with blk := new }) : Runs s₀ t := by
  refine Relation.ReflTransGen.tail h ?_
  rw [ht]
  exact .ends new hn (removeHeader_stacks s)

theorem failRun_runs (h : Runs s₀ s) (code : Nat) : Runs s₀ (failRun code s) := by
  refine runs_of_ends h (new := .failed) rfl ?_
  unfold failRun
  dsimp only
  rw [stackView_blkEnter, stackView_journal, stackView_modRun]

theorem endRun_runs (h : Runs s₀ s) : Runs s₀ (endRun s) := by
  refine runs_of_ends (s := withdrawGrant s) (h.after (stackView_withdrawGrant s)) (new := .idle) rfl ?_
  unfold endRun
  dsimp only
  rw [stackView_blkToIdle, stackView_journal]

theorem clearBus_stacks {s : State} (h : Stacks s₀ s) : Stacks s₀ (clearBus s) :=
  (Stacks.foldl (fun f k => operate_stacks k f false .blackstart) _ h).after (stackView_modRun _ _)

theorem stackView_latchLead (g p : Fin 4) (s : State) : stackView (latchLead g p s) = stackView s :=
  stackView_writeHeader _

theorem stackView_entries (l : List Entry) (s : State) :
    stackView (modRst (fun r => { r with entries := l }) s) = { stackView s with entries := l.map Entry.outline } := rfl

/-- The stack with its header alone, before the restorer turns to it (R99). -/
theorem pushHeader_stacks (s : State) :
    Relation.ReflTransGen StackMove { stackView s with entries := [⟨true, []⟩] } (stackView (pushHeader s)) := by
  have noted : stackView (if s.rst.entries.length = 0 then s else journal .stackDiscarded 1 s.rst.entries.length s)
      = stackView s := by simp
  unfold pushHeader
  dsimp only
  generalize (if s.rst.entries.length = 0 then s else journal .stackDiscarded 1 s.rst.entries.length s) = u at noted ⊢
  rw [← noted]
  exact restorerTurn_stacks (s₀ := modRst (fun r => { r with entries :=
    [{ tag := u.rst.nextTag, kind := .header, trigger := 0, freq := 0, pushTime := u.time.part }] }) u)
    (.of_eq (by simp))

/-- A run begins: the header replaces every entry, and the sequencer enters RUNNING (R99, R163). -/
theorem beginRun_runs (h : Runs s₀ s) (how : RunStart) : Runs s₀ (beginRun how s) := by
  unfold beginRun
  dsimp only
  have cleared : Runs s₀ (clearBus { s with blk := { s.blk with confirm := .idle, run := { begunBy := some how } } }) :=
    h.stacks (clearBus_stacks (.of_eq rfl))
  generalize clearBus _ = u at cleared ⊢
  split
  · exact failRun_runs cleared 1
  · split
    · exact failRun_runs cleared 1
    next g _ p _ =>
      refine Relation.ReflTransGen.tail cleared ?_
      rw [stackView_queueStep, stackView_journal, stackView_blkEnter, stackView_latchLead]
      exact .begins (pushHeader_stacks u)

end States

/-! ### Failure, retry and steps (R165 to R172) -/

section Steps

variable {s₀ s : State}

/-- A retry keeps the sequencer within RUNNING and HELD, or fails the run (R172). -/
theorem retryRun_runs (h : Runs s₀ s) (ha : s.blk.state.active = true) : Runs s₀ (retryRun s) := by
  have cleared : Stacks s (clearReleases (clearBus s)) := (clearBus_stacks (.refl s)).after (stackView_clearReleases _)
  have active := cleared.blk ▸ ha
  unfold retryRun
  dsimp only
  generalize clearReleases (clearBus s) = u at cleared active ⊢
  have k := h.stacks cleared
  split
  · exact failRun_runs k 1
  · split
    · exact failRun_runs k 1
    next g _ _ p _ =>
      have latched : Runs s₀ (modRun (fun r => { r with holdStack := false })
          (journal .blkRetry g p.val (latchLead g p u))) := k.after (by simp [stackView_latchLead])
      have active' : (modRun (fun r => { r with holdStack := false })
          (journal .blkRetry g p.val (latchLead g p u))).blk.state.active = true := by
        simpa [latchLead, writeHeader] using active
      refine .ite (.ite latched ?_) ?_
      · exact (blkEnter_runs (new := .held) latched active'.symm).after (stackView_journal _ _ _ _)
      · exact (blkEnter_runs (new := .running) latched active'.symm).after (stackView_queueStep _)

/-- A failed attempt before its retry or the failure of the run: the step has ended with its record, and on a DEAD bus
the sets that the attempt has started are stopped (R172). -/
def attemptNoted (code : Nat) (s : State) : State :=
  let s := modRun (fun r => { r with begun := false, stepTimer := .idle, waitTimer := .idle }) (withdrawGrant s)
  let s := journal .attemptFailed s.blk.run.attempt code s
  if s.fmon.bus = .dead then s.blk.run.started.foldl (fun s g => stopSet false g .blackstart s) s else s

theorem attemptFail_eq (code : Nat) (s : State) :
    attemptFail code s =
      if code ≠ 5 ∧ (attemptNoted code s).fmon.bus = .dead
          ∧ (attemptNoted code s).blk.run.attempt < (attemptNoted code s).settings.sys.maxAttempts then
        retryRun (attemptNoted code s)
      else failRun code (attemptNoted code s) := rfl

theorem stackView_attemptNoted (code : Nat) (s : State) : stackView (attemptNoted code s) = stackView s := by
  unfold attemptNoted
  dsimp only
  rw [stackView_ite, stackView_foldl _ fun s g => stackView_stopSet s false g .blackstart, ite_self, stackView_journal,
    stackView_modRun, stackView_withdrawGrant]

theorem attemptFail_runs (h : Runs s₀ s) (ha : s.blk.state.active = true) (code : Nat) : Runs s₀ (attemptFail code s) := by
  have noted (t : State) (hv : stackView t = stackView s) : Runs s₀ t ∧ t.blk.state.active = true :=
    ⟨h.after hv, by rw [show t.blk.state = s.blk.state from congrArg StackView.blk hv]; exact ha⟩
  rw [attemptFail_eq]
  obtain ⟨k, active⟩ := noted _ (stackView_attemptNoted code s)
  exact .ite (retryRun_runs k active) (failRun_runs k code)

theorem stackView_nextStep (s : State) : stackView (nextStep s) = stackView s :=
  (stackView_queueStep _).trans (stackView_modRun _ _)

@[simp] theorem stackView_stepDone (st : PlanStep) (s : State) : stackView (stepDone st s) = stackView s := by
  unfold stepDone
  dsimp only
  rw [stackView_nextStep, stackView_journal, stackView_ite, stackView_withdrawGrant, ite_self]

theorem stepFails_runs (h : Runs s₀ s) (ha : s.blk.state.active = true) (st : PlanStep) (expired : Bool) :
    Runs s₀ (stepFails st expired s) :=
  .ite (h.after ((stackView_nextStep _).trans (stackView_journal _ _ _ _))) (attemptFail_runs h ha _)

/-- A start of a set by the plan, as it is seen to leave the part. -/
theorem stackView_of_startByPlan {t : State} {g : Fin 4} {b : Bool} (e : startByPlan g s = (t, b)) :
    stackView t = stackView s := by
  have k := stackView_startSet s g .blackstart
  unfold startByPlan at e
  dsimp only at e
  split at e
  · cases e
    exact k
  · rw [e] at k
    exact k

theorem stepAction_runs (h : Runs s₀ s) (ha : s.blk.state.active = true) (st : PlanStep) : Runs s₀ (stepAction st s) := by
  have started {t : State} (e : stackView t = stackView s) : Runs s₀ t ∧ t.blk.state.active = true :=
    ⟨h.after e, by rw [show t.blk.state = s.blk.state from congrArg StackView.blk e]; exact ha⟩
  unfold stepAction
  cases st.kind with
  | startLead =>
    dsimp only
    split
    · exact stepFails_runs h ha st false
    · split
      · exact h.after (stackView_stepDone _ _)
      · split
        next e => exact h.after (stackView_of_startByPlan e)
        next e =>
          obtain ⟨k, active⟩ := started (stackView_of_startByPlan e)
          exact stepFails_runs k active st false
  | closeFeeder =>
    dsimp only
    split
    · split
      next e => exact h.stacks (stacks_of_operate (.refl s) e)
      next e => exact (h.stacks (stacks_of_operate (.refl s) e)).after (stackView_stepDone _ _)
      next e =>
        have k := stacks_of_operate (.refl s) e
        exact stepFails_runs (h.stacks k) (k.blk ▸ ha) st false
    · exact stepFails_runs h ha st false
  | wait => exact .ite (h.after (stackView_stepDone _ _)) (h.after (stackView_modRun _ _))
  | waitStable => exact h
  | startNext =>
    dsimp only
    split
    · exact stepFails_runs h ha st false
    · split
      next e => exact h.after ((stackView_modRun _ _).trans (stackView_of_startByPlan e))
      next e =>
        obtain ⟨k, active⟩ := started (stackView_of_startByPlan e)
        exact stepFails_runs k active st false
  | releasePv =>
    dsimp only
    split
    · exact .ite (h.after (by simp)) (stepFails_runs h ha st false)
    · exact stepFails_runs h ha st false
  | stop => exact endRun_runs (h.after (stackView_journal _ _ _ _))

theorem active_of_running (h : s.blk.state = .running) : s.blk.state.active = true := by rw [h]; rfl

theorem beginStep_runs (h : Runs s₀ s) : Runs s₀ (beginStep s) := by
  unfold beginStep
  split
  next begins =>
    obtain ⟨running, -⟩ := begins
    split
    · exact endRun_runs h
    · exact stepAction_runs (h.after (stackView_modRun _ _)) (active_of_running running) _
  next => exact h

theorem examineStep_runs (h : Runs s₀ s) (ha : s.blk.state.active = true) (st : PlanStep) :
    Runs s₀ (examineStep st s) := by
  unfold examineStep
  split
  · exact h
  · exact h.after (stackView_stepDone _ _)
  · exact h.after rfl
  · exact stepFails_runs h ha st false

theorem active_of_runningStep {st : PlanStep} (h : runningStep s = some st) : s.blk.state.active = true := by
  unfold runningStep at h
  split at h
  next c =>
    obtain ⟨running, -⟩ := c
    exact active_of_running running
  next => cases h

/-! ### Holding (R171) -/

theorem enterHeld_runs (h : Runs s₀ s) (ha : s.blk.state.active = true) (cause : Nat) : Runs s₀ (enterHeld cause s) := by
  unfold enterHeld
  exact (blkEnter_runs (new := .held) (h.after (stackView_modRun _ _)) ha.symm).after (stackView_journal _ _ _ _)

theorem resumeRun_runs (h : Runs s₀ s) (ha : s.blk.state.active = true) : Runs s₀ (resumeRun s) := by
  have resumed : Runs s₀ (journal .blkResumed 0 0 (blkEnter .running s)) :=
    (blkEnter_runs (new := .running) h ha.symm).after (stackView_journal _ _ _ _)
  have running : (journal .blkResumed 0 0 (blkEnter .running s)).blk.state = .running := by
    rw [journal_blk]
    exact congrArg StackView.blk (stackView_blkEnter .running s)
  unfold resumeRun
  dsimp only
  generalize journal .blkResumed 0 0 (blkEnter .running s) = u at resumed running ⊢
  split
  · have k := resumed.after (stackView_modRun u fun r =>
      { r with stepTimer := r.stepTimer.resume, waitTimer := r.waitTimer.resume })
    split
    · exact .ite k (examineStep_runs k (active_of_running running) _)
    · exact k
  · exact resumed.after (stackView_queueStep _)

theorem blkOnStack_runs (h : Runs s₀ s) : Runs s₀ (blkOnStack s) := by
  have held (b : Bool) : Runs s₀ (modRun (fun r => { r with holdStack := b }) s) := h.after (stackView_modRun _ _)
  unfold blkOnStack
  dsimp only
  split
  next active =>
    exact .ite (.ite (enterHeld_runs (held true) active 1) (held true))
      (.ite (resumeRun_runs (held false) active) (held false))
  next => exact h

/-! ### Confirming and beginning (R161 to R163) -/

theorem enterConfirming_runs (h : Runs s₀ s) (hs : s.blk.state = .idle) : Runs s₀ (enterConfirming s) := by
  have timed : Runs s₀ { s with blk :=
      { s.blk with confirm := .running s.settings.sys.deadConfirmMs, run := {} } } := h.after rfl
  have inactive : BlkState.active .confirming = s.blk.state.active := hs ▸ rfl
  exact (blkEnter_runs timed inactive).after (stackView_journal _ _ _ _)

theorem confirmed_runs (h : Runs s₀ s) (hs : s.blk.state = .confirming) : Runs s₀ (confirmed s) := by
  have timed : Runs s₀ { s with blk := { s.blk with confirm := .idle } } := h.after rfl
  have inactive : BlkState.active .waiting = s.blk.state.active := hs ▸ rfl
  exact .ite (beginRun_runs h .timer) ((blkEnter_runs timed inactive).after (stackView_journal _ _ _ _))

theorem confirmExpires_runs (h : Runs s₀ s) : Runs s₀ (confirmExpires s) := by
  unfold confirmExpires
  split
  next c =>
    obtain ⟨confirming, -⟩ := c
    exact .ite (confirmed_runs h confirming) (h.after rfl)
  next => exact h

theorem stepTimerExpires_runs (h : Runs s₀ s) : Runs s₀ (stepTimerExpires s) := by
  unfold stepTimerExpires
  split
  next e => exact .ite (stepFails_runs h (active_of_runningStep e) _ true) h
  next => exact h

theorem waitTimerExpires_runs (h : Runs s₀ s) : Runs s₀ (waitTimerExpires s) := by
  unfold waitTimerExpires
  split
  · exact .ite (h.after (stackView_stepDone _ _)) h
  · exact h

/-! ### Notices to BLK -/

theorem stackView_stableOnBus (st : PlanStep) (n : BusNotice) (s : State) :
    stackView (stableOnBus st n s) = stackView s := by
  unfold stableOnBus
  split <;> simp

theorem followOn_runs : ∀ (k : Nat) (n : BusNotice) {s : State}, Runs s₀ s → Runs s₀ (followOn k n s)
  | 0, _, _, h => h
  | k + 1, n, s, h => by
    have begun := beginStep_runs h
    unfold followOn
    dsimp only
    split
    · split
      · split
        · exact followOn_runs k n (begun.after (stackView_stableOnBus _ n _))
        · exact begun
      · exact followOn_runs k n begun
    · exact h

theorem runOnBus_runs (h : Runs s₀ s) (n : BusNotice) : Runs s₀ (runOnBus n s) := by
  unfold runOnBus
  split
  next st e =>
    have examined := examineStep_runs h (active_of_runningStep e) st
    have stable := h.after (stackView_stableOnBus st n s)
    split
    · exact .ite (followOn_runs 13 n examined) examined
    · exact .ite (followOn_runs 13 n stable) stable
    · exact h
  next => exact h

theorem blkOnBusEvent_runs (h : Runs s₀ s) (n : BusNotice) : Runs s₀ (blkOnBusEvent n s) := by
  have begun : Runs s₀ (if n.bus = .live ∧ n.prev ≠ .live then modRun (fun r => { r with clearing := [] }) s else s) :=
    h.after (by simp)
  unfold blkOnBusEvent
  dsimp only
  generalize (if n.bus = .live ∧ n.prev ≠ .live then modRun (fun r => { r with clearing := [] }) s else s) = u
    at begun ⊢
  split
  next idle => exact .ite (enterConfirming_runs begun idle) begun
  next confirming =>
    exact .ite (blkToIdle_runs begun (by rw [confirming]; rfl)) (.ite (confirmed_runs begun confirming) begun)
  next waiting => exact .ite (blkToIdle_runs begun (by rw [waiting]; rfl)) begun
  next running => exact .ite (attemptFail_runs begun (active_of_running running) 4) (runOnBus_runs begun n)
  next held => exact .ite (attemptFail_runs begun (by rw [held]; rfl) 4) begun
  next => exact begun

/-- BLK takes a bus notice; the reset notice makes it confirm a dead bus whatever its state (R175). -/
theorem blkOnBus_runs (h : Runs s₀ s) (n : BusNotice) (hr : n.reset = true → (stackView s₀).resetAwaited = true) :
    Runs s₀ (blkOnBus n s) := by
  unfold blkOnBus
  split
  next reset =>
    refine .ite (Relation.ReflTransGen.tail h ?_) h
    rw [stackView_curOnSequencer, stackView_genOnSequencer]
    exact .reset (hr reset)
  next => exact blkOnBusEvent_runs h n

theorem blkOnSet_runs (h : Runs s₀ s) (g : Fin 4) (a b : SetState) : Runs s₀ (blkOnSet g a b s) := by
  unfold blkOnSet
  split
  next idle => exact .ite (enterConfirming_runs h idle) h
  next confirming => exact .ite (blkToIdle_runs h (by rw [confirming]; rfl)) h
  next waiting => exact .ite (blkToIdle_runs h (by rw [waiting]; rfl)) h
  next =>
    split
    next e => exact .ite (examineStep_runs h (active_of_runningStep e) _) h
    next => exact h
  next => exact h

theorem clearingOnFeeder_stacks (f : Fin 16) (s : State) : Stacks s (clearingOnFeeder f s) := by
  have left : Stacks s (modRun (fun r => { r with clearing := r.clearing.filter (· ≠ f) }) s) := .of_eq rfl
  exact .ite (.ite (operate_stacks left f false .blackstart) left) (.refl s)

theorem blkOnFeeder_runs (h : Runs s₀ s) (f : Fin 16) : Runs s₀ (blkOnFeeder f s) := by
  have cleared := h.stacks (clearingOnFeeder_stacks f s)
  unfold blkOnFeeder
  dsimp only
  split
  next e => exact .ite (examineStep_runs cleared (active_of_runningStep e) _) cleared
  next => exact cleared

theorem blkOnMode_runs (h : Runs s₀ s) (m : Mode) : Runs s₀ (blkOnMode m s) := by
  unfold blkOnMode
  split
  next c =>
    obtain ⟨-, active, -⟩ := c
    exact attemptFail_runs h active 5
  next => exact h

end Steps

/-! ### Notices and the end of an event (section 2.5) -/

section Deliver

variable {s₀ s : State}

/-- One notice is taken; a reset notice to BLK only if one waited at the start. -/
theorem deliver_runs (h : Runs s₀ s) (n : Notice) (hr : n.isBlkReset = true → (stackView s₀).resetAwaited = true) :
    Runs s₀ (deliver n s) := by
  have r := Stacks.refl s
  unfold deliver
  split
  · exact h.stacks (shdOnBus_stacks r _)
  · exact h.stacks (rstOnBus_stacks r _)
  · exact h.after ((curOnBus_frame _ s).stackView rfl)
  · exact blkOnBus_runs h _ hr
  · exact h.after (stackView_genOnBus s _)
  · exact h.stacks (shdOnFeeder_stacks r _ _ _)
  · exact h.stacks (rstOnFeeder_stacks r _ _)
  · exact blkOnFeeder_runs h _
  · exact h
  · exact blkOnSet_runs h _ _ _
  · exact h.after ((curOnSet_frame _ _ s).stackView rfl)
  · exact h.after (stackView_evalDispatch s)
  · exact h
  · exact blkOnStack_runs h
  · exact h.after (stackView_evalDispatch s)
  · exact h
  · exact h.stacks (restorerTurn_stacks r)
  · exact h.after (by simp)
  · exact h.after ((curOnUpdate_frame _ s).stackView rfl)
  · exact h
  · exact h.stacks (restorerTurn_stacks r)
  · exact h.after (by simp)
  · exact h.after ((curOnStale_frame _ s).stackView rfl)
  · exact h
  · exact h.stacks (rstOnMode_stacks r)
  · exact h.after (stackView_genOnMode s _)
  · exact h.after ((applyTargets_frame s).stackView rfl)
  · exact blkOnMode_runs h _
  · exact h
  · exact beginStep_runs h

/-- The notices that wait become fewer. -/
theorem runs_of_fewer (h : Runs s₀ s) {l : List Notice} (hl : ∀ n ∈ l, n ∈ s.notices) :
    Runs s₀ { s with notices := l } := by
  refine Relation.ReflTransGen.tail h (.taken (l.any Notice.isBlkReset) fun hb => ?_)
  obtain ⟨n, hn, reset⟩ := List.any_eq_true.mp hb
  exact List.any_eq_true.mpr ⟨n, hl n hn, reset⟩

theorem resetAwaited_of_mem (h : Runs s₀ s) {n : Notice} (hn : n ∈ s.notices) (reset : n.isBlkReset = true) :
    (stackView s₀).resetAwaited = true :=
  h.resetAwaited (List.any_eq_true.mpr ⟨n, hn, reset⟩)

theorem deliverAll_runs : ∀ (l : List Notice) {s : State}, Runs s₀ s →
    (∀ n ∈ l, n.isBlkReset = true → (stackView s₀).resetAwaited = true) →
    Runs s₀ (l.foldl (fun s n => deliver n s) s)
  | [], _, h, _ => h
  | n :: l, _, h, hr =>
    deliverAll_runs l (deliver_runs h n (hr n List.mem_cons_self)) fun m hm => hr m (List.mem_cons_of_mem n hm)

theorem settle_runs : ∀ (fuel : Nat) {s : State}, Runs s₀ s → Runs s₀ (settle fuel s)
  | 0, s, h => by
    have emptied : Runs s₀ { s with notices := [] } := runs_of_fewer h fun _ hn => absurd hn List.not_mem_nil
    exact runs_of_fewer (deliverAll_runs s.notices emptied fun n hn => resetAwaited_of_mem h hn) fun _ hn =>
      absurd hn List.not_mem_nil
  | fuel + 1, s, h => by
    unfold settle
    split
    · exact h
    next n rest e =>
      have fewer : Runs s₀ { s with notices := rest } := runs_of_fewer h fun m hm => e ▸ List.mem_cons_of_mem n hm
      exact settle_runs fuel (deliver_runs fewer n (resetAwaited_of_mem h (e ▸ List.mem_cons_self)))

theorem settle_notices : ∀ (fuel : Nat) (s : State), (settle fuel s).notices = []
  | 0, _ => rfl
  | fuel + 1, s => by
    unfold settle
    split
    next e => exact e
    next => exact settle_notices fuel _

theorem conclude_runs (h : Runs s₀ s) : Runs s₀ (conclude s) :=
  (settle_runs Config.settleFuel h).after
    (((driveAlerts_frame _).stackView rfl).trans ((driveSets_frame _).stackView rfl))

/-- An event leaves no notice. -/
theorem conclude_notices (s : State) : (conclude s).notices = [] := by
  unfold conclude
  rw [(driveAlerts_frame _).notices (by decide), (driveSets_frame _).notices (by decide), settle_notices]

end Deliver

end Sys2Proof.Machine

/-! ## The laws of the restore stack: commands and steps -/

namespace Sys2Proof.Machine

/-- What holds of the laws of the stack at `s` holds of them at `t`. -/
structure KeepsStackLaws (s t : State) : Prop where
  listing : ListingLaw s → ListingLaw t
  stack : StackLaw s → StackLaw t

section Keeps

variable {s t u : State}

theorem KeepsStackLaws.refl (s : State) : KeepsStackLaws s s := ⟨id, id⟩

theorem KeepsStackLaws.ite {c : Prop} [Decidable c] (ht : KeepsStackLaws s t) (hu : KeepsStackLaws s u) :
    KeepsStackLaws s (if c then t else u) := by
  split
  · exact ht
  · exact hu

/-- The moves of the stack and of the sequencer keep the laws, from a state in which no notice waits to another. -/
theorem Runs.keeps (h : Runs s t) (hn : s.notices = [] → t.notices = []) : KeepsStackLaws s t where
  listing := h.listing
  stack k := ⟨hn k.settled, h.shape (by simp [stackView, k.settled]) k.shape⟩

/-- What follows unseen, with the notices as they are, keeps the laws too. -/
theorem KeepsStackLaws.after (h : KeepsStackLaws s t) (k : stackView u = stackView t) (hn : u.notices = t.notices) :
    KeepsStackLaws s u where
  listing hs := (Runs.of_eq k).listing (h.listing hs)
  stack hs :=
    have ⟨settled, shape⟩ := h.stack hs
    ⟨hn.trans settled, (Runs.of_eq k).shape (by simp [stackView, settled]) shape⟩

theorem keeps_of_frame {ps : List Part} (k : SameBut ps s t) (hp : ps.all (· ∈ offStack) = true) :
    KeepsStackLaws s t :=
  (KeepsStackLaws.refl s).after (k.stackView hp) ((k.widen offStack hp).notices (by decide))

/-- An empty stack with no notice and the sequencer outside RUNNING and HELD meets the laws. -/
theorem keeps_of_empty (s : State) (he : t.rst.entries = []) (hb : t.blk.state.active = false) (hn : t.notices = []) :
    KeepsStackLaws s t := by
  refine ⟨fun _ => (listingLaw_iff_listing t).mpr ?_, fun _ => ⟨hn, (stackShape_iff_shaped t).mpr ?_⟩⟩
  · have e : (stackView t).entries = [] := by simp [stackView, he]
    rw [e]
    exact ⟨List.nodup_nil, fun _ hf => absurd hf List.not_mem_nil⟩
  · have e : (stackView t).entries = [] := by simp [stackView, he]
    have b : (stackView t).blk.active = false := hb
    rw [e, b]
    exact ⟨by decide, by simp, by simp, rfl⟩

/-! ### Commands of either form (R179 to R183) -/

/-- An event of the blocks keeps the laws when its own block makes moves alone. -/
theorem event_keeps {act : State → State} (k : Runs s (act s)) : KeepsStackLaws s (event act s) := by
  unfold event
  split
  · exact .refl s
  · exact (conclude_runs k).keeps fun _ => conclude_notices _

theorem event_unseen {act : State → State} (k : stackView (act s) = stackView s) : KeepsStackLaws s (event act s) :=
  event_keeps (.of_eq k)

theorem event_off {act : State → State} {ps : List Part} (k : SameBut ps s (act s))
    (hp : ps.all (· ∈ offStack) = true) : KeepsStackLaws s (event act s) :=
  event_unseen (k.stackView hp)

theorem answer_keeps {kind : Byte} {f : Frame} {a : Answer} (h : Runs s a.state) :
    KeepsStackLaws s (answer kind f a) := by
  have k : KeepsStackLaws s (conclude a.state) := (conclude_runs h).keeps fun _ => conclude_notices _
  unfold answer
  dsimp only
  exact .ite k (k.after (stackView_modLink _ _ _) (modLink_notices _ _ _))

/-- A frame keeps the laws when the block that performs its request makes moves alone. -/
theorem takeFrame_keeps {kind : Byte} {f : Frame} {check : State → Option Status} {perform : State → Answer}
    (k : ∀ t, Runs t (perform t).state) : KeepsStackLaws s (takeFrame kind f check perform s) := by
  have noted : Runs s (superviseFrame f.link s) := .of_eq (stackView_superviseFrame _ _)
  have concluded {t : State} (h : Runs s t) : KeepsStackLaws s (conclude t) :=
    (conclude_runs h).keeps fun _ => conclude_notices _
  unfold takeFrame
  dsimp only
  split
  · exact .refl s
  · refine .ite (.ite (concluded noted) (.ite (concluded ?_) ?_)) (.refl s)
    · exact noted.after ((setLinkError_frame _ _ _).stackView rfl)
    · split
      · exact answer_keeps noted
      · exact answer_keeps ((k _).before (stackView_superviseFrame _ _))

theorem takeFrame_unseen {kind : Byte} {f : Frame} {check : State → Option Status} {perform : State → Answer}
    (k : ∀ t, stackView (perform t).state = stackView t) : KeepsStackLaws s (takeFrame kind f check perform s) :=
  takeFrame_keeps fun t => .of_eq (k t)

theorem takeFrame_off {kind : Byte} {f : Frame} {check : State → Option Status} {perform : State → Answer}
    {ps : List Part} (k : ∀ t, SameBut ps t (perform t).state) (hp : ps.all (· ∈ offStack) = true) :
    KeepsStackLaws s (takeFrame kind f check perform s) :=
  takeFrame_unseen fun t => (k t).stackView hp

theorem takeFrame_stacks {kind : Byte} {f : Frame} {check : State → Option Status} {perform : State → Answer}
    (k : ∀ t, Stacks t (perform t).state) : KeepsStackLaws s (takeFrame kind f check perform s) :=
  takeFrame_keeps fun t => (k t).runs

end Keeps

/-! ### Requests, by the part of their owning block -/

section Requests

variable (fr : Frame) (s : State)

theorem operateFeeder_stacks : Stacks s (operateFeeder fr s).state := by
  unfold operateFeeder
  split
  · split
    · exact .refl s
    · split
      next => exact .refl s
      next e => exact stacks_of_operate (.refl s) e
  · exact .refl s

theorem shed_stacks : Stacks s (shed fr s).state := by
  unfold shed
  split
  · exact .refl s
  next named hn =>
    dsimp only
    split
    · exact .refl s
    · refine manualShed_stacks (.refl s) _ ((shedFeeders_nodup hn).filter _) fun f hf => ?_
      exact of_decide_eq_true (List.mem_filter.mp hf).2

/-- A request on an entry makes moves alone when the kind's own rule does for an entry other than the header. -/
theorem onEntry_stacks {fr : Frame} {s : State} {act : Nat → Entry → Answer}
    (k : ∀ pos e, s.rst.entries[pos]? = some e → e.isHeader = false → Stacks s (act pos e).state) :
    Stacks s (onEntry fr s act).state := by
  unfold onEntry
  dsimp only
  split
  · exact .refl s
  · exact .refl s
  · exact .refl s
  next e he =>
    split
    · exact .refl s
    next hh =>
      refine k _ e ?_ (by simpa using hh)
      unfold entryCheck at he
      repeat' split at he
      all_goals cases he
      assumption

theorem restoreEntry_stacks : Stacks s (restoreEntry fr s).state := by
  refine onEntry_stacks fun pos e _ _ => ?_
  have requested : stackView (modEntry pos (fun e => { e with requested := true }) s) = stackView s :=
    stackView_modEntry pos fun _ => rfl
  repeat' split
  · exact .refl s
  · exact .refl s
  · exact .refl s
  · exact restorerTurn_stacks (.of_eq ((stackView_journal _ _ _ _).trans requested))

theorem holdEntry_stacks : Stacks s (holdEntry fr s).state := by
  refine onEntry_stacks fun pos e _ _ => .ite (.refl s) ?_
  have held : Stacks s (journal .entryHeld e.tag.toNat fr.link.code
      (modEntry pos (fun e => { e with hold := true, requested := false }) s)) :=
    .of_eq ((stackView_journal _ _ _ _).trans (stackView_modEntry pos fun _ => rfl))
  exact .ite (restorerTurn_stacks held) held

theorem releaseEntry_stacks : Stacks s (releaseEntry fr s).state := by
  refine onEntry_stacks fun pos e _ _ => .ite (restorerTurn_stacks ?_) (.refl s)
  have released : stackView (modEntry pos (fun e => { e with hold := false }) s) = stackView s :=
    stackView_modEntry pos fun _ => rfl
  exact .of_eq ((stackView_journal _ _ _ _).trans released)

/-- DISCARD_ENTRY takes an entry out that is not the header (R110). -/
theorem discardEntry_stacks : Stacks s (discardEntry fr s).state := by
  refine onEntry_stacks fun pos e he hh => restorerTurn_stacks ?_
  obtain ⟨hpos, rfl⟩ := List.getElem?_eq_some_iff.mp he
  unfold removeEntry
  refine Stacks.after (.move (.refl s) ?_) (stackView_emitStack _)
  have hv : (stackView s).entries = (s.rst.entries.take pos).map Entry.outline
      ++ (s.rst.entries[pos]).outline :: (s.rst.entries.drop (pos + 1)).map Entry.outline := by
    rw [← List.map_cons, ← List.drop_eq_getElem_cons hpos, ← List.map_append, List.take_append_drop]
    rfl
  have e : stackView (modRst (fun r => { r with entries := r.entries.eraseIdx pos })
        (journal .entryRemoved (s.rst.entries[pos]).tag.toNat 1 s))
      = { stackView s with entries := (s.rst.entries.take pos).map Entry.outline
            ++ (s.rst.entries.drop (pos + 1)).map Entry.outline } := by
    simp [stackView, List.eraseIdx_eq_take_drop_succ]
  rw [e]
  exact .discards hv hh

theorem stackView_modeChange (m : Mode) (l : Link) : stackView (modeChange m l s) = stackView s := by
  unfold modeChange
  rw [stackView_emit fun _ => rfl, stackView_journal, stackView_modLnk]

theorem stackView_setMode : stackView (setMode fr s).state = stackView s := by
  unfold setMode
  split
  · rfl
  · simp [reply, stackView_modeChange]

theorem stackView_startGenset : stackView (startGenset fr s).state = stackView s := by
  unfold startGenset
  split
  · rfl
  next g _ =>
    have k := stackView_startSet s g .host
    split
    next e => rw [e] at k; exact k
    next => rfl

theorem stackView_stopGenset : stackView (stopGenset fr s).state = stackView s := by
  unfold stopGenset
  split
  · rfl
  · split
    · exact stackView_stopSet s _ _ _
    · rfl

theorem stackView_resetLockoutRequest : stackView (resetLockoutRequest fr s).state = stackView s := by
  unfold resetLockoutRequest
  split
  · rfl
  · split
    · exact stackView_resetLockout s _
    · rfl

theorem setPvCeiling_frame : SameBut [.settings, .cur] s (setPvCeiling fr s).state := by
  unfold setPvCeiling
  split
  · exact SameBut.refl _ s
  · simp [reply, ceilingWritten, writeChannel]

theorem stackView_measure : stackView (measure fr s).state = stackView s := by
  unfold measure
  split
  · rfl
  · exact stackView_applyMeasure s _

theorem blkBegin_runs : Runs s (blkBegin s).state := by
  unfold blkBegin
  split
  · exact beginRun_runs (.refl s) .begin
  · exact .refl s

theorem blkHold_runs : Runs s (blkHold s).state := by
  have manual : Runs s (modRun (fun r => { r with holdManual := true }) s) := .of_eq (stackView_modRun _ _)
  unfold blkHold
  split
  next running => exact enterHeld_runs manual (active_of_running running) 2
  next => exact manual
  next => exact .refl s

theorem blkResume_runs : Runs s (blkResume s).state := by
  have cleared : Runs s (modRun (fun r => { r with holdManual := false }) s) := .of_eq (stackView_modRun _ _)
  unfold blkResume
  split
  next c =>
    obtain ⟨held, -⟩ := c
    have active : (modRun (fun r => { r with holdManual := false }) s).blk.state.active = true :=
      (congrArg BlkState.active held).trans rfl
    exact .ite cleared (resumeRun_runs cleared active)
  next => exact .refl s

theorem blkAbort_runs : Runs s (blkAbort s).state := by
  unfold blkAbort
  split
  next active => exact attemptFail_runs (.refl s) active 5
  next => exact .refl s

theorem blkAck_runs : Runs s (blkAck s).state := by
  unfold blkAck
  split
  next failed => exact (blkToIdle_runs (.refl s) (by rw [failed]; rfl)).after (stackView_journal _ _ _ _)
  next => exact .refl s

/-- A BLACKSTART request keeps the laws when the rule of its code makes moves alone (Table 10-5). -/
theorem blackstart_keeps (code : Nat) {act : State → Answer} (k : ∀ t, Runs t (act t).state) :
    KeepsStackLaws s (blackstart code fr act s) := by
  unfold blackstart request
  refine takeFrame_keeps fun t => ?_
  split
  · exact k t
  · exact .refl t

theorem feederWritten_stacks (f : Fin 16) (t : FeederSettings) : Stacks s (feederWritten f t s) := by
  have taken : stackView (feederTaken f t s) = stackView s := stackView_modFeeder rfl
  have lined : Stacks s (feederLined f t s) :=
    .ite (.of_eq taken) (.of_eq ((stackView_lineRestyle _ _).trans taken))
  rw [feederWritten_eq]
  exact .ite lined (feederServiceChange_stacks lined f)

theorem configureFeeder_stacks : Stacks s (configureFeeder fr s).state := by
  unfold configureFeeder
  split
  · exact .refl s
  · exact feederWritten_stacks s _ _

theorem stackView_whenChanged (b : Bool) {act : State → State} (h : ∀ s, stackView (act s) = stackView s) :
    stackView (whenChanged b act s) = stackView s := by
  unfold whenChanged
  split
  · exact h s
  · rfl

theorem stackView_linesRestyled (old : Settings) : stackView (linesRestyled old s) = stackView s :=
  stackView_foldl s (fun s f => by rw [stackView_ite, stackView_lineRestyle, ite_self]) _

theorem stackView_nominalTaken : stackView (nominalTaken s) = stackView s := stackView_nominalChanged _

theorem stackView_systemWritten (t : SystemSettings) : stackView (systemWritten t s) = stackView s := by
  unfold systemWritten systemChanged
  dsimp only
  rw [stackView_whenChanged _ _ fun s => (supervisionChanged_frame s).stackView rfl,
    stackView_whenChanged _ _ stackView_recomputeShares, stackView_whenChanged _ _ stackView_evalDispatch,
    stackView_whenChanged _ _ stackView_pointsGoStale, stackView_linesRestyled,
    stackView_whenChanged _ _ stackView_nominalTaken]
  rfl

theorem stackView_configureSystem : stackView (configureSystem fr s).state = stackView s := by
  unfold configureSystem
  split
  · rfl
  · split
    · rfl
    · exact stackView_systemWritten s _

theorem stackView_setWritten (g : Fin 4) (t : SetSettings) : stackView (setWritten g t s) = stackView s := by
  unfold setWritten
  dsimp only
  rw [stackView_whenChanged _ _ stackView_recomputeShares, stackView_whenChanged _ _ stackView_evalDispatch,
    stackView_whenChanged _ _ fun s => stackView_setServiceChange s g, stackView_reclampSet, stackView_ite,
    stackView_modSet, ite_self]
  rfl

theorem stackView_configureGenset : stackView (configureGenset fr s).state = stackView s := by
  unfold configureGenset
  repeat' split
  · rfl
  · rfl
  · exact stackView_setWritten s _ _
  · rfl

theorem stackView_configurePv : stackView (configurePv fr s).state = stackView s := by
  unfold configurePv
  split
  · rfl
  next j _ =>
    exact ((pvConfigured_frame j s _).stackView rfl).trans
      ((stackView_reclampChannel _ j).trans ((writeChannel_frame j _ s).stackView rfl))

theorem configureStages_frame : SameBut [.settings, .shd] s (configureStages fr s).state := by
  unfold configureStages
  split
  · exact SameBut.refl _ s
  · exact stagesWritten_frame _ s

theorem configureInput_frame : SameBut [.settings, .inputs] s (configureInput fr s).state := by
  unfold configureInput
  split
  · exact inputWritten_frame _ _ s
  · exact SameBut.refl _ s

theorem configurePlan_frame : SameBut [.settings] s (configurePlan fr s).state := by
  unfold configurePlan
  split
  · split
    · exact SameBut.refl _ s
    · simp [reply, planWritten]
  · exact SameBut.refl _ s

theorem configureDirectory_frame : SameBut [.settings] s (configureDirectory fr s).state := by
  unfold configureDirectory
  split
  · simp [reply]
  · exact SameBut.refl _ s

theorem stackView_marksCleared : stackView (marksCleared s) = stackView s := by simp [stackView, marksCleared]

end Requests

/-! ### Resets and debounced changes -/

section Resets

variable (s : State)

/-- A reset leaves an empty stack, the sequencer in IDLE or CONFIRMING, and no notice (R90, R175). -/
theorem initialise_empty (kind : ResetKind) (mode : Mode) :
    (initialise kind mode s).rst.entries = [] ∧ (initialise kind mode s).blk.state.active = false
      ∧ (initialise kind mode s).notices = [] := by
  rw [initialise_eq]
  split <;> exact ⟨rfl, rfl, rfl⟩

/-- The blocks have initialised, and EVR has reported since. -/
theorem keeps_of_initialise {kind : ResetKind} {mode : Mode} {z t : State}
    (k : SameBut [.evr] (initialise kind mode z) t) : KeepsStackLaws s t := by
  obtain ⟨entries, blk, notices⟩ := initialise_empty z kind mode
  exact keeps_of_empty s (by rw [k.rst (by decide), entries]) (by rw [k.blk (by decide), blk])
    (by rw [k.notices (by decide), notices])

theorem powerOn_keeps : KeepsStackLaws s (powerOn s) := keeps_of_empty s rfl rfl rfl

theorem loadEnds_keeps (image : List Byte) : KeepsStackLaws s (loadEnds image s) := by
  cases h : loadImage image with
  | inl t =>
    rw [loadEnds_accepted h]
    exact keeps_of_initialise s (driveAlerts_frame _)
  | inr reason =>
    rw [loadEnds_rejected h]
    exact keeps_of_initialise s ((reportDefaulted_frame _ _).trans (driveAlerts_frame _))

theorem softReset_keeps : KeepsStackLaws s (softReset s) := keeps_of_initialise s (driveAlerts_frame _)

theorem deliverInput_stacks (i : Fin 32) (level : Bool) : Stacks s (deliverInput i level s) := by
  unfold deliverInput
  dsimp only
  repeat' split
  · exact feederStatusChange_stacks (.refl s) _ level
  · exact .of_eq (stackView_readyChange s _ _)
  · exact .of_eq (stackView_runningChange s _ _)
  · exact .of_eq (stackView_breakerChange s _ _)
  · exact .of_eq ((locationChange_frame level s).stackView rfl)
  · exact .refl s

theorem debouncedTo_stacks (i : Fin 32) (level : Bool) : Stacks s (debouncedTo i level s) :=
  .ite (.refl s) ((Stacks.of_eq (stackView_modInput _ _ _)).trans (deliverInput_stacks _ i level))

theorem stackView_pulseEnds (f : Fin 16) : stackView (pulseEnds f s) = stackView s := by
  unfold pulseEnds
  split
  · exact stackView_modFeeder rfl
  · rfl

end Resets

/-! ### A step -/

section Step

variable {s : State}

/-- The commands that concern a reset, and the events of the blocks, keep the laws of the stack. -/
theorem exec_event_keeps {c : Instr} (hc : requestOf c = none) : ∃ t, exec c s = .next t ∧ KeepsStackLaws s t := by
  have r := Runs.refl s
  have m := Stacks.refl s
  cases c with
  | powerOnReset => exact ⟨_, rfl, powerOn_keeps s⟩
  | settingsLoadEnd image =>
    refine ⟨_, rfl, ?_⟩
    split
    · exact loadEnds_keeps s image
    · exact .refl s
  | softReset =>
    refine ⟨_, rfl, ?_⟩
    split
    · exact .refl s
    · exact .ite (softReset_keeps s) (.refl s)
  | debouncedChange i level => exact ⟨_, rfl, event_keeps (debouncedTo_stacks s i level).runs⟩
  | operateTimerExpiry f => exact ⟨_, rfl, event_keeps (operateTimerExpires_stacks m f).runs⟩
  | restoreDelayExpiry => exact ⟨_, rfl, event_keeps (restoreDelayExpires_stacks m).runs⟩
  | intervalTimerExpiry => exact ⟨_, rfl, event_keeps (intervalExpires_stacks m).runs⟩
  | confirmationTimerExpiry => exact ⟨_, rfl, event_keeps (confirmExpires_runs r)⟩
  | stepTimerExpiry => exact ⟨_, rfl, event_keeps (stepTimerExpires_runs r)⟩
  | waitTimerExpiry => exact ⟨_, rfl, event_keeps (waitTimerExpires_runs r)⟩
  | unknownKind kind f => exact ⟨_, rfl, takeFrame_unseen fun _ => rfl⟩
  | pulseEnd f => exact ⟨_, rfl, event_unseen (stackView_pulseEnds s f)⟩
  | crossing => exact ⟨_, rfl, event_unseen (stackView_crossingArrives s)⟩
  | deadBusTimerExpiry => exact ⟨_, rfl, event_unseen (stackView_deadBusExpires s)⟩
  | pointsBecomeStale => exact ⟨_, rfl, event_unseen (stackView_staleTick s)⟩
  | startDelayTimerExpiry => exact ⟨_, rfl, event_unseen (stackView_startDelayExpires s)⟩
  | runtimeTenthHour g => exact ⟨_, rfl, event_unseen rfl⟩
  | crankOnTimeExpiry g => exact ⟨_, rfl, event_unseen (stackView_crankOnTimeExpires s g)⟩
  | crankRestExpiry g => exact ⟨_, rfl, event_unseen (stackView_crankRestExpires s g)⟩
  | runUpExpiry g => exact ⟨_, rfl, event_unseen (by simp [runUpExpires])⟩
  | syncTimeout g => exact ⟨_, rfl, event_unseen (by simp [syncTimesOut])⟩
  | unloadTimeout g => exact ⟨_, rfl, event_unseen (by simp [unloadTimesOut])⟩
  | cooldownExpiry g => exact ⟨_, rfl, event_unseen (by simp [cooldownExpires])⟩
  | lowReserveTimerExpiry => exact ⟨_, rfl, event_unseen (stackView_lowReserveExpires s)⟩
  | stopTimerExpiry => exact ⟨_, rfl, event_unseen (stackView_stopTimerExpires s)⟩
  | holdoffTimerExpiry => exact ⟨_, rfl, event_off (holdoffExpires_frame s) rfl⟩
  | creditItemExpiry f => exact ⟨_, rfl, event_off (creditExpires_frame f s) rfl⟩
  | rampTick => exact ⟨_, rfl, event_off (rampTickStep_frame s) rfl⟩
  | pwmPeriodStart j => exact ⟨_, rfl, event_off (pwmStart_frame j s) rfl⟩
  | pwmActiveLevelEnd j => exact ⟨_, rfl, event_off (pwmActiveEnds_frame j s) rfl⟩
  | lengthError l => exact ⟨_, rfl, event_off (discardFrame_frame .length l s) rfl⟩
  | checkError l => exact ⟨_, rfl, event_off (discardFrame_frame .check l s) rfl⟩
  | gapError l => exact ⟨_, rfl, event_off (discardFrame_frame .gap l s) rfl⟩
  | replyTransmitted l => exact ⟨_, rfl, event_off (replyDone_frame l s) rfl⟩
  | supervisionTimerExpiry => exact ⟨_, rfl, event_off (supervisionExpires_frame s) rfl⟩
  | storeWriteEnd readBack => exact ⟨_, rfl, event_off (storeEnds_frame readBack s) rfl⟩
  | _ => exact absurd hc (by simp [requestOf])

/-- The queries, those with side effects, and MEASURE keep the laws of the stack. -/
theorem exec_query_keeps {c : Instr} {kind : Byte} {f : Frame} {ok : Bool}
    (hc : requestOf c = some (kind, .either, f, ok)) : ∃ t, exec c s = .next t ∧ KeepsStackLaws s t := by
  have plain {kind : Byte} {f : Frame} {body : State → List Byte} : KeepsStackLaws s (plainQuery kind f body s) :=
    takeFrame_unseen fun _ => rfl
  cases c with
  | identify f => exact ⟨_, rfl, plain⟩
  | getStatus f => exact ⟨_, rfl, plain⟩
  | readFrequency f => exact ⟨_, rfl, plain⟩
  | readPv f => exact ⟨_, rfl, plain⟩
  | readStack f => exact ⟨_, rfl, plain⟩
  | readEvents f => exact ⟨_, rfl, plain⟩
  | peekInputs f => exact ⟨_, rfl, plain⟩
  | readFeeders f => exact ⟨_, rfl, takeFrame_unseen fun t => by rw [readFeeders_state]⟩
  | readGensets f => exact ⟨_, rfl, takeFrame_unseen fun t => by rw [readGensets_state]⟩
  | readConfig f => exact ⟨_, rfl, takeFrame_unseen fun t => by rw [readConfig_state]⟩
  | readJournal f => exact ⟨_, rfl, takeFrame_off (readJournal_frame f) rfl⟩
  | readInputs f => exact ⟨_, rfl, takeFrame_off inputsRead_frame rfl⟩
  | collectMarks f => exact ⟨_, rfl, takeFrame_unseen stackView_marksCleared⟩
  | measure f => exact ⟨_, rfl, takeFrame_unseen (stackView_measure f)⟩
  | _ => exact absurd hc (by simp [requestOf])

/-- The operating requests keep the laws of the stack. -/
theorem exec_operate_keeps {c : Instr} {kind : Byte} {f : Frame} {ok : Bool}
    (hc : requestOf c = some (kind, .operate, f, ok)) : ∃ t, exec c s = .next t ∧ KeepsStackLaws s t := by
  cases c with
  | operateFeeder f => exact ⟨_, rfl, takeFrame_stacks (operateFeeder_stacks f)⟩
  | shed f => exact ⟨_, rfl, takeFrame_stacks (shed_stacks f)⟩
  | restoreEntry f => exact ⟨_, rfl, takeFrame_stacks (restoreEntry_stacks f)⟩
  | holdEntry f => exact ⟨_, rfl, takeFrame_stacks (holdEntry_stacks f)⟩
  | releaseEntry f => exact ⟨_, rfl, takeFrame_stacks (releaseEntry_stacks f)⟩
  | discardEntry f => exact ⟨_, rfl, takeFrame_stacks (discardEntry_stacks f)⟩
  | blackstartBegin f => exact ⟨_, rfl, blackstart_keeps f s 0 blkBegin_runs⟩
  | blackstartHold f => exact ⟨_, rfl, blackstart_keeps f s 1 blkHold_runs⟩
  | blackstartResume f => exact ⟨_, rfl, blackstart_keeps f s 2 blkResume_runs⟩
  | blackstartAbort f => exact ⟨_, rfl, blackstart_keeps f s 3 blkAbort_runs⟩
  | blackstartAck f => exact ⟨_, rfl, blackstart_keeps f s 4 blkAck_runs⟩
  | startGenset f => exact ⟨_, rfl, takeFrame_unseen (stackView_startGenset f)⟩
  | stopGenset f => exact ⟨_, rfl, takeFrame_unseen (stackView_stopGenset f)⟩
  | resetLockout f => exact ⟨_, rfl, takeFrame_unseen (stackView_resetLockoutRequest f)⟩
  | setMode f => exact ⟨_, rfl, takeFrame_unseen (stackView_setMode f)⟩
  | setPvCeiling f => exact ⟨_, rfl, takeFrame_off (setPvCeiling_frame f) rfl⟩
  | clearEvents f => exact ⟨_, rfl, takeFrame_off (clearEvents_frame f) rfl⟩
  | setEventMask f => exact ⟨_, rfl, takeFrame_off (setEventMask_frame f) rfl⟩
  | clearLinkErrors f => exact ⟨_, rfl, takeFrame_off (clearLinkErrors_frame f) rfl⟩
  | reset f => exact ⟨_, rfl, takeFrame_unseen fun _ => rfl⟩
  | _ => exact absurd hc (by simp [requestOf])

/-- The configuring requests keep the laws of the stack. -/
theorem exec_configure_keeps {c : Instr} {kind : Byte} {f : Frame} {ok : Bool}
    (hc : requestOf c = some (kind, .configure, f, ok)) : ∃ t, exec c s = .next t ∧ KeepsStackLaws s t := by
  cases c with
  | configureFeeder f => exact ⟨_, rfl, takeFrame_stacks (configureFeeder_stacks f)⟩
  | configureSystem f => exact ⟨_, rfl, takeFrame_unseen (stackView_configureSystem f)⟩
  | configureGenset f => exact ⟨_, rfl, takeFrame_unseen (stackView_configureGenset f)⟩
  | configurePv f => exact ⟨_, rfl, takeFrame_unseen (stackView_configurePv f)⟩
  | configureStages f => exact ⟨_, rfl, takeFrame_off (configureStages_frame f) rfl⟩
  | configureInput f => exact ⟨_, rfl, takeFrame_off (configureInput_frame f) rfl⟩
  | configurePlan f => exact ⟨_, rfl, takeFrame_off (configurePlan_frame f) rfl⟩
  | configureDirectory f => exact ⟨_, rfl, takeFrame_off (configureDirectory_frame f) rfl⟩
  | storeSettings f => exact ⟨_, rfl, takeFrame_off (storeSettings_frame f) rfl⟩
  | _ => exact absurd hc (by simp [requestOf])

theorem exec_keeps (c : Instr) (s : State) : ∃ t, exec c s = .next t ∧ KeepsStackLaws s t := by
  cases hc : requestOf c with
  | none => exact exec_event_keeps hc
  | some r =>
    obtain ⟨kind, group, f, ok⟩ := r
    cases group with
    | either => exact exec_query_keeps hc
    | operate => exact exec_operate_keeps hc
    | configure => exact exec_configure_keeps hc

/-- A tick of the reference moves timers, and no feeder's state. -/
theorem referenceTick_keeps (s : State) : KeepsStackLaws s (referenceTick s) := by
  have begun : stackView (millisecondBegun s) = stackView s := rfl
  rcases referenceTick_cases s with e | e | e <;> rw [e]
  · exact (KeepsStackLaws.refl s).after rfl rfl
  · exact (KeepsStackLaws.refl s).after begun rfl
  · refine (KeepsStackLaws.refl s).after ?_ ?_
    · rw [← begun, blocksTick_eq]
      simp [stackView, FeederCtl.tick]
    · rw [blocksTick_eq]
      rfl

theorem idle_keeps (s : State) : KeepsStackLaws s (idle s) := by
  have r := KeepsStackLaws.refl s
  unfold idle
  dsimp only
  split
  · exact referenceTick_keeps s
  · exact r.after rfl rfl
  · exact r.after rfl rfl
  next l _ => exact keeps_of_frame ((takeByte_frame l s).widen [.lnk, .pending, .draws] rfl |>.trans
      ((drawn_frame _).widen _ rfl)) rfl

theorem step_keeps {t : State} (h : step s = .next t) : KeepsStackLaws s t := by
  unfold step at h
  split at h
  next c rest _ =>
    obtain ⟨u, hu, listing, stack⟩ := exec_keeps c { s with pending := rest }
    have waiting : KeepsStackLaws s { s with pending := rest } := (KeepsStackLaws.refl s).after rfl rfl
    rw [hu] at h
    cases h
    exact ⟨fun k => listing (waiting.listing k), fun k => stack (waiting.stack k)⟩
  next =>
    cases h
    exact idle_keeps s

end Step

/-- Settles O16: every step is made of moves of the stack and of the sequencer, or of a reset, and all keep the laws. -/
theorem everyStepKeepsTheStackLaw : Obligations.EveryStepKeepsTheStackLaw :=
  ⟨fun _ _ k h => (step_keeps h).stack k, fun _ _ k h => (step_keeps h).listing k⟩

end Sys2Proof.Machine

/-! ## Pushes onto the restore stack -/

namespace Sys2Proof.Machine

/-! ### The restore delay timer (R101) -/

theorem delayConditions_iff (s : State) :
    delayConditions s = true ↔
      s.lnk.mode = .auto ∧ s.fmon.bus = .live ∧ presentInBand s = true ∧ stageCountStands s = false := by
  simp [delayConditions, and_assoc]

theorem delayConditions_congr {s t : State} {ps : List Part} (h : SameBut ps s t)
    (hp : [Part.lnk, .fmon, .settings, .shd].all (· ∉ ps) = true) : delayConditions t = delayConditions s := by
  have free {p : Part} (k : p ∈ [Part.lnk, .fmon, .settings, .shd]) : p ∉ ps := by
    simpa using List.all_eq_true.mp hp p k
  unfold delayConditions presentInBand presentFreq inBand fNom stageCountStands
  rw [h.lnk (free (by simp)), h.fmon (free (by simp)), h.settings (free (by simp)), h.shd (free (by simp))]

/-- The news of the stack, after a state that holds the same notices. -/
theorem StackAnnounced.congr {s s' t : State} (h : StackAnnounced s t) (k : s'.notices = s.notices) :
    StackAnnounced s' t := by
  unfold StackAnnounced
  rwa [k]

/-! ### The entry that a push places (R94, R95) -/

section Pushes

variable {s : State} (kind : EntryKind) (v : Int) (f : Nat) (items : List StackItem)

theorem entryPushed_frame (s : State) : SameBut [.rst, .evr] s (entryPushed kind v f items s) := by
  simp [entryPushed]

/-- A push gives the next tag and leaves the timers of the stack (R94, R95). -/
theorem entryPushed_rst (s : State) :
    (entryPushed kind v f items s).rst =
      { s.rst with nextTag := s.rst.nextTag + 1, entries := (entryPushed kind v f items s).rst.entries } := by
  unfold entryPushed
  split <;> simp [pushEntry, mergeTop, tagGiven, modEntry]

theorem entryPushed_of_lt (h : s.rst.entries.length < 8) :
    entryPushed kind v f items s = pushEntry kind v f items s := if_pos h

theorem entryPushed_of_le (h : 8 ≤ s.rst.entries.length) :
    entryPushed kind v f items s = mergeTop kind v f items s := if_neg (Nat.not_lt.mpr h)

theorem mergeTop_evr (s : State) :
    (mergeTop kind v f items s).evr =
      (journal .stackMerged s.rst.nextTag.toNat items.length (setProt .stackMerged s)).evr :=
  journal_evr_congr _ _ _ (setProt_evr_congr _ rfl) rfl

/-- What a push leaves before the restorer has its turn: BLK and GEN know of it, and the delay has restarted. -/
def pushed (s : State) : State := emitStack (restartDelay (entryPushed kind v f items s))

theorem pushed_rst (s : State) :
    (pushed kind v f items s).rst =
      { (entryPushed kind v f items s).rst with
        delay := if delayConditions s then .running (1000 * s.settings.sys.restoreDelayS)
          else .paused (1000 * s.settings.sys.restoreDelayS) } := by
  have fr := entryPushed_frame kind v f items s
  rw [pushed, (emitStack_frame _).rst (by decide), restartDelay, modRst_rst, delayConditions_congr fr (by decide),
    fr.settings (by decide)]

theorem pushed_announced (s : State) : StackAnnounced s (pushed kind v f items s) := by
  have fr : SameBut [.rst, .evr] s (restartDelay (entryPushed kind v f items s)) := by simp [entryPushed]
  exact (emitStack_announced (restartDelay (entryPushed kind v f items s))).congr (fr.notices (by decide)).symm

theorem pushed_evr (s : State) : (pushed kind v f items s).evr = (entryPushed kind v f items s).evr := by
  rw [pushed, (emitStack_frame _).evr (by decide), (restartDelay_frame _).evr (by decide)]

theorem pushed_frame (s : State) : SameBut [.rst, .evr, .notices, .draws] s (pushed kind v f items s) := by
  simp [pushed, entryPushed]

end Pushes

/-- Settles O35, by the two cases of the entry that a push places. -/
theorem pushJoinsOrMergesAtTheTop : Obligations.PushJoinsOrMergesAtTheTop := by
  intro kind v f items s
  have rst := (pushed_rst kind v f items s).trans (by rw [entryPushed_rst])
  refine ⟨pushed kind v f items s, rfl, by rw [rst], ?_, by rw [rst], by rw [rst],
    pushed_announced kind v f items s, pushed_frame kind v f items s, fun room => ?_, fun below top hs full => ?_⟩
  · simp only [rst, delayConditions_iff]
  · rw [pushed_rst, pushed_evr, entryPushed_of_lt _ _ _ _ room]
    exact ⟨rfl, rfl⟩
  · have h8 : 8 ≤ s.rst.entries.length := by simp [hs, full]
    rw [pushed_rst, pushed_evr, entryPushed_of_le _ _ _ _ h8]
    exact ⟨mergeTop_entries hs kind v f items, mergeTop_evr kind v f items s⟩

end Sys2Proof.Machine

/-! ## The restore stack at its timers and notices -/

namespace Sys2Proof.Machine

/-! ### The start-delay timer (R105) -/

section StartDelay

variable {s : State} {x : StackItem}

theorem startDelayExpires_of_episode (running : s.rst.startDelay.isRunning = true) (stands : episodeStands s = true)
    (due : dueItem s = some x) :
    startDelayExpires s =
      modRst (fun r => { r with startDelay := .running (1000 * s.settings.sys.restoreStartDelayS) })
        (journal .restoreStartDemand x.feeder (spinningReserve s) (serveDemand 3 s)) := by
  have settings := (serveDemand_frame 3 s).settings (by decide)
  simp only [startDelayExpires, running, stands, due, Bool.and_self, if_true, journal_settings, settings]

end StartDelay

/-! ### The entry into DEAD (R111) -/

section Discard

variable {s : State}

/-- With the header alone, or an empty stack, the entry into DEAD idles the timers and no more. -/
theorem discardAtDead_of_bare (h : ∀ e ∈ s.rst.entries, e.isHeader = true) :
    discardAtDead s = modRst (fun r => { r with delay := .idle, interval := .idle, startDelay := .idle }) s := by
  have none : entriesAboveHeader s = 0 := by
    refine List.countP_eq_zero.mpr fun e he => ?_
    simp [h e he]
  simp only [discardAtDead, none, if_true]

/-- An entry above the header is discarded at the entry into DEAD. -/
theorem discardAtDead_of_entry (h : ∃ e ∈ s.rst.entries, e.isHeader = false) :
    discardAtDead s = modRst (fun r => { r with delay := .idle, interval := .idle, startDelay := .idle })
      (emitDiscard (modRst (fun r => { r with entries := r.entries.filter Entry.isHeader })
        (journal .stackDiscarded 0 (entriesAboveHeader s) s))) := by
  obtain ⟨e, he, hh⟩ := h
  have some : entriesAboveHeader s ≠ 0 := by
    refine Nat.pos_iff_ne_zero.mp (List.countP_pos_iff.mpr ⟨e, he, ?_⟩)
    simp [hh]
  simp only [discardAtDead, some, if_false]

theorem discardAtDead_rst (s : State) :
    (discardAtDead s).rst =
      { s.rst with
        entries := s.rst.entries.filter Entry.isHeader, delay := .idle, interval := .idle, startDelay := .idle } := by
  by_cases h : ∀ e ∈ s.rst.entries, e.isHeader = true
  · rw [discardAtDead_of_bare h, List.filter_eq_self.mpr h, modRst_rst]
  · have some : ∃ e ∈ s.rst.entries, e.isHeader = false := by simpa using h
    rw [discardAtDead_of_entry some, modRst_rst, (emitDiscard_frame _).rst (by decide), modRst_rst, journal_rst]

/-- The discard adds its record, and BLK and GEN are told in some order among the notices that wait (R111, R171). -/
theorem discardAtDead_told (h : ∃ e ∈ s.rst.entries, e.isHeader = false) :
    (discardAtDead s).evr = (journal .stackDiscarded 0 (s.rst.entries.countP fun e => !e.isHeader) s).evr
      ∧ (discardAtDead s).notices.Perm (.stack .blk :: .stack .gen :: s.notices)
      ∧ s.notices.Sublist (discardAtDead s).notices := by
  rw [discardAtDead_of_entry h, modRst_evr, modRst_notices, (emitDiscard_frame _).evr (by decide), modRst_evr]
  have told := emitDiscard_announced (modRst (fun r => { r with entries := r.entries.filter Entry.isHeader })
    (journal .stackDiscarded 0 (entriesAboveHeader s) s))
  rw [modRst_notices, journal_notices] at told
  exact ⟨rfl, told⟩

end Discard

/-! ### Notices (R101, R102, R106, R111, R112) -/

section Notices

variable {s : State}

theorem testDelay_eq (s : State) :
    testDelay s =
      { s with rst := { s.rst with
          delay := if s.lnk.mode = .auto ∧ s.fmon.bus = .live ∧ presentInBand s = true ∧ stageCountStands s = false
            then s.rst.delay.resume else s.rst.delay.pause } } := by
  simp only [testDelay, delayConditions_iff, modRst]

theorem rstOnBus_dead {n : BusNotice} (reset : n.reset = false) (dead : n.bus = .dead) (entered : n.prev ≠ .dead) :
    rstOnBus n s = discardAtDead s := by
  simp [rstOnBus, reset, dead, entered]

theorem rstOnBus_other {n : BusNotice} (reset : n.reset = false) (other : n.bus ≠ .dead ∨ n.prev = .dead) :
    rstOnBus n s = if n.value.isSome ∨ n.bus ≠ n.prev then restorerTurn (testDelay s) else testDelay s := by
  have stays : ¬ (n.bus = .dead ∧ n.prev ≠ .dead) := by tauto
  simp [rstOnBus, reset, stays]

theorem rstOnFeeder_of_turn {f : Fin 16} {turn : Bool}
    (h : turn = true ∨ ∃ x, dueItem s = some x ∧ x.feeder = f) : rstOnFeeder f turn s = restorerTurn s :=
  if_pos (by simpa [Option.any_eq_true] using h)

theorem rstOnFeeder_of_not_turn {f : Fin 16} {turn : Bool} (ht : turn = false)
    (h : ∀ x, dueItem s = some x → x.feeder ≠ f) : rstOnFeeder f turn s = s :=
  if_neg (by simpa [ht, Option.any_eq_false] using h)

end Notices

/-- Settles O37, expiry by expiry and notice by notice. -/
theorem restoreTimersExpire : Obligations.RestoreTimersExpire := by
  refine ⟨fun s phase running => ?_, fun s phase running => ?_, fun s x phase running stands due => ?_, fun s => ?_⟩
  · exact next_congr ((event_running phase).trans (congrArg conclude (if_pos running)))
  · exact next_congr ((event_running phase).trans (congrArg conclude (if_pos running)))
  · have fr := serveDemand_frame 3 s
    refine ⟨startDelayExpires s, next_congr (event_running phase), ?_⟩
    rw [startDelayExpires_of_episode running stands due]
    refine ⟨?_, ?_, modRst_evr _ _, ?_⟩
    · rw [modRst_rst, journal_rst, fr.rst (by decide)]
    · rw [modRst_gen, journal_gen]
    · simp [fr.widen [.rst, .gen, .evr, .notices, .draws] (by decide)]
  · refine ⟨fun n reset => ⟨fun ⟨dead, entered⟩ => ?_, fun other => ?_⟩, fun m => ?_, fun names => ⟨rfl, rfl⟩,
      fun f before after cause origin turn => ⟨fun h => rstOnFeeder_of_turn h, fun ht h => rstOnFeeder_of_not_turn ht h⟩⟩
    · have taken : deliver (.bus .rst n) s = discardAtDead s := rstOnBus_dead reset dead entered
      rw [taken]
      refine ⟨discardAtDead_rst s, fun bare => ?_, discardAtDead_told, ?_⟩
      · rw [discardAtDead_of_bare bare]
        exact ⟨rfl, rfl⟩
      · exact discardAtDead_frame s
    · rw [← testDelay_eq]
      exact rstOnBus_other reset other
    · rw [← testDelay_eq]
      rfl

end Sys2Proof.Machine

/-! ## Requests on the entries of the restore stack -/

namespace Sys2Proof.Machine

/-! ### The entry checks (section 6.5) -/

section Checks

variable {fr : Frame} {s : State} {act : Nat → Entry → Answer} {e : Entry}

theorem onEntry_of_gt (h : 7 < fr.byte 0) : onEntry fr s act = refuse .badIndex s := by
  simp only [onEntry, entryCheck, h, if_true]

theorem onEntry_of_empty (hp : fr.byte 0 ≤ 7) (h : s.rst.entries = []) :
    onEntry fr s act = refuse .stackEmpty s := by
  simp [onEntry, entryCheck, Nat.not_lt.mpr hp, h]

theorem onEntry_of_le (hs : s.rst.entries ≠ []) (h : s.rst.entries.length ≤ fr.byte 0) :
    onEntry fr s act = refuse .badIndex s := by
  by_cases hp : 7 < fr.byte 0
  · exact onEntry_of_gt hp
  · simp [onEntry, entryCheck, hp, hs, List.getElem?_eq_none h]

theorem onEntry_of_getElem? (hp : fr.byte 0 ≤ 7) (he : s.rst.entries[fr.byte 0]? = some e) :
    onEntry fr s act =
      if fr.byte 1 = e.tag.toNat then (if e.isHeader then refuse .wrongState s else act (fr.byte 0) e)
      else reply .stale (fun _ => leBytes 1 (fr.byte 0) ++ [e.tag]) s := by
  have hs : s.rst.entries ≠ [] := fun hs => by simp [hs] at he
  by_cases ht : fr.byte 1 = e.tag.toNat
  · simp [onEntry, entryCheck, Nat.not_lt.mpr hp, hs, he, ht]
  · simp [onEntry, entryCheck, Nat.not_lt.mpr hp, hs, he, ht, Ne.symm ht]

end Checks

/-- The frame names the entry `e` that stands at `pos`, and it is not the header. -/
structure NamesEntry (fr : Frame) (pos : Nat) (e : Entry) (s : State) : Prop where
  byte : fr.byte 0 = pos
  le : pos ≤ 7
  stands : s.rst.entries[pos]? = some e
  tag : fr.byte 1 = e.tag.toNat
  plain : e.isHeader = false

/-! ### What each request does to the entry that it names (R107 to R110) -/

section Requests

variable {fr : Frame} {pos : Nat} {e : Entry} {s : State}

theorem NamesEntry.congr {t : State} (n : NamesEntry fr pos e s) (h : t.rst = s.rst) : NamesEntry fr pos e t :=
  { n with stands := h ▸ n.stands }

theorem NamesEntry.onEntry (n : NamesEntry fr pos e s) (act : Nat → Entry → Answer) :
    onEntry fr s act = act pos e := by
  obtain ⟨rfl, le, stands, tag, plain⟩ := n
  rw [onEntry_of_getElem? le stands, if_pos tag, if_neg (by simp [plain])]

theorem NamesEntry.modEntry_rst (n : NamesEntry fr pos e s) (h : Entry → Entry) :
    (modEntry pos h s).rst = { s.rst with entries := s.rst.entries.set pos (h e) } := by
  rw [modEntry, modRst_rst, List.modify_eq_set_getElem?, n.stands]
  rfl

/-- What an update of the named entry with its record leaves (R107, R109, log 11). -/
theorem NamesEntry.noted (n : NamesEntry fr pos e s) (k : JournalKind) (h : Entry → Entry) (o : Nat) (v : Int) :
    (journal k o v (modEntry pos h s)).rst = { s.rst with entries := s.rst.entries.set pos (h e) }
      ∧ (journal k o v (modEntry pos h s)).evr = (journal k o v s).evr
      ∧ SameBut [.rst, .evr] s (journal k o v (modEntry pos h s)) :=
  ⟨(journal_rst _ _ _ _).trans (n.modEntry_rst h), journal_evr_congr _ _ _ rfl rfl, by simp⟩

theorem restoreEntry_of_requested (n : NamesEntry fr pos e s) (h : ∃ d ∈ s.rst.entries, d.requested = true) :
    restoreEntry fr s = refuse .wrongState s :=
  (n.onEntry _).trans (if_pos (List.any_eq_true.mpr h))

theorem restoreEntry_of_held (n : NamesEntry fr pos e s) (h : ∀ d ∈ s.rst.entries, d.requested = false)
    (held : e.hold = true) : restoreEntry fr s = refuse .held s :=
  (n.onEntry _).trans ((if_neg (by simpa using h)).trans (if_pos held))

theorem restoreEntry_of_not_live (n : NamesEntry fr pos e s) (h : ∀ d ∈ s.rst.entries, d.requested = false)
    (held : e.hold = false) (bus : s.fmon.bus ≠ .live) : restoreEntry fr s = refuse .noBus s :=
  (n.onEntry _).trans ((if_neg (by simpa using h)).trans ((if_neg (by simp [held])).trans (if_pos bus)))

/-- What RESTORE_ENTRY leaves before the restorer has its turn (R107). -/
def entryRequestedIn (fr : Frame) (pos : Nat) (e : Entry) (s : State) : State :=
  journal .restoreRequested e.tag.toNat fr.link.code (modEntry pos (fun e => { e with requested := true }) s)

theorem restoreEntry_of_live (n : NamesEntry fr pos e s) (h : ∀ d ∈ s.rst.entries, d.requested = false)
    (held : e.hold = false) (bus : s.fmon.bus = .live) :
    restoreEntry fr s = reply .ok (entryPlace pos e) (restorerTurn (entryRequestedIn fr pos e s)) :=
  (n.onEntry _).trans
    ((if_neg (by simpa using h)).trans ((if_neg (by simp [held])).trans (if_neg (not_not.mpr bus))))

/-- What HOLD_ENTRY leaves before the restorer has a turn (R109). -/
def entryHeldIn (fr : Frame) (pos : Nat) (e : Entry) (s : State) : State :=
  journal .entryHeld e.tag.toNat fr.link.code (modEntry pos (fun e => { e with hold := true, requested := false }) s)

theorem holdEntry_of_held (n : NamesEntry fr pos e s) (h : e.hold = true) :
    holdEntry fr s = reply .ok (entryPlace pos e) s :=
  (n.onEntry _).trans (congrArg _ (if_pos h))

theorem holdEntry_of_free (n : NamesEntry fr pos e s) (h : e.hold = false) :
    holdEntry fr s = reply .ok (entryPlace pos e)
      (if pos + 1 = s.rst.entries.length ∨ e.requested = true then restorerTurn (entryHeldIn fr pos e s)
        else entryHeldIn fr pos e s) := by
  refine (n.onEntry _).trans (congrArg _ ((if_neg (by simp [h])).trans ?_))
  simp [heldAt, entryHeldIn, or_comm]

theorem releaseEntry_of_free (n : NamesEntry fr pos e s) (h : e.hold = false) :
    releaseEntry fr s = reply .ok (entryPlace pos e) s :=
  (n.onEntry _).trans (congrArg _ (if_neg (by simp [h])))

/-- What RELEASE_ENTRY leaves of a held entry before the restorer has its turn (R109). -/
def entryReleasedIn (fr : Frame) (pos : Nat) (e : Entry) (s : State) : State :=
  journal .entryReleased e.tag.toNat fr.link.code (modEntry pos (fun e => { e with hold := false }) s)

theorem releaseEntry_of_held (n : NamesEntry fr pos e s) (h : e.hold = true) :
    releaseEntry fr s = reply .ok (entryPlace pos e) (restorerTurn (entryReleasedIn fr pos e s)) :=
  (n.onEntry _).trans (congrArg _ (if_pos h))

/-- What DISCARD_ENTRY leaves before the restorer has its turn (R110). -/
def entryDiscardedIn (pos : Nat) (e : Entry) (s : State) : State :=
  removeEntry pos (journal .entryRemoved e.tag.toNat 1 s)

theorem discardEntry_of_names (n : NamesEntry fr pos e s) :
    discardEntry fr s =
      reply .ok (fun _ => [BitVec.ofNat 8 pos, e.tag]) (restorerTurn (entryDiscardedIn pos e s)) :=
  n.onEntry _

/-- The entry has gone with its record, and BLK and GEN learn of it (R110, R171). -/
theorem entryDiscardedIn_gone (pos : Nat) (e : Entry) (s : State) :
    (entryDiscardedIn pos e s).rst = { s.rst with entries := s.rst.entries.eraseIdx pos }
      ∧ (entryDiscardedIn pos e s).evr = (journal .entryRemoved e.tag.toNat 1 s).evr
      ∧ StackAnnounced s (entryDiscardedIn pos e s)
      ∧ SameBut [.rst, .evr, .notices, .draws] s (entryDiscardedIn pos e s) := by
  refine ⟨?_, ?_, ?_, by simp [entryDiscardedIn]⟩
  · rw [entryDiscardedIn, removeEntry, (emitStack_frame _).rst (by decide), modRst_rst, journal_rst]
  · rw [entryDiscardedIn, (removeEntry_frame _ _).evr (by decide)]
  · refine StackAnnounced.congr (emitStack_announced _) ?_
    rw [modRst_notices, journal_notices]

end Requests

/-! ### The requests as commands -/

section Commands

variable {fr : Frame} {s : State}

/-- The four requests on entries are the entry checks and a rule of their own each. -/
theorem exec_onEntry {c : Instr} {kind : Byte}
    (h : (c, kind) ∈ [(Instr.restoreEntry fr, (0x22 : Byte)), (.holdEntry fr, 0x23), (.releaseEntry fr, 0x24),
      (.discardEntry fr, 0x25)]) :
    ∃ act : State → Nat → Entry → Answer, ∀ s, exec c s =
      .next (request kind .operate fr (fr.len == 2) (fun t => onEntry fr t (act t)) s) := by
  simp only [List.mem_cons, Prod.mk.injEq, List.not_mem_nil, or_false] at h
  rcases h with ⟨rfl, rfl⟩ | ⟨rfl, rfl⟩ | ⟨rfl, rfl⟩ | ⟨rfl, rfl⟩ <;> exact ⟨_, fun _ => rfl⟩

/-- A request that fails an entry check is refused, whichever of the four it is (section 6.5). -/
theorem exec_refused_of_check {c : Instr} {kind : Byte} (acc : Accepts .operate fr (fr.len == 2) s)
    (hc : (c, kind) ∈ [(Instr.restoreEntry fr, (0x22 : Byte)), (.holdEntry fr, 0x23), (.releaseEntry fr, 0x24),
      (.discardEntry fr, 0x25)]) {st : Status} {body : List Byte}
    (h : ∀ act : Nat → Entry → Answer, onEntry fr (superviseFrame fr.link s) act = reply st (fun _ => body) (superviseFrame fr.link s)) :
    exec c s = .next (withReply kind fr st body (conclude (superviseFrame fr.link s))) := by
  obtain ⟨act, hact⟩ := exec_onEntry hc
  rw [hact]
  exact next_congr (request_performed (body := fun _ => body) acc (h _))

end Commands

/-- Settles O38: the rule of each request on the entry that it names, and the entry checks for the four of them. -/
theorem entryRequestsActOnTheNamedEntry : Obligations.EntryRequestsActOnTheNamedEntry := by
  refine ⟨fun fr pos e s acc byte le stands tag plain => ?_, fun c kind fr s acc hc => ?_⟩
  · have rst : (superviseFrame fr.link s).rst = s.rst := (superviseFrame_frame _ _).rst (by decide)
    have n : NamesEntry fr pos e (superviseFrame fr.link s) :=
      NamesEntry.congr ⟨byte, le, stands, tag, plain⟩ rst
    have fmon := superviseFrame_fmon (l := fr.link) (s := s)
    rw [← rst, ← fmon]
    refine ⟨fun req => ?_, fun req held => ?_, fun req held bus => ?_, fun held req bus => ?_, fun held => ?_,
      fun held => ?_, fun held => ?_, fun held => ?_, ?_⟩
    · exact next_congr (request_refused acc (restoreEntry_of_requested n req))
    · exact next_congr (request_refused acc (restoreEntry_of_held n req held))
    · exact next_congr (request_refused acc (restoreEntry_of_not_live n req held bus))
    · exact ⟨entryRequestedIn fr pos e _, next_congr (request_performed acc (restoreEntry_of_live n req held bus)),
        n.noted _ _ _ _⟩
    · refine ⟨entryHeldIn fr pos e _, fun turn => ?_, fun top req => ?_, n.noted _ _ _ _⟩
      · exact next_congr (request_performed acc ((holdEntry_of_free n held).trans (congrArg _ (if_pos turn))))
      · exact next_congr (request_performed acc ((holdEntry_of_free n held).trans
          (congrArg _ (if_neg (by simp only [top, req, Bool.false_eq_true, or_self, not_false_eq_true])))))
    · exact next_congr (request_performed acc (holdEntry_of_held n held))
    · exact ⟨entryReleasedIn fr pos e _, next_congr (request_performed acc (releaseEntry_of_held n held)),
        n.noted _ _ _ _⟩
    · exact next_congr (request_performed acc (releaseEntry_of_free n held))
    · exact ⟨entryDiscardedIn pos e _, next_congr (request_performed acc (discardEntry_of_names n)),
        entryDiscardedIn_gone _ _ _⟩
  · have rst : (superviseFrame fr.link s).rst = s.rst := (superviseFrame_frame _ _).rst (by decide)
    rw [← rst]
    refine ⟨fun gt => ?_, fun le empty => ?_, fun some le => ?_, fun e le he => ⟨fun tag => ?_, fun tag header => ?_⟩⟩
    · exact exec_refused_of_check acc hc fun act => onEntry_of_gt gt
    · exact exec_refused_of_check acc hc fun act => onEntry_of_empty le empty
    · exact exec_refused_of_check acc hc fun act => onEntry_of_le some le
    · exact exec_refused_of_check acc hc fun act => (onEntry_of_getElem? le he).trans (if_neg tag)
    · exact exec_refused_of_check acc hc fun act =>
        (onEntry_of_getElem? le he).trans ((if_pos tag).trans (if_pos header))

end Sys2Proof.Machine

/-! ## The restorer and its due feeder -/

namespace Sys2Proof.Machine

/-! ### No blocked episode (R105) -/

/-- The state with the start-delay timer of a blocked episode idle. -/
def calmed (s : State) : State := { s with rst := { s.rst with startDelay := .idle } }

section Calm

variable {s : State}

theorem unblocked_map {l : List Entry} (h : ∀ d ∈ l, d.blocked = false) :
    l.map (fun e => { e with blocked := false }) = l := by
  refine (List.map_congr_left fun d hd => ?_).trans (List.map_id l)
  rw [← h d hd]
  rfl

theorem endEpisode_of_unblocked (h : ∀ d ∈ s.rst.entries, d.blocked = false) : endEpisode s = calmed s := by
  simp only [endEpisode, modRst, unblocked_map h, calmed]

/-- Without a blocked entry there is no episode to keep, whatever the target. -/
theorem keepEpisode_of_unblocked (h : ∀ d ∈ s.rst.entries, d.blocked = false) : keepEpisode s = calmed s := by
  unfold keepEpisode
  rw [endEpisode_of_unblocked h]
  split
  next i _ =>
    split
    next e he => exact if_neg (by simp [h e (List.mem_of_getElem? he)])
    next => rfl
  next => rfl

theorem episodeStands_eq_false (h : ∀ d ∈ s.rst.entries, d.blocked = false) : episodeStands s = false := by
  simpa [episodeStands] using h

/-- Where none stands, an episode begins with its report, on the entry at the position (R105). -/
theorem beginEpisode_of_unblocked (h : ∀ d ∈ s.rst.entries, d.blocked = false) (i : Nat) (f : Fin 16) :
    beginEpisode i f s =
      modRst (fun r => { r with startDelay := .running (1000 * s.settings.sys.restoreStartDelayS) })
        (modEntry i (fun e => { e with blocked := true })
          (journal .restoreBlocked f (spinningReserve s) (setAdv .restoreBlocked s))) := by
  have none := episodeStands_eq_false h
  simp only [beginEpisode, none, Bool.false_eq_true, if_false, modEntry, modRst_settings, journal_settings,
    setAdv_settings]

end Calm

/-! ### What the restorer does on a verdict (R103, R104) -/

/-- What the restorer does with the due item `x` of the entry at `i`; `n` bounds the examinations that follow a skip. -/
def carryOut (n i : Nat) (x : StackItem) : Verdict → State → State
  | .wait, s => s
  | .blocked, s => beginEpisode i x.feeder s
  | .skip code, s => examine n (skipItem x code s)
  | .close, s => restoreClose i x s

/-- The verdict on the due item `x`, by the restorer's target (R103, R108). -/
def verdictFor (r : RestTarget) (s : State) (x : StackItem) : Verdict :=
  match r with
  | .requested _ => verdictRequested s x
  | _ => verdictAuto s x

section Verdicts

variable {s : State} {i : Nat} {x : StackItem}

/-- A turn with a due item is what the restorer does on the verdict for its target. -/
theorem examine_due {r : RestTarget} (calm : ∀ d ∈ s.rst.entries, d.blocked = false) (idle : s.rst.interval = .idle)
    (target : restTarget s = r) (pos : r.pos = some i) (due : dueItem s = some x) (n : Nat) :
    examine (n + 1) s = carryOut n i x (verdictFor r s x) (calmed s) := by
  have target' : restTarget (calmed s) = r := target
  have due' : dueItem (calmed s) = some x := due
  have idle' : (calmed s).rst.interval.isRunning = false := by simp [calmed, idle, Timer.isRunning]
  have verdict : verdictFor r (calmed s) x = verdictFor r s x := by cases r <;> rfl
  rw [← verdict]
  simp only [examine, keepEpisode_of_unblocked calm, idle', target', due', pos, Bool.false_eq_true, if_false]
  cases r <;> dsimp only [verdictFor] <;> split <;> simp only [carryOut, *]

theorem isFailed_iff (s : State) (f : Fin 16) :
    isFailed s f = true ↔ s.feeders[f].state = .failed .trip ∨ s.feeders[f].state = .failed .close := by
  unfold isFailed
  generalize s.feeders[f].state = a
  cases a with
  | failed dir => cases dir <;> simp
  | _ => simp

theorem isFailed_eq_false {f : Fin 16} {a : FeederState} (h : s.feeders[f].state = a) (ha : ∀ dir, a ≠ .failed dir) :
    isFailed s f = false := by
  rw [Bool.eq_false_iff, ne_eq, isFailed_iff, h]
  exact not_or.mpr ⟨ha _, ha _⟩

/-! The verdict on an item of an automatic target (R103, R104). -/

theorem verdictAuto_of_changed (k : s.feeders[x.feeder].generation ≠ x.generation) :
    verdictAuto s x = .skip 1 := if_pos k

theorem verdictAuto_of_inhibited (k : s.feeders[x.feeder].generation = x.generation)
    (i : s.settings.feeders[x.feeder].autoInhibit = true) : verdictAuto s x = .skip 2 :=
  (if_neg (not_not.mpr k)).trans (if_pos i)

theorem verdictAuto_of_failed (k : s.feeders[x.feeder].generation = x.generation)
    (i : ¬ s.settings.feeders[x.feeder].autoInhibit = true) (fl : isFailed s x.feeder = true) :
    verdictAuto s x = .skip 3 :=
  (if_neg (not_not.mpr k)).trans ((if_neg i).trans (if_pos fl))

theorem verdictAuto_of_opening (k : s.feeders[x.feeder].generation = x.generation)
    (i : ¬ s.settings.feeders[x.feeder].autoInhibit = true) (o : s.feeders[x.feeder].state = .opening) :
    verdictAuto s x = .wait := by
  have sound := isFailed_eq_false o (by simp)
  exact (if_neg (not_not.mpr k)).trans ((if_neg i).trans ((if_neg (by simp [sound])).trans (if_pos o)))

theorem verdictAuto_of_opened (k : s.feeders[x.feeder].generation = x.generation)
    (i : ¬ s.settings.feeders[x.feeder].autoInhibit = true) (o : s.feeders[x.feeder].state = .opened) :
    verdictAuto s x =
      if s.fmon.bus ≠ .live ∨ ¬ presentInBand s ∨ stageCountStands s then .wait
      else if spinningReserve s < x.snapshot + s.settings.sys.srMin then .blocked else .close := by
  have sound := isFailed_eq_false o (by simp)
  exact (if_neg (not_not.mpr k)).trans
    ((if_neg i).trans ((if_neg (by simp [sound])).trans (if_neg (by rw [o]; decide))))

/-! The verdict on an item of a requested target (R108). -/

theorem verdictRequested_of_changed (k : s.feeders[x.feeder].generation ≠ x.generation) :
    verdictRequested s x = .skip 1 := if_pos k

theorem verdictRequested_of_failed (k : s.feeders[x.feeder].generation = x.generation)
    (fl : isFailed s x.feeder = true) : verdictRequested s x = .skip 3 :=
  (if_neg (not_not.mpr k)).trans (if_pos fl)

theorem verdictRequested_of_opening (k : s.feeders[x.feeder].generation = x.generation)
    (o : s.feeders[x.feeder].state = .opening) : verdictRequested s x = .wait := by
  have sound := isFailed_eq_false o (by simp)
  exact (if_neg (not_not.mpr k)).trans ((if_neg (by simp [sound])).trans (if_pos o))

theorem verdictRequested_of_opened (k : s.feeders[x.feeder].generation = x.generation)
    (o : s.feeders[x.feeder].state = .opened) :
    verdictRequested s x = if s.fmon.bus ≠ .live then .wait else .close := by
  have sound := isFailed_eq_false o (by simp)
  exact (if_neg (not_not.mpr k)).trans ((if_neg (by simp [sound])).trans (if_neg (by rw [o]; decide)))

end Verdicts

/-! ### The due item and its entry (R97, R102) -/

/-- No interval runs and no episode stands, and `x` is the last item of the entry `e` with `below` and `above`. -/
structure DueEntry (s : State) (below above : List Entry) (e : Entry) (init : List StackItem) (x : StackItem) :
    Prop where
  listing : ListingLaw s
  idle : s.rst.interval = .idle
  entries : s.rst.entries = below ++ e :: above
  items : e.items = init ++ [x]
  calm : ∀ d ∈ s.rst.entries, d.blocked = false

section Due

variable {s : State} {below above : List Entry} {e : Entry} {init : List StackItem} {x : StackItem}

theorem DueEntry.getElem? (h : DueEntry s below above e init x) : s.rst.entries[below.length]? = some e := by
  simp [h.entries]

theorem DueEntry.dueItem (h : DueEntry s below above e init x) (target : (restTarget s).pos = some below.length) :
    dueItem s = some x := by
  simp [Machine.dueItem, target, h.getElem?, h.items]

/-- The top entry is the automatic target under the conditions of R102. -/
theorem DueEntry.automatic (h : DueEntry s below [] e init x) (mode : s.lnk.mode = .auto)
    (delay : s.rst.delay = .expired) (header : e.isHeader = false) (hold : e.hold = false)
    (free : ∀ d ∈ s.rst.entries, d.requested = false) : restTarget s = .automatic below.length := by
  have none : s.rst.entries.findIdx? (·.requested) = none := List.findIdx?_eq_none_iff.mpr free
  have top : topEntry s = some e := by simp [topEntry, h.entries]
  unfold restTarget
  rw [none, top]
  simp [mode, delay, header, hold, h.entries]

/-- The first requested entry is the requested target (R107). -/
theorem DueEntry.requested (h : DueEntry s below above e init x) (req : e.requested = true)
    (first : ∀ d ∈ below, d.requested = false) : restTarget s = .requested below.length := by
  have none : below.findIdx? (·.requested) = none := List.findIdx?_eq_none_iff.mpr first
  have found : s.rst.entries.findIdx? (·.requested) = some below.length := by
    simp [h.entries, List.findIdx?_append, none, List.findIdx?_cons, req]
  simp only [restTarget, found]

/-- No other entry lists the due feeder, and no other item of its entry does (R97). -/
theorem DueEntry.sole (h : DueEntry s below above e init x) :
    (∀ d ∈ below ++ above, d.lists x.feeder = false) ∧ ∀ y ∈ init, y.feeder ≠ x.feeder := by
  obtain ⟨⟨once, -⟩, -, entries, items, -⟩ := h
  rw [entries, List.flatMap_append, List.flatMap_cons, items] at once
  have others : ∀ d : Entry, d.lists x.feeder = true ↔ x.feeder ∈ d.items.map fun y => y.feeder := fun d => by
    simp [Entry.lists]
  constructor
  · intro d hd
    rw [Bool.eq_false_iff, ne_eq, others]
    grind
  · grind

theorem DueEntry.lists (h : DueEntry s below above e init x) : e.lists x.feeder = true := by
  simp [Entry.lists, h.items]

/-- When the due feeder leaves, its entry keeps the other items, and goes with its record when there are none. -/
theorem DueEntry.left {s' t : State} (h : DueEntry s below above e init x) {r : Bool}
    (hs : s'.rst.entries = below ++ { e with restoring := r } :: above) (k : LeftTheStack x.feeder s' t) :
    t.rst = { s'.rst with entries := t.rst.entries }
      ∧ (init = [] → t.rst.entries = below ++ above
          ∧ t.evr = (journal .entryRemoved e.tag.toNat 0 (setAdv .entryRestored s')).evr)
      ∧ (init ≠ [] → t.rst.entries = below ++ { e with restoring := r, items := init } :: above
          ∧ t.evr = s'.evr) := by
  obtain ⟨others, once⟩ := h.sole
  obtain ⟨below', above', e', hentries, -, hlists, hrst, hlast, hmore⟩ := k
  have notin : e' ∉ below ∧ e' ∉ above := by
    constructor <;> intro hmem
    · simpa [hlists] using others e' (List.mem_append_left _ hmem)
    · simpa [hlists] using others e' (List.mem_append_right _ hmem)
  obtain ⟨rfl, rfl, rfl⟩ := (List.append_cons_inj_of_notMem notin.1 notin.2).mp (hs.symm.trans hentries)
  have kept : e.items.filter (fun y => decide (y.feeder ≠ x.feeder)) = init := by
    rw [h.items, List.filter_append, List.filter_eq_self.mpr fun y hy => by simpa using once y hy]
    simp
  refine ⟨hrst, fun empty => hlast ?_, fun more => ?_⟩
  · simp [h.items, empty]
  · obtain ⟨y, hy⟩ := List.exists_mem_of_ne_nil init more
    obtain ⟨entries, evr⟩ := hmore ⟨y, by simp [h.items, hy], once y hy⟩
    dsimp only at entries
    rw [kept] at entries
    exact ⟨entries, evr⟩

theorem modify_length {α : Type} (below above : List α) (a : α) (h : α → α) :
    (below ++ a :: above).modify below.length h = below ++ h a :: above := by
  rw [List.modify_eq_take_cons_drop (by simp)]
  simp

/-! ### Skips (R104) -/

theorem DueEntry.skipItem_left (h : DueEntry s below above e init x) (code : Nat) :
    LeftTheStack x.feeder (journal .feederSkipped x.feeder code (calmed s)) (skipItem x code (calmed s)) := by
  refine unlist_left ?_
  have listed : listed s x.feeder = true := by
    simp [listed, h.entries, h.lists]
  rw [listed_congr (journal_rst _ _ _ _)]
  exact listed

/-- A skip takes one item out of the stack. -/
theorem DueEntry.skipItem_itemCount (h : DueEntry s below above e init x) (code : Nat) :
    itemCount s = itemCount (skipItem x code (calmed s)) + 1 := by
  have hs : (journal .feederSkipped x.feeder code (calmed s)).rst.entries
      = below ++ { e with restoring := e.restoring } :: above := by
    rw [journal_rst]
    exact h.entries
  obtain ⟨-, gone, stays⟩ := h.left hs (h.skipItem_left code)
  by_cases empty : init = []
  · obtain ⟨entries, -⟩ := gone empty
    simp [itemCount, entries, h.entries, h.items, empty]
    omega
  · obtain ⟨entries, -⟩ := stays empty
    simp [itemCount, entries, h.entries, h.items]
    omega

/-- The restorer examines its target again after a skip, with its whole turn. -/
theorem DueEntry.skips {u : State} {code : Nat} (h : DueEntry s below above e init x)
    (hu : u = carryOut (itemCount s) below.length x (.skip code) (calmed s)) :
    ∃ v, LeftTheStack x.feeder (journal .feederSkipped x.feeder code (calmed s)) v
      ∧ SameBut [.rst, .evr, .notices, .draws] s v ∧ u = restorerTurn v := by
  refine ⟨skipItem x code (calmed s), h.skipItem_left code, ?_, ?_⟩
  · have fr : SameBut [.rst] s (calmed s) := by simp [calmed]
    exact (fr.widen _ (by decide)).trans (skipItem_frame x code _)
  · rw [hu, carryOut, h.skipItem_itemCount code, restorerTurn]

/-! ### The close (R97, R98, R103) -/

/-- The feeder's entry is RESTORING and the record of the close is added. -/
def restoringNoted (i : Nat) (x : StackItem) (s : State) : State :=
  journal .feederRestored x.feeder x.snapshot (modEntry i (fun e => { e with restoring := true }) s)

theorem restoreClose_of_opened (h : s.feeders[x.feeder].state = .opened) (i : Nat) :
    restoreClose i x s =
      endEpisode (modRst (fun r => { r with interval := .running s.settings.sys.restoreIntervalMs })
        (beginOperation x.feeder true .restore (restoringNoted i x s))) := by
  have fr : SameBut [.rst, .evr] s (restoringNoted i x s) := by simp [restoringNoted]
  have opened : (restoringNoted i x s).feeders[x.feeder].state = .opened := fr.feeders (by decide) ▸ h
  have begun : operate x.feeder true .restore (restoringNoted i x s)
      = (beginOperation x.feeder true .restore (restoringNoted i x s), .taken) := operate_begins (Or.inl opened)
  have settings : (beginOperation x.feeder true .restore (restoringNoted i x s)).settings = s.settings :=
    ((beginOperation_frame _ _ _ _).settings (by decide)).trans (fr.settings (by decide))
  unfold restoringNoted at begun settings
  simp only [restoreClose, begun, settings]
  rfl

/-- What the close of the due feeder leaves (R103). -/
theorem DueEntry.closes {u : State} (h : DueEntry s below above e init x)
    (opened : s.feeders[x.feeder].state = .opened) (hu : u = restoreClose below.length x (calmed s)) :
    OperationBegun (effectiveStyle s.settings x.feeder) s.settings.feeders[x.feeder] true .restore
        s.feeders[x.feeder] u.feeders[x.feeder]
      ∧ (∀ k : Fin 16, k ≠ x.feeder → u.feeders[k] = s.feeders[k])
      ∧ u.rst.interval = .running s.settings.sys.restoreIntervalMs ∧ u.rst.startDelay = .idle
      ∧ (let noted := journal .feederRestored x.feeder x.snapshot s
         (init = [] → u.rst.entries = below ++ above
            ∧ u.evr = (journal .entryRemoved e.tag.toNat 0 (setAdv .entryRestored noted)).evr)
          ∧ (init ≠ [] → u.rst.entries = below ++ { e with restoring := true, items := init } :: above
              ∧ u.evr = noted.evr)) := by
  have fr : SameBut [.rst, .evr] s (restoringNoted below.length x (calmed s)) := by
    simp [restoringNoted, calmed]
  have evr : (restoringNoted below.length x (calmed s)).evr = (journal .feederRestored x.feeder x.snapshot s).evr :=
    journal_evr_congr _ _ _ rfl rfl
  have entries : (restoringNoted below.length x (calmed s)).rst.entries
      = below ++ { e with restoring := true } :: above := by
    rw [restoringNoted, journal_rst, modEntry, modRst_rst, calmed, h.entries, modify_length]
  rw [restoreClose_of_opened (s := calmed s) opened] at hu
  subst hu
  generalize restoringNoted below.length x (calmed s) = z at fr evr entries ⊢
  have feeders := fr.feeders (by decide)
  have settings := fr.settings (by decide)
  have time := fr.time (by decide)
  have z_opened : z.feeders[x.feeder].state = .opened := feeders ▸ opened
  obtain ⟨leaves, -⟩ := beginOperation_stackFollows (f := x.feeder) (closing := true) (o := .restore) (s := z)
    (by rw [z_opened]; decide)
  have listed : listed z x.feeder = true := by simp [listed, entries, Entry.lists, h.items]
  obtain ⟨-, gone, stays⟩ := h.left entries (leaves ⟨listed, rfl⟩)
  have begun := beginOperation_begun x.feeder true .restore z
  have other := fun k (hk : k ≠ x.feeder) => beginOperation_other true .restore z hk
  rw [feeders, settings] at begun
  rw [feeders] at other
  have unblocked : ∀ d ∈ below ++ above, d.blocked = false := fun d hd => h.calm d (by
    rw [h.entries]
    grind)
  have e_unblocked : e.blocked = false := h.calm e (by simp [h.entries])
  generalize beginOperation x.feeder true .restore z = t at gone stays begun other ⊢
  refine ⟨begun, other, rfl, rfl, fun empty => ?_, fun more => ?_⟩
  · obtain ⟨left, record⟩ := gone empty
    refine ⟨?_, record.trans (journal_evr_congr _ _ _ ?_ (by simp [time]))⟩
    · simp [endEpisode, left, unblocked_map unblocked]
    · simp [evr]
  · obtain ⟨left, record⟩ := stays more
    refine ⟨?_, record.trans evr⟩
    rw [endEpisode, modRst_rst, modRst_rst, left]
    refine unblocked_map fun d hd => ?_
    simp only [List.mem_append, List.mem_cons] at hd unblocked
    rcases hd with hd | rfl | hd
    · exact unblocked d (.inl hd)
    · exact e_unblocked
    · exact unblocked d (.inr hd)

/-! ### The blocked episode (R105) -/

/-- What the beginning of an episode leaves on the top entry. -/
theorem DueEntry.blocks {u : State} (h : DueEntry s below [] e init x)
    (hu : u = beginEpisode below.length x.feeder (calmed s)) :
    u.feeders = s.feeders
      ∧ u.rst =
          { s.rst with
            startDelay := .running (1000 * s.settings.sys.restoreStartDelayS)
            entries := below ++ [{ e with blocked := true }] }
      ∧ u.evr = (journal .restoreBlocked x.feeder (spinningReserve s) (setAdv .restoreBlocked s)).evr := by
  have unblocked : ∀ d ∈ (calmed s).rst.entries, d.blocked = false := h.calm
  rw [hu, beginEpisode_of_unblocked unblocked]
  refine ⟨?_, ?_, journal_evr_congr _ _ _ rfl rfl⟩
  · rw [modRst_feeders, modEntry, modRst_feeders, journal_feeders, setAdv_feeders, calmed]
  · rw [modRst_rst, modEntry, modRst_rst, journal_rst, setAdv_rst, calmed, h.entries, modify_length]

/-! ### The turn of the restorer -/

theorem DueEntry.turn {r : RestTarget} (h : DueEntry s below above e init x) (target : restTarget s = r)
    (pos : r.pos = some below.length) :
    restorerTurn s = carryOut (itemCount s) below.length x (verdictFor r s x) (calmed s) :=
  examine_due h.calm h.idle target pos (h.dueItem (target ▸ pos)) _

end Due

/-- Settles O36: the verdict on the due item, case by case of R103, R104 and R108, and what the restorer does on it. -/
theorem restorerClosesTheDueFeeder : Obligations.RestorerClosesTheDueFeeder := by
  intro s below above e init x listing idle entries items calm u calm_s f known inhibited failed skipped closed waits
  have due : DueEntry s below above e init x := ⟨listing, idle, entries, items, calm⟩
  constructor
  · rintro rfl mode delay header hold free
    have turn := due.turn (due.automatic mode delay header hold free) rfl
    have on {v : Verdict} (hv : verdictAuto s x = v) : u = carryOut (itemCount s) below.length x v (calmed s) :=
      hv ▸ turn
    refine ⟨fun k => due.skips (on (verdictAuto_of_changed k)), fun k i => due.skips (on (verdictAuto_of_inhibited k i)),
      fun k i fl => due.skips (on (verdictAuto_of_failed k i ((isFailed_iff s _).mpr fl))),
      fun k i o => on (v := .wait) (verdictAuto_of_opening k i o), fun k i o off => ?_,
      fun k i o live band counts => ?_⟩
    · exact on (v := .wait) ((verdictAuto_of_opened k i o).trans (if_pos (by simpa using off)))
    · have ready : ¬ (s.fmon.bus ≠ .live ∨ ¬ presentInBand s ∨ stageCountStands s) := by simp [live, band, counts]
      have verdict := (verdictAuto_of_opened k i o).trans (if_neg ready)
      refine ⟨fun enough => ?_, fun short => ?_⟩
      · exact due.closes o (on (v := .close) (verdict.trans (if_neg (not_lt.mpr enough))))
      · exact due.blocks (on (v := .blocked) (verdict.trans (if_pos short)))
  · intro req first
    have turn := due.turn (due.requested req first) rfl
    have on {v : Verdict} (hv : verdictRequested s x = v) : u = carryOut (itemCount s) below.length x v (calmed s) :=
      hv ▸ turn
    refine ⟨fun k => due.skips (on (verdictRequested_of_changed k)),
      fun k fl => due.skips (on (verdictRequested_of_failed k ((isFailed_iff s _).mpr fl))),
      fun k o => on (v := .wait) (verdictRequested_of_opening k o), fun k o bus => ?_, fun k o live => ?_⟩
    · exact on (v := .wait) ((verdictRequested_of_opened k o).trans (if_pos bus))
    · exact due.closes o (on (v := .close) ((verdictRequested_of_opened k o).trans (if_neg (not_not.mpr live))))

end Sys2Proof.Machine

/-! ## The lines of the sets at the end of an event -/

namespace Sys2Proof.Machine

/-! ### Each set's lines (R39, R117, R125, R129) -/

/-- What the end of an event makes of one set: the levels of Table 7-4 when it is driven, and DEAD_CLOSE by its four
conditions. -/
def endedSet (s : State) (g : Fin 4) : SetCtl :=
  { (if driven s g then setLevels s.fmon.bus s.gen.sets[g] else s.gen.sets[g]) with deadClose := deadCloseStands s g }

/-- The end of an event for one set alone. -/
def driveEnd (g : Fin 4) (s : State) : State :=
  modSet g (fun c => { c with deadClose := deadCloseStands s g }) (driveSet false g s)

section Ends

variable {s t : State} {g k : Fin 4}

theorem driveSets_eq (s : State) : driveSets s = (List.finRange 4).foldl (fun s g => driveEnd g s) s := rfl

theorem driveEnd_frame (g : Fin 4) (s : State) : SameBut [.gen] s (driveEnd g s) := by simp [driveEnd]

theorem driveEnd_self (g : Fin 4) (s : State) : (driveEnd g s).gen.sets[g] = endedSet s g := by
  rw [driveEnd, modSet_self, driveSet_self, Bool.false_or]
  rfl

theorem driveEnd_other (s : State) (h : k ≠ g) : (driveEnd g s).gen.sets[k] = s.gen.sets[k] := by
  rw [driveEnd, modSet_other _ _ h, driveSet_other false s h]

theorem driveEnd_gen (g : Fin 4) (s : State) : (driveEnd g s).gen = { s.gen with sets := (driveEnd g s).gen.sets } := by
  unfold driveEnd driveSet
  split <;> rfl

theorem driven_congr (hc : t.gen.sets[g].origin = s.gen.sets[g].origin) (hm : t.lnk.mode = s.lnk.mode) :
    driven t g = driven s g := by
  unfold driven
  rw [hc, hm]

theorem deadCloseStands_iff (s : State) (g : Fin 4) :
    deadCloseStands s g = true ↔
      s.gen.grant = some g ∧ s.gen.sets[g].state = .syncing ∧ s.fmon.bus = .dead ∧ s.blk.state = .running := by
  simp only [deadCloseStands, Bool.and_eq_true, decide_eq_true_eq, and_assoc]
  rfl

/-- What a set's lines depend on: its record, the grant, the mode, the bus and the sequencer. -/
theorem endedSet_congr (hc : t.gen.sets[g] = s.gen.sets[g]) (hg : t.gen.grant = s.gen.grant)
    (hf : SameBut [.gen] s t) : endedSet t g = endedSet s g := by
  have stands : deadCloseStands t g = deadCloseStands s g := by
    rw [Bool.eq_iff_iff, deadCloseStands_iff, deadCloseStands_iff, hc, hg, hf.fmon (by decide), hf.blk (by decide)]
  have hd : driven t g = driven s g := driven_congr (by rw [hc]) (by rw [hf.lnk (by decide)])
  simp only [endedSet, stands, hd, hc, hf.fmon (by decide)]

/-- The sets of a list take their lines, the others stand. -/
theorem driveEnd_foldl : ∀ (l : List (Fin 4)) (s : State), l.Nodup →
    (l.foldl (fun s g => driveEnd g s) s).gen = { s.gen with sets := (l.foldl (fun s g => driveEnd g s) s).gen.sets }
      ∧ ∀ g : Fin 4, (l.foldl (fun s g => driveEnd g s) s).gen.sets[g] = if g ∈ l then endedSet s g else s.gen.sets[g]
  | [], s, _ => ⟨rfl, fun _ => by simp⟩
  | k :: l, s, h => by
    obtain ⟨hk, hl⟩ := List.nodup_cons.mp h
    obtain ⟨hgen, hsets⟩ := driveEnd_foldl l (driveEnd k s) hl
    have gen := driveEnd_gen k s
    rw [List.foldl_cons]
    refine ⟨by rw [hgen, gen], fun g => ?_⟩
    rw [hsets g]
    by_cases e : g = k
    · subst e
      simp only [hk, if_false, List.mem_cons, true_or, if_true]
      exact driveEnd_self g s
    · simp only [List.mem_cons, e, false_or]
      split
      · exact endedSet_congr (driveEnd_other s e) (by rw [gen]) (driveEnd_frame k s)
      · exact driveEnd_other s e

theorem driveSets_gen (s : State) : (driveSets s).gen = { s.gen with sets := (driveSets s).gen.sets } :=
  (driveEnd_foldl _ s (List.nodup_finRange 4)).1

theorem driveSets_set (s : State) (g : Fin 4) : (driveSets s).gen.sets[g] = endedSet s g := by
  rw [driveSets_eq, (driveEnd_foldl _ s (List.nodup_finRange 4)).2 g, if_pos (List.mem_finRange g)]

theorem endedSet_state (s : State) (g : Fin 4) : (endedSet s g).state = s.gen.sets[g].state := by
  unfold endedSet
  split <;> rfl

/-- The alert lines concern EVR alone. -/
theorem conclude_gen (s : State) : (conclude s).gen = (driveSets (settle Config.settleFuel s)).gen :=
  (driveAlerts_frame _).gen (by decide)

theorem conclude_blk (s : State) : (conclude s).blk = (settle Config.settleFuel s).blk := by
  rw [conclude, (driveAlerts_frame _).blk (by decide), (driveSets_frame _).blk (by decide)]

/-! ### The delivery of an event's notices -/

/-- With no notice waiting there is nothing to deliver. -/
theorem settle_of_silent {fuel : Nat} (h : s.notices = []) : settle (fuel + 1) s = s := by
  simp only [settle, h]

theorem conclude_of_silent (h : s.notices = []) : conclude s = driveAlerts (driveSets s) := by
  rw [conclude, Config.settleFuel, settle_of_silent h]

end Ends

/-- Settles O17: the frame of the delivery, and what remains of it when no notice waits. -/
theorem deliveryReachesOnlyTheConsumers : Obligations.DeliveryReachesOnlyTheConsumers := by
  intro u
  refine ⟨conclude_frame u, conclude_notices u, fun silent => ?_⟩
  rw [conclude_of_silent silent]
  have alerts := driveAlerts_frame (driveSets u)
  have gen : (driveAlerts (driveSets u)).gen = (driveSets u).gen := alerts.gen (by decide)
  rw [gen]
  refine ⟨((driveSets_frame u).widen _ rfl).trans (alerts.widen _ rfl), ?_, fun g => ?_, driveSets_gen u⟩
  · obtain ⟨a, b, hevr⟩ := driveAlerts_evr (driveSets u)
    rw [hevr, (driveSets_frame u).evr (by decide)]
  · dsimp only
    rw [driveSets_set]
    unfold endedSet setLevels
    split <;> rfl

/-! ### The law of the dead-bus close (R125) -/

section DeadClose

variable {s t : State}

/-- The law is a matter of the sets, the grant, the bus and the sequencer. -/
theorem DeadCloseLaw.congr (h : DeadCloseLaw s) (hg : t.gen = s.gen) (hf : t.fmon = s.fmon) (hb : t.blk = s.blk) :
    DeadCloseLaw t := by
  unfold DeadCloseLaw
  rw [hg, hf, hb]
  exact h

/-- What leaves the dispatcher, the monitor and the sequencer alone keeps the law. -/
theorem DeadCloseLaw.after {ps : List Part} (h : DeadCloseLaw s) (k : SameBut ps s t)
    (hp : ps.all (· ∉ [Part.gen, .fmon, .blk]) = true) : DeadCloseLaw t := by
  have off (p : Part) (hq : p ∈ [Part.gen, .fmon, .blk]) : p ∉ ps := fun hm => by
    simpa [hq] using List.all_eq_true.mp hp p hm
  exact h.congr (k.gen (off _ (by decide))) (k.fmon (off _ (by decide))) (k.blk (off _ (by decide)))

/-- The end of every event gives DEAD_CLOSE its level by the four conditions, whatever stood before. -/
theorem conclude_deadClose (s : State) : DeadCloseLaw (conclude s) := by
  intro g
  have hfmon : (conclude s).fmon = (settle Config.settleFuel s).fmon := by
    rw [conclude, (driveAlerts_frame _).fmon (by decide), (driveSets_frame _).fmon (by decide)]
  rw [conclude_gen, conclude_blk, hfmon, driveSets_gen]
  dsimp only
  rw [driveSets_set, endedSet_state]
  exact deadCloseStands_iff _ g

/-- Without a grant, and with every DEAD_CLOSE released, the law holds. -/
theorem deadClose_of_released (hg : s.gen.grant = none) (hr : ∀ g : Fin 4, s.gen.sets[g].deadClose = false) :
    DeadCloseLaw s := fun g => by
  rw [hr g, hg]
  simp

theorem initialise_deadClose (kind : ResetKind) (mode : Mode) (s : State) : DeadCloseLaw (initialise kind mode s) := by
  have gen := (initialise_frame kind mode s).gen (by decide)
  refine deadClose_of_released (by rw [gen]; rfl) fun g => ?_
  rw [gen, blocksReset_set]

theorem loadEnds_deadClose (image : List Byte) (s : State) : DeadCloseLaw (loadEnds image s) := by
  cases h : loadImage image with
  | inl t =>
    rw [loadEnds_accepted h]
    exact (initialise_deadClose _ _ _).after (driveAlerts_frame _) rfl
  | inr reason =>
    rw [loadEnds_rejected h]
    exact (initialise_deadClose _ _ _).after ((reportDefaulted_frame _ _).trans (driveAlerts_frame _)) rfl

/-- A frame ends in the end of an event, or changes nothing. -/
theorem takeFrame_deadClose (h : DeadCloseLaw s) (kind : Byte) (f : Frame) (check : State → Option Status)
    (perform : State → Answer) : DeadCloseLaw (takeFrame kind f check perform s) := by
  have answered (a : Answer) : DeadCloseLaw (answer kind f a) := by
    have k := conclude_deadClose a.state
    unfold answer
    dsimp only
    split
    · exact k
    · exact k.after (modLink_frame _ _ _) rfl
  unfold takeFrame
  dsimp only
  repeat' split
  · exact h
  · exact conclude_deadClose _
  · exact conclude_deadClose _
  · exact answered _
  · exact answered _
  · exact h

theorem event_deadClose (h : DeadCloseLaw s) (act : State → State) : DeadCloseLaw (event act s) := by
  unfold event
  split
  · exact h
  · exact conclude_deadClose _

theorem exec_deadClose (c : Instr) (h : DeadCloseLaw s) : ∃ t, exec c s = .next t ∧ DeadCloseLaw t := by
  cases hc : requestOf c with
  | some r =>
    obtain ⟨perform, e⟩ := exec_request hc
    exact ⟨_, e s, takeFrame_deadClose h _ _ _ _⟩
  | none =>
    by_cases hp : c = .powerOnReset
    · exact ⟨powerOn s, hp ▸ rfl, deadClose_of_released rfl fun g => by simp [powerOn]⟩
    by_cases hs : c = .softReset
    · subst hs
      refine ⟨_, rfl, ?_⟩
      repeat' split
      · exact h
      · exact (initialise_deadClose _ _ _).after (driveAlerts_frame _) rfl
      · exact h
    by_cases hl : ∃ image, c = .settingsLoadEnd image
    · obtain ⟨image, rfl⟩ := hl
      refine ⟨_, rfl, ?_⟩
      split
      · exact loadEnds_deadClose image s
      · exact h
    by_cases hu : ∃ kind f, c = .unknownKind kind f
    · obtain ⟨kind, f, rfl⟩ := hu
      exact ⟨_, rfl, takeFrame_deadClose h _ _ _ _⟩
    obtain ⟨act, e⟩ := exec_event hc (fun kind f k => hu ⟨kind, f, k⟩) hp hs fun image k => hl ⟨image, k⟩
    exact ⟨_, e s, event_deadClose h act⟩

/-- A tick of the reference moves timers, and none of the four conditions (R125). -/
theorem referenceTick_deadClose (h : DeadCloseLaw s) : DeadCloseLaw (referenceTick s) := by
  have begun : DeadCloseLaw (millisecondBegun s) := h.congr rfl rfl rfl
  rcases referenceTick_cases s with e | e | e <;> rw [e]
  · exact h.congr rfl rfl rfl
  · exact begun
  · intro g
    rw [blocksTick_eq]
    simpa [SetCtl.tick] using begun g

theorem idle_deadClose (h : DeadCloseLaw s) : DeadCloseLaw (idle s) := by
  unfold idle
  dsimp only
  split
  · exact referenceTick_deadClose h
  · exact h.congr rfl rfl rfl
  · exact h.congr rfl rfl rfl
  next l _ => exact (h.after (takeByte_frame l s) rfl).congr rfl rfl rfl

end DeadClose

/-- Settles O12: every event ends by giving DEAD_CLOSE its level, a reset releases it, and time alone leaves it. -/
theorem everyStepKeepsTheDeadCloseLaw : Obligations.EveryStepKeepsTheDeadCloseLaw := by
  intro s t h hstep
  unfold step at hstep
  split at hstep
  next c rest _ =>
    obtain ⟨u, hu, law⟩ := exec_deadClose c (s := { s with pending := rest }) (h.congr rfl rfl rfl)
    rw [hu] at hstep
    cases hstep
    exact law
  next =>
    cases hstep
    exact idle_deadClose h

end Sys2Proof.Machine

/-! ## The laws of the crank permit and of the lines: what they see of the sets, and the events that they see -/

namespace Sys2Proof.Machine

/-! ### What the laws see (R117, R120, R129) -/

/-- The levels of CRANK, RUN, SYNC_PERMIT and OPEN_REQ. -/
structure SetLines where
  crank : Bool
  run : Bool
  syncPermit : Bool
  openReq : Bool

/-- What the laws see of a set: its state, its origin and its four lines. -/
structure SetOutline where
  state : SetState
  origin : SetOrigin
  lines : SetLines

/-- What the laws see of a set of the model. -/
def SetCtl.outline (c : SetCtl) : SetOutline := ⟨c.state, c.origin, ⟨c.crank, c.run, c.syncPermit, c.openReq⟩⟩

/-- The notice of a change to MONITOR, on its way to GEN (R129). -/
def Notice.isMonitorNotice : Notice → Bool
  | .mode .gen .monitor => true
  | _ => false

/-- What the laws see of the part: the sets, the crank permit and its queue, the mode, whether a run is in progress, and
whether GEN has still to take the notice of a change to MONITOR. -/
structure SetsView where
  sets : Fin 4 → SetOutline
  permit : Option (Fin 4)
  queue : List (Fin 4)
  mode : Mode
  active : Bool
  awaited : Bool

/-- What the laws see of a state of the model. -/
def setsView (s : State) : SetsView where
  sets g := s.gen.sets[g].outline
  permit := s.gen.permit
  queue := s.gen.queue
  mode := s.lnk.mode
  active := s.blk.state.active
  awaited := s.notices.any Notice.isMonitorNotice

/-! ### What a set's event does to what the laws see -/

/-- A set of this origin is driven in a mode (R129). -/
def SetOrigin.drives (m : Mode) (o : SetOrigin) : Bool :=
  decide (m = .auto) || decide (o = .host) || decide (o = .blackstart)

/-- The levels of Table 7-4. -/
def SetState.lines (bus : BusState) (st : SetState) : SetLines :=
  ⟨decide (st = .cranking), st.runs, decide (st = .syncing) && decide (bus = .live), decide (st = .unloading)⟩

/-- A set enters a state; its lines follow when it is driven (R116, R117). -/
def SetOutline.enter (drive : Bool) (bus : BusState) (new : SetState) (a : SetOutline) : SetOutline where
  state := new
  origin := if new = .standby ∨ new = .unavailable then .none else a.origin
  lines := if drive then new.lines bus else a.lines

namespace SetsView

/-- The view with another outline of one set. -/
def withSet (g : Fin 4) (a : SetOutline) (v : SetsView) : SetsView := { v with sets := Function.update v.sets g a }

/-- A set enters a state, driven by the event (`force`) or by its origin and the mode (R129). -/
def enter (bus : BusState) (force : Bool) (g : Fin 4) (new : SetState) (v : SetsView) : SetsView :=
  v.withSet g ((v.sets g).enter (force || (v.sets g).origin.drives v.mode) bus new)

/-- A set takes an origin (R119, R127). -/
def mark (g : Fin 4) (o : SetOrigin) (v : SetsView) : SetsView := v.withSet g { v.sets g with origin := o }

/-- A set leaves the queue and releases the permit (R120). -/
def leave (g : Fin 4) (v : SetsView) : SetsView :=
  { v with queue := v.queue.filter (· ≠ g), permit := if v.permit = some g then none else v.permit }

/-- A set joins the back of the queue (R120). -/
def join (g : Fin 4) (v : SetsView) : SetsView := { v with queue := v.queue ++ [g] }

/-- The head of the queue takes a free permit and cranks (R120). -/
def serve (bus : BusState) (v : SetsView) : SetsView :=
  match v.permit, v.queue with
  | none, g :: q => enter bus false g .cranking { v with permit := some g, queue := q }
  | _, _ => v

end SetsView

/-- The states whose sets the crank permit concerns: waiting for it, or holding it (R120). -/
def SetState.queues : SetState → Bool
  | .waitCrank => true
  | .cranking => true
  | _ => false

/-- One event of a set, as the laws see it; `force` says that the event drives the set's lines. -/
inductive SetEvent (force : Bool) (g : Fin 4) : SetsView → SetsView → Prop
  /-- A set outside the cranking states stands. -/
  | stays {v : SetsView} (hv : (v.sets g).state.atCrank = false) : SetEvent force g v v
  /-- A set that the permit does not concern enters another such state. -/
  | passes {v : SetsView} (bus : BusState) (new : SetState) (hv : (v.sets g).state.queues = false)
    (hn : new.atCrank = false) : SetEvent force g v (v.enter bus force g new)
  /-- A set leaves the permit and its queue, which serves the next one; only a cranking set comes to rest. -/
  | leaves {v : SetsView} (bus : BusState) (new : SetState)
    (hn : new.atCrank = false ∨ new = .crankRest ∧ (v.sets g).state = .cranking) :
    SetEvent force g v (((v.leave g).enter bus force g new).serve bus)
  /-- A set at the end of its rest joins the queue, or one in STANDBY that has been given an origin, in AUTO for an
  automatic start. -/
  | joins {v : SetsView} (bus : BusState) (hv : (v.sets g).state = .crankRest ∨ (v.sets g).state = .standby
      ∧ (v.sets g).origin ≠ .none ∧ ((v.sets g).origin = .auto → v.mode = .auto)) :
    SetEvent force g v (((v.enter bus force g .waitCrank).join g).serve bus)

/-! ### The laws on what they see -/

/-- The law of the crank permit (R120), but that the permit may be free while sets wait. -/
structure PermitOrder (v : SetsView) : Prop where
  holder : ∀ g, v.permit = some g ↔ (v.sets g).state = .cranking
  waiting : ∀ g, g ∈ v.queue ↔ (v.sets g).state = .waitCrank
  once : v.queue.Nodup

/-- The law of the crank permit (R120). -/
structure PermitLaw (v : SetsView) : Prop extends PermitOrder v where
  served : v.permit = none → v.queue = []

/-- The law of the CRANK line of one set in a mode (R120). While GEN has still to take the notice of a change to MONITOR
(`open_`), the line of a set that cranks with the origin AUTO is left out: GEN will abort its start (R129). -/
structure LineOk (m : Mode) (open_ : Bool) (a : SetOutline) : Prop where
  only : a.lines.crank = true → a.state = .cranking
  cranks : a.state = .cranking → ¬ (open_ = true ∧ a.origin = .auto) → a.lines.crank = true
  owned : a.state.atCrank = true → a.origin ≠ .none
  driven : m = .monitor → open_ = false → a.state.atCrank = true → a.origin ≠ .auto

/-- The law of the CRANK lines (R120). -/
def LineLaw (open_ : Bool) (v : SetsView) : Prop := ∀ g, LineOk v.mode open_ (v.sets g)

theorem crankLaw_iff_permitLaw (s : State) : CrankLaw s ↔ PermitLaw (setsView s) :=
  ⟨fun ⟨holder, waiting, once, served⟩ => ⟨⟨holder, waiting, once⟩, served⟩,
    fun ⟨⟨holder, waiting, once⟩, served⟩ => ⟨holder, waiting, once, served⟩⟩

theorem crankLineLaw_iff_lineLaw (s : State) : CrankLineLaw s ↔ s.notices = [] ∧ LineLaw false (setsView s) := by
  constructor
  · rintro ⟨settled, line, owned, driven⟩
    exact ⟨settled, fun g => ⟨(line g).mp, fun h _ => (line g).mpr h, owned g, fun m _ => driven m g⟩⟩
  · rintro ⟨settled, law⟩
    exact ⟨settled, fun g => ⟨(law g).only, fun h => (law g).cranks h (by simp)⟩, fun g => (law g).owned,
      fun m g => (law g).driven m rfl⟩

section Events

variable {v w : SetsView} {g k : Fin 4} {bus : BusState} {force open_ : Bool} {new : SetState} {o : SetOrigin}
  {m : Mode}

@[simp] theorem SetsView.withSet_self (a : SetOutline) : (v.withSet g a).sets g = a := Function.update_self ..

theorem SetsView.withSet_other (a : SetOutline) (h : k ≠ g) : (v.withSet g a).sets k = v.sets k :=
  Function.update_of_ne h ..

@[simp] theorem SetsView.mark_self : (v.mark g o).sets g = { v.sets g with origin := o } := Function.update_self ..

theorem SetsView.mark_other (h : k ≠ g) : (v.mark g o).sets k = v.sets k := Function.update_of_ne h ..

theorem SetsView.mark_own : v.mark g (v.sets g).origin = v := by
  simp [SetsView.mark, SetsView.withSet]

theorem SetsView.enter_self :
    (v.enter bus force g new).sets g = (v.sets g).enter (force || (v.sets g).origin.drives v.mode) bus new :=
  Function.update_self ..

theorem SetsView.enter_other (h : k ≠ g) : (v.enter bus force g new).sets k = v.sets k := Function.update_of_ne h ..

@[simp] theorem SetsView.enter_state : ((v.enter bus force g new).sets g).state = new := by
  rw [SetsView.enter_self]; rfl

@[simp] theorem SetsView.enter_permit : (v.enter bus force g new).permit = v.permit := rfl
@[simp] theorem SetsView.enter_queue : (v.enter bus force g new).queue = v.queue := rfl
@[simp] theorem SetsView.leave_sets : (v.leave g).sets = v.sets := rfl
theorem SetsView.leave_permit : (v.leave g).permit = if v.permit = some g then none else v.permit := rfl
theorem SetsView.leave_queue : (v.leave g).queue = v.queue.filter (· ≠ g) := rfl

/-- A set that passes through a state on its way to another ends as if it had entered that at once. -/
theorem SetsView.enter_enter {via : SetState} (h : ¬ (via = .standby ∨ via = .unavailable)) :
    (v.enter bus force g via).enter bus force g new = v.enter bus force g new := by
  have once : (((v.sets g).enter (force || (v.sets g).origin.drives v.mode) bus via).enter
      (force || (v.sets g).origin.drives v.mode) bus new)
        = (v.sets g).enter (force || (v.sets g).origin.drives v.mode) bus new := by
    cases force || (v.sets g).origin.drives v.mode <;> simp [SetOutline.enter, h]
  have origin : ((v.sets g).enter (force || (v.sets g).origin.drives v.mode) bus via).origin = (v.sets g).origin := by
    simp [SetOutline.enter, h]
  simp only [SetsView.enter, SetsView.withSet_self, origin]
  simp [SetsView.withSet, once]

theorem SetsView.leave_leave : (v.leave g).leave g = v.leave g := by
  simp [SetsView.leave, List.filter_filter]

/-- What serving the permit does: nothing while it is held or nobody waits, else the head of the queue cranks (R120). -/
theorem SetsView.serve_cases (bus : BusState) (v : SetsView) :
    ((v.permit = none → v.queue = []) ∧ v.serve bus = v)
      ∨ ∃ k q, v.permit = none ∧ v.queue = k :: q
          ∧ v.serve bus = ({ v with permit := some k, queue := q } : SetsView).enter bus false k .cranking := by
  unfold SetsView.serve
  cases hp : v.permit with
  | some h => simp
  | none =>
    cases hq : v.queue with
    | nil => simp
    | cons k q => exact .inr ⟨k, q, rfl, rfl, rfl⟩

/-! ### The law of the crank permit along the events -/

theorem SetState.queues_iff (x : SetState) : x.queues = false ↔ x ≠ .cranking ∧ x ≠ .waitCrank := by
  cases x <;> simp [SetState.queues]

theorem SetState.queues_of_atCrank {x : SetState} (h : x.atCrank = false) : x.queues = false := by
  cases x <;> first | rfl | cases h

theorem PermitOrder.passes (h : PermitOrder v) (hv : (v.sets g).state.queues = false) (hn : new.queues = false) :
    PermitOrder (v.enter bus force g new) := by
  obtain ⟨hv1, hv2⟩ := (SetState.queues_iff _).mp hv
  obtain ⟨hn1, hn2⟩ := (SetState.queues_iff _).mp hn
  refine ⟨fun k => (h.holder k).trans ?_, fun k => (h.waiting k).trans ?_, h.once⟩
  all_goals
    by_cases e : k = g
    · subst e
      simp [*]
    · rw [SetsView.enter_other e]

theorem PermitOrder.leaves (h : PermitOrder v) (hn : new.queues = false) :
    PermitOrder ((v.leave g).enter bus force g new) := by
  obtain ⟨hn1, hn2⟩ := (SetState.queues_iff _).mp hn
  refine ⟨fun k => ?_, fun k => ?_, h.once.filter _⟩
  · by_cases e : k = g
    · subst e
      simp only [SetsView.enter_permit, SetsView.enter_state, SetsView.leave_permit, hn1, iff_false]
      split <;> simp_all
    · rw [SetsView.enter_other e, SetsView.leave_sets, ← h.holder k]
      simp only [SetsView.enter_permit, SetsView.leave_permit]
      by_cases hp : v.permit = some g
      · simp [hp, Ne.symm e]
      · simp [hp]
  · by_cases e : k = g
    · subst e
      simp [SetsView.leave_queue, hn2]
    · rw [SetsView.enter_other e, SetsView.leave_sets, ← h.waiting k]
      simp [SetsView.leave_queue, e]

theorem PermitOrder.joins (h : PermitOrder v) (hv : (v.sets g).state.queues = false) :
    PermitOrder ((v.enter bus force g .waitCrank).join g) := by
  obtain ⟨hv1, hv2⟩ := (SetState.queues_iff _).mp hv
  have out : g ∉ v.queue := fun hm => hv2 ((h.waiting g).mp hm)
  have sets : ((v.enter bus force g .waitCrank).join g).sets = (v.enter bus force g .waitCrank).sets := rfl
  refine ⟨fun k => (h.holder k).trans ?_, fun k => ?_, ?_⟩
  · rw [sets]
    by_cases e : k = g
    · subst e
      simp [hv1]
    · rw [SetsView.enter_other e]
  · rw [sets]
    by_cases e : k = g
    · subst e
      simp [SetsView.join]
    · rw [SetsView.enter_other e, ← h.waiting k]
      simp [SetsView.join, e]
  · exact (List.nodup_append'.mpr ⟨h.once, List.nodup_singleton g, fun a ha hg => out (List.mem_singleton.mp hg ▸ ha)⟩)

/-- Serving the permit restores the whole law (R120). -/
theorem PermitOrder.serve (h : PermitOrder v) : PermitLaw (v.serve bus) := by
  rcases v.serve_cases bus with ⟨idle, e⟩ | ⟨k, q, hp, hq, e⟩ <;> rw [e]
  · exact ⟨h, idle⟩
  have none_cranks (j : Fin 4) : (v.sets j).state ≠ .cranking := fun hj => by
    rw [← h.holder j, hp] at hj
    cases hj
  have once := h.once
  rw [hq] at once
  obtain ⟨hk, once⟩ := List.nodup_cons.mp once
  refine ⟨⟨fun j => ?_, fun j => ?_, once⟩, fun hn => nomatch hn⟩
  · by_cases e : j = k
    · subst e
      simp
    · rw [SetsView.enter_other e]
      simpa [none_cranks j] using Ne.symm e
  · by_cases e : j = k
    · subst e
      simp [hk]
    · have hj := h.waiting j
      rw [hq, List.mem_cons, or_iff_right e] at hj
      rw [SetsView.enter_other e]
      exact hj

theorem queues_of_joining {a : SetOutline} {p : Prop} (h : a.state = .crankRest ∨ a.state = .standby ∧ p) :
    a.state.queues = false := by
  rcases h with h | ⟨h, -⟩ <;> rw [h] <;> rfl

/-- Every event of a set keeps the law of the crank permit. -/
theorem SetEvent.permitLaw (h : SetEvent force g v w) (k : PermitLaw v) : PermitLaw w := by
  cases h with
  | stays => exact k
  | passes bus new hv hn => exact ⟨k.toPermitOrder.passes hv (SetState.queues_of_atCrank hn), k.served⟩
  | leaves bus new hn =>
    refine (k.toPermitOrder.leaves ?_).serve
    rcases hn with hn | ⟨rfl, -⟩
    · exact SetState.queues_of_atCrank hn
    · rfl
  | joins bus hv => exact (k.toPermitOrder.joins (queues_of_joining hv)).serve

/-- An origin is no matter of the permit. -/
theorem PermitLaw.mark (h : PermitLaw v) (o : SetOrigin) : PermitLaw (v.mark g o) := by
  have states (k : Fin 4) : ((v.mark g o).sets k).state = (v.sets k).state := by
    by_cases e : k = g
    · subst e
      rw [SetsView.mark_self]
    · rw [SetsView.mark_other e]
  exact ⟨⟨fun k => by rw [states]; exact h.holder k, fun k => by rw [states]; exact h.waiting k, h.once⟩, h.served⟩

/-! ### The law of the CRANK lines along the events -/

/-- What an event asks of the set that it concerns, so that its CRANK line is right afterwards: a cranking set is
driven, and a set that goes on in the cranking states has an origin, not AUTO in MONITOR. -/
structure LineReady (m : Mode) (open_ force : Bool) (a : SetOutline) : Prop where
  only : a.lines.crank = true → a.state = .cranking
  driven : a.state = .cranking → (force || a.origin.drives m) = true
  owned : a.state.atCrank = true → a.origin ≠ .none ∧ (m = .monitor → open_ = false → a.origin ≠ .auto)

/-- A set whose origin does not drive it stands in MONITOR, with no origin or with AUTO. -/
theorem drives_eq_false_iff (m : Mode) (o : SetOrigin) :
    o.drives m = false ↔ m = .monitor ∧ (o = .none ∨ o = .auto) := by
  cases m <;> cases o <;> simp [SetOrigin.drives]

/-- A set whose line is right is ready for its events, once GEN has taken every notice of a change to MONITOR. -/
theorem LineOk.ready {a : SetOutline} (h : LineOk m false a) (force : Bool) :
    LineReady m false force a where
  only := h.only
  driven hc := by
    have at_ : a.state.atCrank = true := by rw [hc]; rfl
    cases hd : a.origin.drives m with
    | true => simp
    | false =>
      obtain ⟨hm, ho⟩ := (drives_eq_false_iff _ _).mp hd
      exact (ho.elim (h.owned at_) (h.driven hm rfl at_)).elim
  owned hc := ⟨h.owned hc, fun hm _ => h.driven hm rfl hc⟩

/-- A set enters a state other than CRANKING, its line being ready. -/
theorem LineReady.enter {a : SetOutline} (h : LineReady m open_ force a) (hn : new ≠ .cranking)
    (hq : new.atCrank = true → a.origin ≠ .none ∧ (m = .monitor → open_ = false → a.origin ≠ .auto)) :
    LineOk m open_ (a.enter (force || a.origin.drives m) bus new) := by
  have origin : new.atCrank = true → (a.enter (force || a.origin.drives m) bus new).origin = a.origin := by
    cases new <;> simp [SetOutline.enter, SetState.atCrank]
  refine ⟨fun hc => ?_, fun hc => absurd hc hn, fun hc => ?_, fun hm ho hc => ?_⟩
  · cases hd : force || a.origin.drives m with
    | true => simp [SetOutline.enter, hd, SetState.lines, hn] at hc
    | false =>
      have crank : a.lines.crank = true := by simpa [SetOutline.enter, hd] using hc
      have driven := h.driven (h.only crank)
      rw [hd] at driven
      cases driven
  · rw [origin hc]
    exact (hq hc).1
  · rw [origin hc]
    exact (hq hc).2 hm ho

/-- A waiting set takes the permit; undriven, it waits for the abort of its automatic start. -/
theorem LineOk.cranking {a : SetOutline} (h : LineOk m open_ a) (hw : a.state = .waitCrank) :
    LineOk m open_ (a.enter (false || a.origin.drives m) bus .cranking) := by
  have at_ : a.state.atCrank = true := by rw [hw]; rfl
  refine ⟨fun _ => rfl, fun _ exempt => ?_, fun _ => h.owned at_, fun hm ho _ => h.driven hm ho at_⟩
  cases hd : a.origin.drives m with
  | true => rfl
  | false =>
    obtain ⟨hm, ho⟩ := (drives_eq_false_iff _ _).mp hd
    have auto := ho.resolve_left (h.owned at_)
    cases open_ with
    | true => exact absurd ⟨rfl, auto⟩ exempt
    | false => exact absurd auto (h.driven hm rfl at_)

/-- Serving the permit keeps the lines right. -/
theorem LineLaw.serve (h : LineLaw open_ v) (ho : PermitOrder v) : LineLaw open_ (v.serve bus) := by
  rcases v.serve_cases bus with ⟨-, e⟩ | ⟨k, q, -, hq, e⟩ <;> rw [e]
  · exact h
  · intro j
    by_cases e : j = k
    · subst e
      rw [SetsView.enter_self]
      exact (h j).cranking ((ho.waiting j).mp (hq ▸ List.mem_cons_self))
    · rw [SetsView.enter_other e]
      exact h j

/-- Every event of a set that is ready keeps the lines right. -/
theorem SetEvent.lineLaw (h : SetEvent force g v w) (ho : PermitOrder v) (hr : LineReady v.mode open_ force (v.sets g))
    (hk : ∀ k, k ≠ g → LineOk v.mode open_ (v.sets k)) : LineLaw open_ w := by
  have entered {u : SetsView} (hs : u.sets = v.sets) (hm : u.mode = v.mode) (bus : BusState) {new : SetState}
      (hn : new ≠ .cranking) (hq : new.atCrank = true → (v.sets g).origin ≠ .none
        ∧ (v.mode = .monitor → open_ = false → (v.sets g).origin ≠ .auto)) :
      LineLaw open_ (u.enter bus force g new) := fun k => by
    have mode : (u.enter bus force g new).mode = v.mode := hm
    rw [mode]
    by_cases e : k = g
    · subst e
      rw [SetsView.enter_self, hs, hm]
      exact hr.enter hn hq
    · rw [SetsView.enter_other e, hs]
      exact hk k e
  cases h with
  | stays hv =>
    intro k
    by_cases e : k = g
    · subst e
      refine ⟨hr.only, fun hc => ?_, fun hc => ?_, fun _ _ hc => ?_⟩
      · rw [hc] at hv
        cases hv
      · rw [hv] at hc
        cases hc
      · rw [hv] at hc
        cases hc
    · exact hk k e
  | passes bus new hv hn => exact entered rfl rfl bus (fun e => by simp [e, SetState.atCrank] at hn) (by simp [hn])
  | leaves bus new hn =>
    have notCranking : new.queues = false := by
      rcases hn with hn | ⟨rfl, -⟩
      · exact SetState.queues_of_atCrank hn
      · rfl
    refine (entered (u := v.leave g) rfl rfl bus ((SetState.queues_iff _).mp notCranking).1 fun hc => hr.owned ?_).serve
      (ho.leaves notCranking)
    rcases hn with hn | ⟨-, hs⟩
    · rw [hn] at hc
      cases hc
    · rw [hs]
      rfl
  | joins bus hv =>
    have owned : (v.sets g).origin ≠ .none ∧ (v.mode = .monitor → open_ = false → (v.sets g).origin ≠ .auto) := by
      rcases hv with hv | ⟨-, given, auto⟩
      · exact hr.owned (by rw [hv]; rfl)
      · exact ⟨given, fun hm _ ha => nomatch hm.symm.trans (auto ha)⟩
    have joined : LineLaw open_ ((v.enter bus force g .waitCrank).join g) :=
      entered rfl rfl bus (by decide) fun _ => owned
    exact joined.serve (ho.joins (queues_of_joining hv))

/-- Before GEN has taken the notice of a change to MONITOR, the law asks less. -/
theorem LineLaw.opened (h : LineLaw false v) (open_ : Bool) : LineLaw open_ v := fun g =>
  ⟨(h g).only, fun hc _ => (h g).cranks hc (by simp), (h g).owned, fun hm _ => (h g).driven hm rfl⟩

/-! ### A set that nothing drives in MONITOR (R129) -/

/-- In MONITOR, with no run in progress and no notice of a change to MONITOR on its way, a set that is not driven has
its lines at the levels `l`. -/
structure Undriven (g : Fin 4) (l : SetLines) (v : SetsView) : Prop where
  mode : v.mode = .monitor
  inactive : v.active = false
  settled : v.awaited = false
  origin : (v.sets g).origin = .none ∨ (v.sets g).origin = .auto
  lines : (v.sets g).lines = l

variable {l : SetLines}

/-- A set that enters a state undriven keeps its lines, and comes to no origin that drives it. -/
theorem Undriven.enter (h : Undriven g l v) : Undriven g l (v.enter bus false k new) := by
  refine ⟨h.mode, h.inactive, h.settled, ?_, ?_⟩
  all_goals by_cases e : g = k
  · subst e
    rw [SetsView.enter_self]
    unfold SetOutline.enter
    dsimp only
    split
    · exact .inl rfl
    · exact h.origin
  · rw [SetsView.enter_other e]
    exact h.origin
  · subst e
    have undriven : (v.sets g).origin.drives v.mode = false := (drives_eq_false_iff _ _).mpr ⟨h.mode, h.origin⟩
    rw [SetsView.enter_self, undriven]
    exact h.lines
  · rw [SetsView.enter_other e]
    exact h.lines

theorem Undriven.serve (h : Undriven g l v) : Undriven g l (v.serve bus) := by
  rcases v.serve_cases bus with ⟨-, e⟩ | ⟨k, q, -, -, e⟩ <;> rw [e]
  · exact h
  · exact Undriven.enter (v := { v with permit := some k, queue := q })
      ⟨h.mode, h.inactive, h.settled, h.origin, h.lines⟩

/-- An event that drives no lines leaves those of the undriven sets. -/
theorem SetEvent.undriven (h : SetEvent false k v w) (u : Undriven g l v) : Undriven g l w := by
  cases h with
  | stays => exact u
  | passes => exact u.enter
  | leaves bus new =>
    have left : Undriven g l (v.leave k) := ⟨u.mode, u.inactive, u.settled, u.origin, u.lines⟩
    exact left.enter.serve
  | joins bus =>
    have entered : Undriven g l (v.enter bus false k .waitCrank) := u.enter
    have joined : Undriven g l ((v.enter bus false k .waitCrank).join k) :=
      ⟨entered.mode, entered.inactive, entered.settled, entered.origin, entered.lines⟩
    exact joined.serve

/-- The origin AUTO drives no set in MONITOR. -/
theorem Undriven.markAuto (h : Undriven g l v) : Undriven g l (v.mark k .auto) := by
  refine ⟨h.mode, h.inactive, h.settled, ?_, ?_⟩
  all_goals by_cases e : g = k
  · subst e
    exact .inr (by rw [SetsView.mark_self])
  · rw [SetsView.mark_other e]
    exact h.origin
  · subst e
    rw [SetsView.mark_self]
    exact h.lines
  · rw [SetsView.mark_other e]
    exact h.lines

end Events

end Sys2Proof.Machine

/-! ## The laws of the crank permit and of the lines: the operations of a set as its events -/

namespace Sys2Proof.Machine

section Views

variable {s : State} {g : Fin 4} {force : Bool}

/-- The parts that the laws do not speak of: all but the dispatcher, the sequencer, LNK and the notices. -/
def offSets : List Part :=
  [.phase, .time, .settings, .fmon, .inputs, .meas, .feeders, .shd, .rst, .cur, .evr, .sto, .draws, .pending]

/-- What reaches none of those four parts is not seen. -/
theorem SameBut.setsView {t : State} {ps : List Part} (k : SameBut ps s t) (hp : ps.all (· ∈ offSets) = true) :
    setsView t = setsView s := by
  have h : SameBut offSets s t := k.widen _ hp
  simp only [Machine.setsView, h.gen (by decide), h.blk (by decide), h.lnk (by decide), h.notices (by decide)]

theorem setsView_congr {t : State} (hs : t.gen.sets = s.gen.sets) (hp : t.gen.permit = s.gen.permit)
    (hq : t.gen.queue = s.gen.queue) (hm : t.lnk.mode = s.lnk.mode) (hb : t.blk.state = s.blk.state)
    (hn : t.notices = s.notices) : setsView t = setsView s := by
  simp only [setsView, hs, hp, hq, hm, hb, hn]

@[simp] theorem setsView_ite {c : Prop} [Decidable c] (a b : State) :
    setsView (if c then a else b) = if c then setsView a else setsView b := apply_ite _ _ _ _

theorem setsView_foldl {α : Type} {act : State → α → State} (h : ∀ s x, setsView (act s x) = setsView s)
    (l : List α) (s : State) : setsView (l.foldl act s) = setsView s := by
  induction l generalizing s with
  | nil => rfl
  | cons x l ih => rw [List.foldl_cons, ih, h]

/-! ### Records, flags and notices -/

variable (s)

@[simp] theorem setsView_modShd (m : Shd → Shd) : setsView (modShd m s) = setsView s := rfl
@[simp] theorem setsView_modRst (m : Rst → Rst) : setsView (modRst m s) = setsView s := rfl
@[simp] theorem setsView_modCur (m : Cur → Cur) : setsView (modCur m s) = setsView s := rfl
@[simp] theorem setsView_modFmon (m : FMon → FMon) : setsView (modFmon m s) = setsView s := rfl
@[simp] theorem setsView_modRun (m : RunRecord → RunRecord) : setsView (modRun m s) = setsView s := rfl
@[simp] theorem setsView_modFeeder (f : Fin 16) (m : FeederCtl → FeederCtl) :
    setsView (modFeeder f m s) = setsView s := rfl
@[simp] theorem setsView_modEntry (i : Nat) (m : Entry → Entry) : setsView (modEntry i m s) = setsView s := rfl
@[simp] theorem setsView_setProt (k : ProtFlag) : setsView (setProt k s) = setsView s := rfl
@[simp] theorem setsView_setAdv (k : AdvFlag) : setsView (setAdv k s) = setsView s := rfl
@[simp] theorem setsView_drawn : setsView (drawn s) = setsView s := rfl
@[simp] theorem setsView_evalDispatch : setsView (evalDispatch s) = setsView s := rfl

@[simp] theorem setsView_journal (k : JournalKind) (o : Nat) (v : Int) : setsView (journal k o v s) = setsView s :=
  (journal_frame k o v s).setsView rfl

@[simp] theorem setsView_genRecord (k : JournalKind) (g : Fin 4) (v : Int) :
    setsView (genRecord k g v s) = setsView s := (genRecord_frame k g v s).setsView rfl

variable {s}

/-- A notice of a change to MONITOR alone, of all notices, is seen. -/
theorem setsView_emit {d : List Consumer} {mk : Consumer → Notice} (h : ∀ c, (mk c).isMonitorNotice = false) :
    setsView (emit d mk s) = setsView s := by
  simp [setsView, h, Function.comp_def]

/-- An update of a set's record that leaves its outline. -/
theorem setsView_modSet {m : SetCtl → SetCtl} (h : (m s.gen.sets[g]).outline = s.gen.sets[g].outline) :
    setsView (modSet g m s) = setsView s := by
  have sets : (fun k : Fin 4 => (modSet g m s).gen.sets[k].outline) = fun k => s.gen.sets[k].outline := by
    funext k
    by_cases e : k = g
    · subst e
      rw [modSet_self, h]
    · rw [modSet_other _ _ e]
  simp only [setsView, sets]
  rfl

/-- An update of a set's record that gives it an origin. -/
theorem setsView_modSet_origin {m : SetCtl → SetCtl} {o : SetOrigin}
    (h : (m s.gen.sets[g]).outline = { s.gen.sets[g].outline with origin := o }) :
    setsView (modSet g m s) = (setsView s).mark g o := by
  have sets : (fun k : Fin 4 => (modSet g m s).gen.sets[k].outline)
      = Function.update (fun k : Fin 4 => s.gen.sets[k].outline) g { s.gen.sets[g].outline with origin := o } := by
    funext k
    by_cases e : k = g
    · subst e
      rw [modSet_self, h, Function.update_self]
    · rw [modSet_other _ _ e, Function.update_of_ne e]
  simp only [setsView, sets, SetsView.mark, SetsView.withSet]
  rfl

/-! ### What the operations of a set do to what the laws see -/

theorem driven_eq_drives (s : State) (g : Fin 4) : driven s g = s.gen.sets[g].origin.drives s.lnk.mode := by
  unfold driven SetOrigin.drives
  cases s.lnk.mode <;> cases s.gen.sets[g].origin <;> rfl

theorem enterSet_awaited (c : SetCause) (new : SetState) (m : Timer) (s : State) :
    (setsView (enterSet force c g new m s)).awaited = (setsView s).awaited := by
  have quiet {t : State} (k : SameBut [.gen] s t) : (setsView t).awaited = (setsView s).awaited := by
    simp only [setsView, k.notices (by decide)]
  unfold enterSet
  dsimp only
  split
  · exact quiet (by simp)
  · rw [setsView_emit fun _ => rfl]
    exact quiet (by simp)

theorem outline_entered (drive : Bool) (bus : BusState) (new : SetState) (m : Timer) (c : SetCtl) :
    (let c := { c with state := new, timer := m }
     let c := if drive then setLevels bus c else c
     if new = .standby ∨ new = .unavailable then { c with origin := .none } else c).outline
      = c.outline.enter drive bus new := by
  dsimp only
  cases drive
  all_goals
    unfold SetOutline.enter
    split <;> rfl

/-- Entering a state is seen as such (R116, R117). -/
@[simp] theorem setsView_enterSet (c : SetCause) (new : SetState) (m : Timer) (s : State) :
    setsView (enterSet force c g new m s) = (setsView s).enter s.fmon.bus force g new := by
  have fr := enterSet_frame force c g new m s
  have sets : (fun k : Fin 4 => (enterSet force c g new m s).gen.sets[k].outline)
      = ((setsView s).enter s.fmon.bus force g new).sets := by
    funext k
    by_cases e : k = g
    · subst e
      rw [SetsView.enter_self, enterSet_self, driven_eq_drives]
      exact outline_entered _ _ _ _ _
    · rw [SetsView.enter_other e, enterSet_other _ _ _ _ _ e]
      rfl
  have awaited := enterSet_awaited (force := force) (g := g) c new m s
  simp only [setsView, SetsView.enter, SetsView.withSet] at sets awaited ⊢
  simp only [sets, awaited, enterSet_permit, enterSet_queue, fr.lnk (by decide), fr.blk (by decide)]

@[simp] theorem setsView_leaveCrank (g : Fin 4) (s : State) : setsView (leaveCrank g s) = (setsView s).leave g := rfl

/-- The head of the queue takes a free permit (R120). -/
theorem servePermit_of_free {q : List (Fin 4)} (hp : s.gen.permit = none) (hq : s.gen.queue = g :: q) :
    servePermit s = enterSet false .permit g .cranking (.running s.settings.sets[g].crankOnMs)
      (modSet g (fun c => { c with attempts := c.attempts + 1 })
        (modGen (fun n => { n with permit := some g, queue := q }) s)) := by
  unfold servePermit
  rw [hp, hq]
  rfl

@[simp] theorem setsView_servePermit (s : State) : setsView (servePermit s) = (setsView s).serve s.fmon.bus := by
  cases hp : s.gen.permit with
  | some k =>
    rw [servePermit_idle (.inl (by simp [hp]))]
    simp only [SetsView.serve, setsView, hp]
  | none =>
    cases hq : s.gen.queue with
    | nil =>
      rw [servePermit_idle (.inr hq)]
      simp only [SetsView.serve, setsView, hp, hq]
    | cons k q =>
      rw [servePermit_of_free hp hq, setsView_enterSet, setsView_modSet rfl]
      simp only [SetsView.serve, setsView, hp, hq]
      rfl

theorem setsView_enterSyncing (c : SetCause) (s : State) :
    setsView (enterSyncing c g s) = (setsView s).enter s.fmon.bus false g .syncing := by
  simp [enterSyncing]

/-- A run-up of no length goes on into SYNCING (R124). -/
theorem setsView_enterRunUp (c : SetCause) (s : State) :
    setsView (enterRunUp c g s) =
      (setsView s).enter s.fmon.bus false g (if s.settings.sets[g].runupMs = 0 then .syncing else .runUp) := by
  unfold enterRunUp
  dsimp only
  split
  · rw [setsView_enterSyncing, setsView_enterSet, (enterSet_frame _ _ _ _ _ _).fmon (by decide)]
    exact SetsView.enter_enter (by decide)
  · exact setsView_enterSet _ _ _ _

theorem setsView_enterOnline (c : SetCause) (s : State) :
    setsView (enterOnline c g s) = (setsView s).enter s.fmon.bus false g .online := by
  simp [enterOnline]

theorem setsView_endCooldown (c : SetCause) (v : Int) (s : State) :
    setsView (endCooldown c g v s) = (setsView s).enter s.fmon.bus false g (restState s g) := by
  simp [endCooldown]

/-- A cooldown of no length ends at once (R128). -/
theorem setsView_enterCooldown (s : State) :
    setsView (enterCooldown g s) =
      (setsView s).enter s.fmon.bus false g (if s.settings.sets[g].cooldownMs = 0 then restState s g else .cooldown) := by
  have fr := enterSet_frame false .breaker g .cooldown (.running s.settings.sets[g].cooldownMs) s
  have rest : restState (enterSet false .breaker g .cooldown (.running s.settings.sets[g].cooldownMs) s) g
      = restState s g := by
    unfold restState setReady
    rw [fr.inputs (by decide), fr.settings (by decide)]
  unfold enterCooldown
  dsimp only
  split
  · rw [setsView_endCooldown, setsView_enterSet, fr.fmon (by decide), rest]
    exact SetsView.enter_enter (by decide)
  · exact setsView_enterSet _ _ _ _

theorem setsView_lockOut (cause : Nat) (s : State) :
    setsView (lockOut g cause s) =
      (((setsView s).leave g).enter s.fmon.bus false g .lockedOut).serve s.fmon.bus := by
  unfold lockOut
  dsimp only
  have grant (t : State) : setsView (modGen (fun n => { n with grant := if n.grant = some g then none else n.grant }) t)
      = setsView t := rfl
  rw [setsView_servePermit, setsView_journal, setsView_setProt, setsView_enterSet, grant, setsView_modSet rfl,
    setsView_leaveCrank, journal_fmon, setProt_fmon, (enterSet_frame _ _ _ _ _ _).fmon (by decide), modGen_fmon,
    modSet_fmon, (leaveCrank_frame _ _).fmon (by decide)]

theorem setsView_abortStart (c : SetCause) (rest : SetState) (v : Int) (s : State) :
    setsView (abortStart force c g rest v s) =
      (((setsView s).leave g).enter s.fmon.bus force g rest).serve s.fmon.bus := by
  unfold abortStart
  dsimp only
  rw [setsView_servePermit, setsView_genRecord, setsView_enterSet, setsView_leaveCrank,
    (genRecord_frame _ _ _ _).fmon (by decide), (enterSet_frame _ _ _ _ _ _).fmon (by decide),
    (leaveCrank_frame _ _).fmon (by decide)]

theorem setsView_closedExternally (s : State) :
    setsView (closedExternally g s) = (((setsView s).leave g).enter s.fmon.bus false g .online).serve s.fmon.bus := by
  unfold closedExternally
  dsimp only
  rw [setsView_servePermit, setsView_enterOnline, setsView_modSet rfl, setsView_leaveCrank, setsView_genRecord,
    (enterOnline_frame _ _ _).fmon (by decide), modSet_fmon, (leaveCrank_frame _ _).fmon (by decide),
    (genRecord_frame _ _ _ _).fmon (by decide)]

end Views

end Sys2Proof.Machine

/-! ### Each operation of a set is an event of that set, or nothing (R118 to R130) -/

namespace Sys2Proof.Machine

section Operations

variable {s : State} {g : Fin 4} {force : Bool} {o : SetOrigin}

open Relation (ReflGen)

/-- Where the operation of a set is at most one event of it, driven by its origin and the mode. -/
abbrev Moved (g : Fin 4) (s t : State) : Prop := ReflGen (SetEvent false g) (setsView s) (setsView t)

theorem restState_cases (s : State) (g : Fin 4) : restState s g = .standby ∨ restState s g = .unavailable := by
  unfold restState
  split <;> simp

theorem restState_atCrank (s : State) (g : Fin 4) : (restState s g).atCrank = false := by
  rcases restState_cases s g with h | h <;> rw [h] <;> rfl

/-- A set that the permit does not concern enters another such state. -/
theorem Moved.passes {t : State} {new : SetState} (h : (setState s g).queues = false) (hn : new.atCrank = false)
    (e : setsView t = (setsView s).enter s.fmon.bus false g new) : Moved g s t := by
  unfold Moved
  rw [e]
  exact .single (.passes _ _ h hn)

theorem lockOut_moved (cause : Nat) (s : State) : Moved g s (lockOut g cause s) := by
  unfold Moved
  rw [setsView_lockOut]
  exact .single (.leaves _ _ (.inl rfl))

theorem abortStart_event (c : SetCause) {rest : SetState} (hr : rest.atCrank = false) (v : Int) (s : State) :
    SetEvent force g (setsView s) (setsView (abortStart force c g rest v s)) := by
  rw [setsView_abortStart]
  exact .leaves _ _ (.inl hr)

theorem closedExternally_moved (s : State) : Moved g s (closedExternally g s) := by
  unfold Moved
  rw [setsView_closedExternally]
  exact .single (.leaves _ _ (.inl rfl))

theorem afterRunUp_atCrank (ms : Nat) : (if ms = 0 then SetState.syncing else .runUp).atCrank = false := by
  split <;> rfl

/-- A start is an event of the set, that has taken its origin (R119, R120). -/
theorem startSet_event (hs : setState s g = .standby) (ho : o ≠ .none) (hm : o = .auto → s.lnk.mode = .auto) :
    SetEvent false g ((setsView s).mark g o) (setsView (startSet g o s).1) := by
  have taken (v : Int) : setsView (genRecord .setStart g v
      (modSet g (fun c => { c with attempts := 0, origin := o, lockout := 0 }) s)) = (setsView s).mark g o := by
    rw [setsView_genRecord]
    exact setsView_modSet_origin rfl
  have state : (((setsView s).mark g o).sets g).state = .standby := by rw [SetsView.mark_self]; exact hs
  have origin : (((setsView s).mark g o).sets g).origin = o := by rw [SetsView.mark_self]
  unfold startSet
  rw [if_pos hs]
  dsimp only
  split
  · rw [setsView_enterRunUp, taken]
    exact .passes _ _ (by rw [state]; rfl) (afterRunUp_atCrank _)
  · have joined (t : State) : setsView (modGen (fun n => { n with queue := n.queue ++ [g] }) t) = (setsView t).join g :=
      rfl
    rw [setsView_servePermit, joined, setsView_enterSet, taken]
    exact .joins _ (.inr ⟨state, by rw [origin]; exact ho, fun h => hm (origin ▸ h)⟩)

/-- A stop is an event of the set, that has taken its origin (R123, R127). -/
theorem stopSet_event (hs : (setState s g).stoppable = true) :
    SetEvent force g ((setsView s).mark g o) (setsView (stopSet force g o s)) := by
  have taken : setsView (modSet g (fun c => { c with origin := o }) s) = (setsView s).mark g o :=
    setsView_modSet_origin rfl
  have state : (((setsView s).mark g o).sets g).state = setState s g := by rw [SetsView.mark_self]; rfl
  unfold stopSet
  rw [if_pos hs]
  dsimp only
  split
  next online =>
    rw [setsView_genRecord, setsView_enterSet, taken]
    exact .passes _ _ (by rw [state, online]; rfl) rfl
  next notOnline =>
    split
    · rw [← taken]
      exact abortStart_event _ (restState_atCrank _ _) _ _
    next rests =>
      rw [taken]
      refine .stays ?_
      rw [state]
      cases h : setState s g <;> simp_all [SetState.stoppable, SetState.starting, SetState.atCrank]

/-- A locked-out set that is reset is online with the origin HOST, or at rest and driven (R130). -/
theorem resetLockout_event (hs : setState s g = .lockedOut) :
    SetEvent false g ((setsView s).mark g .host) (setsView (resetLockout g s))
      ∨ SetEvent true g (setsView s) (setsView (resetLockout g s)) := by
  have cleared : setsView (modSet g (fun c => { c with lockout := 0 }) s) = setsView s := setsView_modSet rfl
  have state : ((setsView s).sets g).state = .lockedOut := hs
  unfold resetLockout
  dsimp only
  rw [setsView_genRecord]
  split
  · left
    rw [setsView_enterOnline, setsView_modSet_origin (o := .host) rfl, cleared]
    exact .passes _ _ (by rw [SetsView.mark_self, state]; rfl) rfl
  · right
    rw [setsView_enterSet, cleared]
    exact .passes _ _ (by rw [state]; rfl) (restState_atCrank _ _)

theorem readyChange_moved (level : Bool) (s : State) : Moved g s (readyChange g level s) := by
  unfold readyChange
  split
  next h =>
    split
    · exact .passes (by rw [h]; rfl) (new := .standby) rfl (by simp)
    · exact .refl
  next h =>
    split
    · exact .refl
    · exact .passes (by rw [h]; rfl) (new := .unavailable) rfl (by simp)
  · split
    · exact .refl
    · exact .single (abortStart_event _ rfl _ _)
  · split
    · exact .refl
    · exact .single (abortStart_event _ rfl _ _)
  · split
    · exact .refl
    · exact .single (abortStart_event _ rfl _ _)
  · exact .refl

theorem endCooldown_moved (c : SetCause) (v : Int) (h : (setState s g).queues = false) :
    Moved g s (endCooldown c g v s) :=
  .passes h (restState_atCrank _ _) (setsView_endCooldown _ _ _)

/-- A start is over when RUNNING rises: the set runs up, and the permit goes on (R121, R122). -/
theorem runUp_moved (s : State) : Moved g s (servePermit (enterRunUp .running g (leaveCrank g s))) := by
  unfold Moved
  rw [setsView_servePermit, setsView_enterRunUp, setsView_leaveCrank, (enterRunUp_frame _ _ _).fmon (by decide),
    (leaveCrank_frame _ _).fmon (by decide)]
  exact .single (.leaves _ _ (.inl (afterRunUp_atCrank _)))

theorem runningChange_moved (level : Bool) (s : State) : Moved g s (runningChange g level s) := by
  have locked (cause : Nat) : Moved g s (if level then s else lockOut g cause s) := by
    split
    · exact .refl
    · exact lockOut_moved _ _
  have runs : Moved g s (if level then servePermit (enterRunUp .running g (leaveCrank g s)) else s) := by
    split
    · exact runUp_moved s
    · exact .refl
  unfold runningChange
  split
  · exact runs
  · exact runs
  · exact runs
  · exact locked 2
  · exact locked 2
  · exact locked 5
  · exact locked 5
  next h =>
    split
    · exact .refl
    · exact endCooldown_moved _ _ (by rw [h]; rfl)
  · exact .refl

theorem breakerChange_moved (level : Bool) (s : State) : Moved g s (breakerChange g level s) := by
  have online (h : (setState s g).queues = false) : Moved g s (if level then enterOnline .breaker g s else s) := by
    split
    · exact .passes h rfl (setsView_enterOnline _ _)
    · exact .refl
  unfold breakerChange
  split
  next h => exact online (by rw [h]; rfl)
  next h => exact online (by rw [h]; rfl)
  · split
    · exact .refl
    · exact lockOut_moved _ _
  next h =>
    split
    · exact .refl
    · refine .passes (by rw [h]; rfl) ?_ (setsView_enterCooldown _)
      split
      · exact restState_atCrank _ _
      · rfl
  · split
    · exact closedExternally_moved s
    · exact .refl

theorem runUpExpires_moved (s : State) : Moved g s (runUpExpires g s) := by
  unfold runUpExpires
  split
  next h => exact .passes (by rw [h]; rfl) rfl (setsView_enterSyncing _ _)
  next => exact .refl

theorem syncTimesOut_moved (s : State) : Moved g s (syncTimesOut g s) := by
  unfold syncTimesOut
  split
  · exact lockOut_moved _ _
  · exact .refl

theorem unloadTimesOut_moved (s : State) : Moved g s (unloadTimesOut g s) := by
  unfold unloadTimesOut
  split
  · exact lockOut_moved _ _
  · exact .refl

theorem cooldownExpires_moved (s : State) : Moved g s (cooldownExpires g s) := by
  unfold cooldownExpires
  split
  next h => exact endCooldown_moved _ _ (by rw [h]; rfl)
  next => exact .refl

/-- A set at the end of a pulse without RUNNING: it gives the permit up, and the failed pulse is reported where it is
due (R121). -/
def crankEnded (g : Fin 4) (s : State) : State :=
  let s := leaveCrank g s
  if s.settings.sets[g].crankReport.atOnTime then genRecord .crankEnded g s.gen.sets[g].attempts s else s

theorem crankEnded_leaves (g : Fin 4) (s : State) : SameBut [.evr] (leaveCrank g s) (crankEnded g s) := by
  unfold crankEnded
  dsimp only
  split
  · exact genRecord_frame _ _ _ _
  · exact SameBut.refl _ _

theorem crankEnded_frame (g : Fin 4) (s : State) : SameBut [.gen, .evr] s (crankEnded g s) :=
  ((leaveCrank_frame g s).widen _ rfl).trans ((crankEnded_leaves g s).widen _ rfl)

theorem crankEnded_gen (g : Fin 4) (s : State) : (crankEnded g s).gen = (leaveCrank g s).gen :=
  (crankEnded_leaves g s).gen (by decide)

/-- The end of a pulse, by the number of attempts made (R121). -/
theorem crankOnTimeExpires_of_cranking (h : setState s g = .cranking) :
    crankOnTimeExpires g s =
      if s.settings.sets[g].crankAttempts ≤ s.gen.sets[g].attempts then lockOut g 1 (crankEnded g s)
      else servePermit (enterSet false .expiry g .crankRest (.running s.settings.sets[g].crankRestMs)
        (crankEnded g s)) := by
  have settings : (crankEnded g s).settings = s.settings := (crankEnded_frame g s).settings (by decide)
  rw [← settings]
  unfold crankOnTimeExpires
  rw [if_pos h]
  rfl

/-- A pulse without RUNNING ends in the lockout or in a rest, and the permit goes on (R121). -/
theorem crankOnTimeExpires_moved (s : State) : Moved g s (crankOnTimeExpires g s) := by
  by_cases cranking : setState s g = .cranking
  · have left : setsView (crankEnded g s) = (setsView s).leave g := (crankEnded_leaves g s).setsView rfl
    have bus : (crankEnded g s).fmon = s.fmon := (crankEnded_frame g s).fmon (by decide)
    rw [crankOnTimeExpires_of_cranking cranking]
    unfold Moved
    split
    · rw [setsView_lockOut, left, bus, SetsView.leave_leave]
      exact .single (.leaves _ _ (.inl rfl))
    · rw [setsView_servePermit, setsView_enterSet, (enterSet_frame _ _ _ _ _ _).fmon (by decide), left, bus]
      exact .single (.leaves _ _ (.inr ⟨rfl, cranking⟩))
  · unfold crankOnTimeExpires
    rw [if_neg cranking]

/-- A rest that is over puts the set back into the queue (R122). -/
theorem crankRestExpires_moved (s : State) : Moved g s (crankRestExpires g s) := by
  unfold crankRestExpires
  split
  next rests =>
    have joined (t : State) : setsView (modGen (fun n => { n with queue := n.queue ++ [g] }) t) = (setsView t).join g :=
      rfl
    dsimp only
    unfold Moved
    rw [setsView_servePermit, setsView_ite, setsView_genRecord, ite_self, joined, setsView_enterSet]
    exact .single (.joins _ (.inl rests))
  next => exact .refl

theorem setServiceChange_moved (s : State) : Moved g s (setServiceChange g s) := by
  unfold setServiceChange
  split
  next h =>
    split
    · exact .refl
    · exact .passes (by rw [h]; rfl) (new := .unavailable) rfl (by simp)
  next h =>
    split
    · exact .passes (by rw [h]; rfl) (new := .standby) rfl (by simp)
    · exact .refl
  · exact .refl

end Operations

end Sys2Proof.Machine

/-! ## The laws of the crank permit and of the lines: operations that they do not see -/

namespace Sys2Proof.Machine

section Unseen

variable {s t : State}

/-! ### Notices to blocks (section 2.5) -/

theorem setsView_emitAmong {n : Notice} (h : n.isMonitorNotice = false) (s : State) :
    setsView (emitAmong n s) = setsView s := by
  have e : (emitAmong n s).notices.any Notice.isMonitorNotice = s.notices.any Notice.isMonitorNotice := by
    rw [emitAmong_notices, (insertAt_perm n _ _).any_eq, List.any_cons, h, Bool.false_or]
  simp only [setsView, e, emitAmong_gen, emitAmong_lnk, emitAmong_blk]

theorem setsView_emitFirst {n : Notice} (h : n.isMonitorNotice = false) (s : State) :
    setsView (emitFirst n s) = setsView s := by
  simp [setsView, h]

@[simp] theorem setsView_emitStack (s : State) : setsView (emitStack s) = setsView s :=
  (setsView_emitFirst rfl _).trans (setsView_emitAmong rfl _)

@[simp] theorem setsView_emitDiscard (s : State) : setsView (emitDiscard s) = setsView s :=
  (setsView_emitAmong rfl _).trans (setsView_emitAmong rfl _)

@[simp] theorem setsView_queueStep (s : State) : setsView (queueStep s) = setsView s := by
  simp [queueStep, setsView, Notice.isMonitorNotice]

@[simp] theorem setsView_emitBus (n : BusNotice) (s : State) : setsView (emitBus n s) = setsView s :=
  setsView_emit fun _ => rfl

@[simp] theorem setsView_emitUpdate (n : PointNames) (s : State) : setsView (emitUpdate n s) = setsView s :=
  setsView_emit fun _ => rfl

/-! ### The monitor, the measurements and LNK (chapters 1, 3 and 10) -/

@[simp] theorem setsView_breakRun (p : Nat) (s : State) : setsView (breakRun p s) = setsView s := by
  unfold breakRun
  dsimp only
  split <;> simp

@[simp] theorem setsView_enterDead (s : State) : setsView (enterDead s) = setsView s := by simp [enterDead]

@[simp] theorem setsView_nominalChanged (s : State) : setsView (nominalChanged s) = setsView s := by
  simp [nominalChanged]

@[simp] theorem setsView_formValue (l : List Nat) (s : State) : setsView (formValue l s) = setsView s := by
  simp [formValue]

theorem setsView_crossingArrives (s : State) : setsView (crossingArrives s) = setsView s := by
  unfold crossingArrives acceptValid
  dsimp only
  repeat' split
  all_goals simp

theorem setsView_deadBusExpires (s : State) : setsView (deadBusExpires s) = setsView s := by simp [deadBusExpires]

theorem setsView_staleTick (s : State) : setsView (staleTick s) = setsView s := by
  unfold staleTick pointsGoStale
  dsimp only
  repeat' split
  · rfl
  · rfl
  · exact setsView_emit fun _ => rfl

theorem setsView_applyMeasure (l : List (PointRef × Int)) (s : State) : setsView (applyMeasure l s) = setsView s := by
  rw [applyMeasure, setsView_emitUpdate]
  exact setsView_foldl (fun s x => (writePoint_frame _ _ s).setsView rfl) l s

@[simp] theorem setsView_reclampSet (g : Fin 4) (s : State) : setsView (reclampSet g s) = setsView s := by
  unfold reclampSet
  dsimp only
  repeat' split
  · rfl
  · rw [setsView_emitUpdate]
    rfl
  · rfl

theorem setsView_reclampChannel (j : Fin 6) (s : State) : setsView (reclampChannel j s) = setsView s := by
  unfold reclampChannel
  dsimp only
  repeat' split
  · rfl
  · rw [setsView_emitUpdate]
    rfl
  · rfl

/-- Of LNK the mode alone is seen. -/
theorem setsView_of_mode {ps : List Part} (k : SameBut ps s t) (hp : ps.all (· ∈ Part.lnk :: offSets) = true)
    (hm : t.lnk.mode = s.lnk.mode) : setsView t = setsView s := by
  have h : SameBut (Part.lnk :: offSets) s t := k.widen _ hp
  simp only [setsView, hm, h.gen (by decide), h.blk (by decide), h.notices (by decide)]

@[simp] theorem setsView_superviseFrame (l : Link) (s : State) : setsView (superviseFrame l s) = setsView s :=
  setsView_of_mode (superviseFrame_frame l s) rfl (superviseFrame_mode l s)

/-! ### Feeders (chapter 4) -/

@[simp] theorem setsView_unlist (f : Fin 16) (s : State) : setsView (unlist f s) = setsView s := by
  unfold unlist removeEntry
  repeat' split
  · rfl
  · rfl
  · dsimp only
    split <;> simp

@[simp] theorem setsView_changeFeeder (f : Fin 16) (new : FeederState) (c : FeederCause) (s : State) :
    setsView (changeFeeder f new c s) = setsView s := by
  unfold changeFeeder leaveStack
  dsimp only
  split
  · rfl
  · rw [setsView_emit fun _ => rfl]
    split <;> simp

@[simp] theorem setsView_lineCommand (f : Fin 16) (b : Bool) (s : State) :
    setsView (lineCommand f b s) = setsView s := (lineCommand_frame f b s).setsView rfl
@[simp] theorem setsView_lineAlign (f : Fin 16) (b : Bool) (s : State) :
    setsView (lineAlign f b s) = setsView s := (lineAlign_frame f b s).setsView rfl

@[simp] theorem setsView_operate (f : Fin 16) (closing : Bool) (o : OpOrigin) (s : State) :
    setsView (operate f closing o s).1 = setsView s := by
  have begun (b : Bool) : setsView (beginOperation f b o s) = setsView s := by simp [beginOperation]
  have accepted (b : Bool) : setsView (acceptPosition f b s) = setsView s := by simp [acceptPosition]
  unfold operate
  cases s.feeders[f].state with
  | failed dir => cases dir <;> cases closing <;> simp [begun, accepted]
  | _ => cases closing <;> simp [begun]

theorem setsView_of_operate {f : Fin 16} {closing : Bool} {o : OpOrigin} {r : OpOutcome}
    (e : operate f closing o s = (t, r)) : setsView t = setsView s := by
  have k := setsView_operate f closing o s
  rwa [e] at k

theorem setsView_operateTimerExpires (f : Fin 16) (s : State) : setsView (operateTimerExpires f s) = setsView s := by
  unfold operateTimerExpires
  dsimp only
  split <;> simp

theorem setsView_feederStatusChange (f : Fin 16) (level : Bool) (s : State) :
    setsView (feederStatusChange f level s) = setsView s := by
  unfold feederStatusChange
  dsimp only
  split <;> simp

theorem setsView_feederServiceChange (f : Fin 16) (s : State) : setsView (feederServiceChange f s) = setsView s := by
  simp [feederServiceChange]

theorem setsView_linesRestyled (old : Settings) (s : State) : setsView (linesRestyled old s) = setsView s :=
  (linesRestyled_frame old s).setsView rfl

/-! ### The restorer (chapter 6) -/

@[simp] theorem setsView_endEpisode (s : State) : setsView (endEpisode s) = setsView s := rfl
@[simp] theorem setsView_restartDelay (s : State) : setsView (restartDelay s) = setsView s := rfl
@[simp] theorem setsView_testDelay (s : State) : setsView (testDelay s) = setsView s := rfl
@[simp] theorem setsView_tagGiven (s : State) : setsView (tagGiven s) = setsView s := rfl
@[simp] theorem setsView_writeHeader (h : HeaderRun) (s : State) : setsView (writeHeader h s) = setsView s := rfl
@[simp] theorem setsView_keepEpisode (s : State) : setsView (keepEpisode s) = setsView s :=
  (keepEpisode_frame s).setsView rfl
@[simp] theorem setsView_beginEpisode (i : Nat) (f : Fin 16) (s : State) :
    setsView (beginEpisode i f s) = setsView s := (beginEpisode_frame i f s).setsView rfl

@[simp] theorem setsView_restoreClose (i : Nat) (x : StackItem) (s : State) :
    setsView (restoreClose i x s) = setsView s := by
  unfold restoreClose
  split
  next e =>
    rw [setsView_endEpisode, setsView_modRst, setsView_of_operate e, setsView_journal, setsView_modEntry]
  next => rfl

@[simp] theorem setsView_examine : ∀ (n : Nat) (s : State), setsView (examine n s) = setsView s
  | 0, s => setsView_keepEpisode s
  | n + 1, s => by
    unfold examine
    dsimp only
    repeat' split
    · simp
    · simp
    · simp
    · rw [setsView_examine n]
      simp [skipItem]
    · simp
    · simp

@[simp] theorem setsView_restorerTurn (s : State) : setsView (restorerTurn s) = setsView s := setsView_examine _ s

theorem setsView_restoreDelayExpires (s : State) : setsView (restoreDelayExpires s) = setsView s := by
  simp [restoreDelayExpires]

theorem setsView_intervalExpires (s : State) : setsView (intervalExpires s) = setsView s := by
  simp [intervalExpires]

theorem setsView_rstOnBus (n : BusNotice) (s : State) : setsView (rstOnBus n s) = setsView s := by
  simp [rstOnBus, discardAtDead]

theorem setsView_rstOnFeeder (f : Fin 16) (turn : Bool) (s : State) : setsView (rstOnFeeder f turn s) = setsView s := by
  simp [rstOnFeeder]

theorem setsView_rstOnMode (s : State) : setsView (rstOnMode s) = setsView s := by simp [rstOnMode]

@[simp] theorem setsView_push (kind : EntryKind) (v : Int) (f : Nat) (l : List StackItem) (s : State) :
    setsView (push kind v f l s) = setsView s := by
  simp [push, pushEntry, mergeTop]

@[simp] theorem setsView_appendItems (f : Fin 16) (l : List StackItem) (s : State) :
    setsView (appendItems f l s) = setsView s := (appendItems_frame f l s).setsView rfl

@[simp] theorem setsView_pushHeader (s : State) : setsView (pushHeader s) = setsView s := by simp [pushHeader]

@[simp] theorem setsView_removeHeader (s : State) : setsView (removeHeader s) = setsView s := by simp [removeHeader]

/-! ### Shedding (chapter 5) -/

@[simp] theorem setsView_tripFeeders (o : OpOrigin) : ∀ (fs : List (Fin 16)) (s : State),
    setsView (tripFeeders o fs s).1 = setsView s
  | [], _ => rfl
  | f :: fs, s => by
    unfold tripFeeders
    dsimp only
    split
    all_goals
      rename_i e
      exact (setsView_tripFeeders o fs _).trans (setsView_of_operate e)

@[simp] theorem setsView_joinCredit (l : List StackItem) (s : State) : setsView (joinCredit l s) = setsView s := rfl
@[simp] theorem setsView_joinTargets (l : List StackItem) (s : State) : setsView (joinTargets l s) = setsView s := rfl
@[simp] theorem setsView_flagShort (b : Bool) (s : State) : setsView (flagShort b s) = setsView s := by
  simp [flagShort]

theorem setsView_supplement (f : Fin 16) (a : Int) (s : State) : setsView (supplement f a s) = setsView s := by
  simp [supplement]

theorem setsView_shdOnFeeder (f : Fin 16) (after : FeederState) (cause : FeederCause) (s : State) :
    setsView (shdOnFeeder f after cause s) = setsView s := by
  unfold shdOnFeeder
  dsimp only
  repeat' split
  all_goals simp [setsView_supplement]

theorem setsView_manualShed (l : Link) (fs : List (Fin 16)) (s : State) :
    setsView (manualShed l fs s).1 = setsView s := by
  simp [manualShed]

/-! ### The sequencer's own records (chapter 9) -/

@[simp] theorem setsView_withdrawGrant (s : State) : setsView (withdrawGrant s) = setsView s := rfl
@[simp] theorem setsView_giveGrant (g : Fin 4) (s : State) : setsView (giveGrant g s) = setsView s := rfl
@[simp] theorem setsView_genOnSequencer (s : State) : setsView (genOnSequencer s) = setsView s := by
  unfold genOnSequencer
  dsimp only
  split <;> rfl
@[simp] theorem setsView_clearReleases (s : State) : setsView (clearReleases s) = setsView s :=
  (clearReleases_frame s).setsView rfl
@[simp] theorem setsView_setRelease (j : Fin 6) (p : Nat) (s : State) : setsView (setRelease j p s) = setsView s :=
  (setRelease_frame j p s).setsView rfl
@[simp] theorem setsView_curOnSequencer (a b : BlkState) (s : State) : setsView (curOnSequencer a b s) = setsView s :=
  (curOnSequencer_frame a b s).setsView rfl

@[simp] theorem setsView_clearBus (s : State) : setsView (clearBus s) = setsView s := by
  unfold clearBus
  dsimp only
  rw [setsView_modRun]
  exact setsView_foldl (fun s f => setsView_operate f false .blackstart s) _ s

@[simp] theorem setsView_latchLead (g p : Fin 4) (s : State) : setsView (latchLead g p s) = setsView s := rfl

@[simp] theorem setsView_nextStep (s : State) : setsView (nextStep s) = setsView s := by simp [nextStep]

@[simp] theorem setsView_stepDone (st : PlanStep) (s : State) : setsView (stepDone st s) = setsView s := by
  simp [stepDone]

theorem setsView_stableOnBus (st : PlanStep) (n : BusNotice) (s : State) :
    setsView (stableOnBus st n s) = setsView s := by
  unfold stableOnBus
  split <;> simp

theorem setsView_clearingOnFeeder (f : Fin 16) (s : State) : setsView (clearingOnFeeder f s) = setsView s := by
  simp [clearingOnFeeder]

/-- The sequencer changes its state. -/
@[simp] theorem setsView_blkEnter (new : BlkState) (s : State) :
    setsView (blkEnter new s) = { setsView s with active := new.active } := by
  unfold blkEnter
  dsimp only
  split
  next same => rw [← same]; rfl
  next => rw [setsView_curOnSequencer, setsView_genOnSequencer, setsView_setProt]; rfl

end Unseen

end Sys2Proof.Machine

/-! ## The laws of the crank permit and of the lines: the blocks' answers to notices, as moves of the sets -/

namespace Sys2Proof.Machine

/-! ### The moves (R119, R127, R136, R158) -/

/-- One move of the sets that an answer to a notice makes; `r` says whether a run may begin whatever the mode. -/
inductive SetsMove (r : Prop) : SetsView → SetsView → Prop
  /-- A demand in AUTO starts a set (R136). -/
  | demands {v w : SetsView} (g : Fin 4) (hs : (v.sets g).state = .standby) (hm : v.mode = .auto)
    (h : SetEvent false g (v.mark g .auto) w) : SetsMove r v w
  /-- A run in progress starts or stops a set (R166, R169, R172). -/
  | runs {v w : SetsView} (g : Fin 4) (ha : v.active = true) (h : SetEvent false g (v.mark g .blackstart) w) :
    SetsMove r v w
  /-- The sequencer changes its state; a run begins in AUTO. -/
  | turns {v : SetsView} (b : Bool) (h : b = true → v.active = true ∨ v.mode = .auto ∨ r) :
    SetsMove r v { v with active := b }

section Laws

variable {v w : SetsView} {g : Fin 4} {r : Prop} {open_ : Bool} {l : SetLines}

theorem SetsMove.permitLaw (h : SetsMove r v w) (k : PermitLaw v) : PermitLaw w := by
  cases h with
  | demands g hs hm h => exact h.permitLaw (k.mark _)
  | runs g ha h => exact h.permitLaw (k.mark _)
  | turns => exact ⟨⟨k.holder, k.waiting, k.once⟩, k.served⟩

theorem SetsView.serve_awaited (bus : BusState) (v : SetsView) : (v.serve bus).awaited = v.awaited := by
  rcases v.serve_cases bus with ⟨-, e⟩ | ⟨k, q, -, -, e⟩ <;> rw [e]
  rfl

theorem SetEvent.awaited {force : Bool} (h : SetEvent force g v w) : w.awaited = v.awaited := by
  cases h with
  | stays => rfl
  | passes => rfl
  | leaves => exact SetsView.serve_awaited _ _
  | joins => exact SetsView.serve_awaited _ _

/-- No move brings a notice of a change to MONITOR, or takes one. -/
theorem SetsMove.awaited (h : SetsMove r v w) : w.awaited = v.awaited := by
  cases h with
  | demands g hs hm h => exact h.awaited
  | runs g ha h => exact h.awaited
  | turns => rfl

/-- A set that takes an origin which drives it, or takes one in STANDBY, is ready for its events. -/
theorem LineOk.ready_mark {a : SetOutline} {m : Mode} (h : LineOk m open_ a) {o : SetOrigin}
    (ho : a.state = .standby ∨ o = .host ∨ o = .blackstart) (force : Bool) :
    LineReady m open_ force { a with origin := o } := by
  refine ⟨h.only, fun hc => ?_, fun hc => ?_⟩
  · rcases ho with ho | rfl | rfl
    · exact nomatch hc.symm.trans ho
    · cases m <;> simp [SetOrigin.drives]
    · cases m <;> simp [SetOrigin.drives]
  · rcases ho with ho | rfl | rfl
    · have crank : a.state.atCrank = true := hc
      rw [ho] at crank
      cases crank
    · exact ⟨by simp, fun _ _ => by simp⟩
    · exact ⟨by simp, fun _ _ => by simp⟩

/-- An event of a set that has just taken an origin keeps the lines right. -/
theorem SetEvent.lineLaw_mark {o : SetOrigin} {force : Bool} (h : SetEvent force g (v.mark g o) w) (hp : PermitLaw v)
    (k : LineLaw open_ v) (ho : (v.sets g).state = .standby ∨ o = .host ∨ o = .blackstart) : LineLaw open_ w := by
  refine h.lineLaw (hp.mark o).toPermitOrder ?_ fun j e => ?_
  · rw [SetsView.mark_self]
    exact (k g).ready_mark ho force
  · rw [SetsView.mark_other e]
    exact k j

theorem SetsMove.lineLaw (h : SetsMove r v w) (hp : PermitLaw v) (k : LineLaw open_ v) : LineLaw open_ w := by
  cases h with
  | demands g hs hm h => exact h.lineLaw_mark hp k (.inl hs)
  | runs g ha h => exact h.lineLaw_mark hp k (.inr (.inr rfl))
  | turns => exact k

theorem SetsMove.undriven (h : SetsMove r v w) (hr : ¬ r) (k : Undriven g l v) : Undriven g l w := by
  cases h with
  | demands j hs hm h => exact nomatch hm.symm.trans k.mode
  | runs j ha h => exact nomatch ha.symm.trans k.inactive
  | turns b hb =>
    refine ⟨k.mode, ?_, k.settled, k.origin, k.lines⟩
    by_contra hne
    rcases hb (by simpa using hne) with h | h | h
    · exact nomatch h.symm.trans k.inactive
    · exact nomatch h.symm.trans k.mode
    · exact hr h

/-- What every move keeps, any number of them keep. -/
theorem setsMoves_induction {P : SetsView → Prop} (step : ∀ v w, SetsMove r v w → P v → P w)
    (h : Relation.ReflTransGen (SetsMove r) v w) (k : P v) : P w := by
  induction h with
  | refl => exact k
  | tail _ m ih => exact step _ _ m ih

end Laws

/-- Between `s` and `t` the laws see moves of the sets. -/
def Sets (r : Prop) (s t : State) : Prop := Relation.ReflTransGen (SetsMove r) (setsView s) (setsView t)

section Moves

variable {r : Prop} {s t u s₀ : State}

theorem Sets.refl (s : State) : Sets r s s := Relation.ReflTransGen.refl

/-- What the laws do not see adds nothing. -/
theorem Sets.after (h : Sets r s t) (k : setsView u = setsView t) : Sets r s u := by
  unfold Sets
  rw [k]
  exact h

theorem Sets.of_eq (k : setsView t = setsView s) : Sets r s t := (Sets.refl s).after k

theorem Sets.ite {c : Prop} [Decidable c] (ht : Sets r s t) (hu : Sets r s u) : Sets r s (if c then t else u) := by
  split
  · exact ht
  · exact hu

theorem Sets.foldl {α : Type} {act : State → α → State} (k : ∀ {t} x, Sets r s t → Sets r s (act t x)) :
    ∀ (l : List α) {t : State}, Sets r s t → Sets r s (l.foldl act t)
  | [], _, h => h
  | x :: l, _, h => Sets.foldl k l (k x h)

theorem Sets.awaited (h : Sets r s t) : (setsView t).awaited = (setsView s).awaited :=
  setsMoves_induction (P := fun v => v.awaited = (setsView s).awaited) (fun _ _ m k => m.awaited.trans k) h rfl

theorem Sets.permitLaw (h : Sets r s t) (k : PermitLaw (setsView s)) : PermitLaw (setsView t) :=
  setsMoves_induction (fun _ _ m => m.permitLaw) h k

theorem Sets.lineLaw {open_ : Bool} (h : Sets r s t) (hp : PermitLaw (setsView s)) (k : LineLaw open_ (setsView s)) :
    LineLaw open_ (setsView t) :=
  (setsMoves_induction (P := fun v => PermitLaw v ∧ LineLaw open_ v)
    (fun _ _ m ⟨hp, k⟩ => ⟨m.permitLaw hp, m.lineLaw hp k⟩) h ⟨hp, k⟩).2

theorem Sets.undriven {g : Fin 4} {l : SetLines} (h : Sets False s t) (k : Undriven g l (setsView s)) :
    Undriven g l (setsView t) :=
  setsMoves_induction (fun _ _ m => m.undriven id) h k

/-! ### Demands, and the plan's starts and stops -/

/-- A demand starts a set in AUTO, or none (R136). -/
theorem serveDemand_sets (h : Sets r s₀ s) (source : Nat) : Sets r s₀ (serveDemand source s) := by
  unfold serveDemand
  split
  next active =>
    obtain ⟨auto, -⟩ := Bool.and_eq_true_iff.mp active
    split
    · exact h
    · split
      next g _ =>
        by_cases hs : setState s g = .standby
        · exact h.tail (.demands g hs (of_decide_eq_true auto)
            (startSet_event hs (by decide) fun _ => of_decide_eq_true auto))
        · unfold startSet
          rw [if_neg hs]
          exact h
      next => exact h.after (setsView_journal _ _ _ _)
  next => exact h

theorem startSet_sets (h : Sets r s₀ s) (ha : s.blk.state.active = true) (g : Fin 4) :
    Sets r s₀ (startSet g .blackstart s).1 := by
  by_cases hs : setState s g = .standby
  · exact h.tail (.runs g ha (startSet_event hs (by decide) nofun))
  · unfold startSet
    rw [if_neg hs]
    exact h

theorem stopSet_sets (h : Sets r s₀ s) (ha : s.blk.state.active = true) (g : Fin 4) :
    Sets r s₀ (stopSet false g .blackstart s) := by
  by_cases hs : (setState s g).stoppable = true
  · exact h.tail (.runs g ha (stopSet_event hs))
  · unfold stopSet
    rw [if_neg hs]
    exact h

/-! ### Shedding and the restorer (chapters 5 and 6) -/

theorem startDelayExpires_sets (h : Sets r s₀ s) : Sets r s₀ (startDelayExpires s) := by
  unfold startDelayExpires
  repeat' split
  · exact (serveDemand_sets h 3).after (by simp)
  · exact h
  · exact h

theorem fireStage_sets (h : Sets r s₀ s) (f : Nat) (i : Fin 4) : Sets r s₀ (fireStage f i s) := by
  unfold fireStage
  dsimp only
  split
  · exact h.after (by simp)
  · refine serveDemand_sets (h.after ?_) 2
    rw [setsView_journal, setsView_setProt]
    split <;> simp

theorem stageFunction_sets (h : Sets r s₀ s) (f : Nat) : Sets r s₀ (stageFunction f s) :=
  (Sets.foldl (fun i k => fireStage_sets k f i) _ (h.after (setsView_modShd s _))).after (setsView_modShd _ _)

theorem rocofShed_sets (h : Sets r s₀ s) (v : PresentValue) (x a : Int) : Sets r s₀ (rocofShed v x a s) := by
  unfold rocofShed
  dsimp only
  refine serveDemand_sets (h.after ?_) 2
  rw [setsView_journal]
  split <;> simp

theorem rocofAct_sets (h : Sets r s₀ s) (v : PresentValue) (x d : Int) : Sets r s₀ (rocofAct v x d s) := by
  unfold rocofAct holdoffStarts
  dsimp only
  refine Sets.after (.ite (h.after (by simp)) ?_) (setsView_modShd _ _)
  split
  · exact rocofShed_sets h v x _
  · exact h.after (by simp)

theorem rocofFunction_sets (h : Sets r s₀ s) (v : PresentValue) : Sets r s₀ (rocofFunction v s) := by
  unfold rocofFunction
  dsimp only
  repeat' split
  · exact h
  · exact h.after (setsView_modShd _ _)
  · exact rocofAct_sets (h.after (setsView_modShd _ _)) v _ _
  · exact h.after (setsView_modShd _ _)

theorem shdValue_sets (h : Sets r s₀ s) (v : PresentValue) : Sets r s₀ (shdValue v s) := by
  have k : Sets r s₀ (drawn s) := h.after (setsView_drawn s)
  exact .ite (rocofFunction_sets (stageFunction_sets k _) v) (stageFunction_sets (rocofFunction_sets k v) _)

theorem shdOnBus_sets (h : Sets r s₀ s) (n : BusNotice) : Sets r s₀ (shdOnBus n s) := by
  have dead : Sets r s₀ (if n.bus = .dead ∧ n.prev ≠ .dead then shdDead (if n.brk then shdBreak s else s)
      else if n.brk then shdBreak s else s) := h.after (by simp [shdBreak, shdDead])
  unfold shdOnBus
  dsimp only
  cases n.value with
  | none => exact dead.after (by simp)
  | some v => exact (shdValue_sets dead v).after (by simp)

/-! ### States of the sequencer, failure and retry (R158 to R172) -/

theorem blkEnter_sets (h : Sets r s₀ s) {new : BlkState}
    (hn : new.active = true → s.blk.state.active = true ∨ s.lnk.mode = .auto ∨ r) : Sets r s₀ (blkEnter new s) := by
  refine Relation.ReflTransGen.tail h ?_
  rw [setsView_blkEnter]
  exact .turns _ hn

theorem blkToIdle_sets (h : Sets r s₀ s) : Sets r s₀ (blkToIdle s) :=
  blkEnter_sets (s := { s with blk := { s.blk with confirm := .idle, run := {} } }) (h.after rfl) nofun

theorem failRun_sets (h : Sets r s₀ s) (code : Nat) : Sets r s₀ (failRun code s) := by
  unfold failRun
  dsimp only
  exact blkEnter_sets (h.after (by simp)) nofun

theorem endRun_sets (h : Sets r s₀ s) : Sets r s₀ (endRun s) := by
  unfold endRun
  dsimp only
  exact blkToIdle_sets (h.after (by simp))

/-- A run begins in AUTO, or where one may begin whatever the mode (R163). -/
theorem beginRun_sets (h : Sets r s₀ s) (how : RunStart) (hm : s.lnk.mode = .auto ∨ r) : Sets r s₀ (beginRun how s) := by
  unfold beginRun
  dsimp only
  have cleared : setsView (clearBus { s with blk := { s.blk with confirm := .idle, run := { begunBy := some how } } })
      = setsView s := (setsView_clearBus _).trans rfl
  generalize clearBus _ = u at cleared ⊢
  have k := h.after cleared
  split
  · exact failRun_sets k 1
  · split
    · exact failRun_sets k 1
    next g _ _ p _ =>
      have latched : setsView (latchLead g p (pushHeader u)) = setsView s := by simp [cleared]
      have mode : (latchLead g p (pushHeader u)).lnk.mode = s.lnk.mode := congrArg SetsView.mode latched
      refine Sets.after (blkEnter_sets (new := .running) (h.after latched) fun _ => .inr ?_) (by simp)
      rw [mode]
      exact hm

/-- A retry keeps the run in progress, or fails it (R172). -/
theorem retryRun_sets (h : Sets r s₀ s) (ha : s.blk.state.active = true) : Sets r s₀ (retryRun s) := by
  have cleared : setsView (clearReleases (clearBus s)) = setsView s := by simp
  unfold retryRun
  dsimp only
  generalize clearReleases (clearBus s) = u at cleared ⊢
  have k := h.after cleared
  split
  · exact failRun_sets k 1
  · split
    · exact failRun_sets k 1
    next g _ _ p _ =>
      have latched : setsView (modRun (fun r => { r with holdStack := false })
          (journal .blkRetry g p.val (latchLead g p u))) = setsView s := by simp [cleared]
      generalize modRun (fun r => { r with holdStack := false })
          (journal .blkRetry g p.val (latchLead g p u)) = w at latched ⊢
      have k := h.after latched
      have active : w.blk.state.active = true := (congrArg SetsView.active latched).trans ha
      exact .ite (.ite k ((blkEnter_sets k fun _ => .inl active).after (setsView_journal _ _ _ _)))
        ((blkEnter_sets k fun _ => .inl active).after (setsView_queueStep _))

theorem stopSet_active (force : Bool) (g : Fin 4) (o : SetOrigin) (s : State) :
    (stopSet force g o s).blk.state.active = s.blk.state.active := by
  rw [(stopSet_frame force g o s).blk (by decide)]

/-- The sets that an attempt has started are stopped (R172). -/
theorem stopSets_sets : ∀ (l : List (Fin 4)) {s : State}, Sets r s₀ s → s.blk.state.active = true →
    Sets r s₀ (l.foldl (fun s g => stopSet false g .blackstart s) s)
      ∧ (l.foldl (fun s g => stopSet false g .blackstart s) s).blk.state.active = true
  | [], _, h, ha => ⟨h, ha⟩
  | g :: l, _, h, ha => stopSets_sets l (stopSet_sets h ha g) ((stopSet_active _ _ _ _).trans ha)

theorem attemptNoted_sets (h : Sets r s₀ s) (ha : s.blk.state.active = true) (code : Nat) :
    Sets r s₀ (attemptNoted code s) ∧ (attemptNoted code s).blk.state.active = true := by
  unfold attemptNoted
  dsimp only
  generalize hu : journal .attemptFailed _ _ (modRun _ (withdrawGrant s)) = u
  have e : setsView u = setsView s := by simp [← hu]
  have active : u.blk.state.active = true := (congrArg SetsView.active e).trans ha
  split
  · exact stopSets_sets _ (h.after e) active
  · exact ⟨h.after e, active⟩

theorem attemptFail_sets (h : Sets r s₀ s) (ha : s.blk.state.active = true) (code : Nat) :
    Sets r s₀ (attemptFail code s) := by
  obtain ⟨noted, active⟩ := attemptNoted_sets h ha code
  rw [attemptFail_eq]
  exact .ite (retryRun_sets noted active) (failRun_sets noted code)

/-! ### Steps (R165 to R170) -/

theorem stepFails_sets (h : Sets r s₀ s) (ha : s.blk.state.active = true) (st : PlanStep) (expired : Bool) :
    Sets r s₀ (stepFails st expired s) :=
  .ite (h.after (by simp)) (attemptFail_sets h ha _)

/-- A start by the plan, and what it leaves of the sequencer's state. -/
theorem sets_of_startByPlan {g : Fin 4} {b : Bool} (h : Sets r s₀ s) (ha : s.blk.state.active = true)
    (e : startByPlan g s = (t, b)) : Sets r s₀ t ∧ t.blk.state.active = true := by
  have k := startSet_sets h ha g
  have active : (startSet g .blackstart s).1.blk.state.active = true := by
    rw [(startSet_frame g .blackstart s).blk (by decide)]
    exact ha
  unfold startByPlan at e
  dsimp only at e
  split at e
  · cases e
    exact ⟨k.after (setsView_modRun _ _), active⟩
  · rw [e] at k active
    exact ⟨k, active⟩

theorem stepAction_sets (h : Sets r s₀ s) (ha : s.blk.state.active = true) (st : PlanStep) :
    Sets r s₀ (stepAction st s) := by
  unfold stepAction
  cases st.kind with
  | startLead =>
    dsimp only
    split
    · exact stepFails_sets h ha st false
    · split
      · exact h.after (setsView_stepDone _ _)
      · split
        next e =>
          obtain ⟨k, -⟩ := sets_of_startByPlan h ha e
          exact k
        next e =>
          obtain ⟨k, active⟩ := sets_of_startByPlan h ha e
          exact stepFails_sets k active st false
  | closeFeeder =>
    dsimp only
    split
    · split
      next e => exact h.after (setsView_of_operate e)
      next e => exact h.after ((setsView_stepDone _ _).trans (setsView_of_operate e))
      next e =>
        have k := setsView_of_operate e
        exact stepFails_sets (h.after k) ((congrArg SetsView.active k).trans ha) st false
    · exact stepFails_sets h ha st false
  | wait => exact .ite (h.after (setsView_stepDone _ _)) (h.after (setsView_modRun _ _))
  | waitStable => exact h
  | startNext =>
    dsimp only
    split
    · exact stepFails_sets h ha st false
    · split
      next e =>
        obtain ⟨k, -⟩ := sets_of_startByPlan h ha e
        exact k.after (setsView_modRun _ _)
      next e =>
        obtain ⟨k, active⟩ := sets_of_startByPlan h ha e
        exact stepFails_sets k active st false
  | releasePv =>
    dsimp only
    split
    · exact .ite (h.after (by simp)) (stepFails_sets h ha st false)
    · exact stepFails_sets h ha st false
  | stop => exact endRun_sets (h.after (setsView_journal _ _ _ _))

theorem beginStep_sets (h : Sets r s₀ s) : Sets r s₀ (beginStep s) := by
  unfold beginStep
  split
  next begins =>
    obtain ⟨running, -⟩ := begins
    split
    · exact endRun_sets h
    · exact stepAction_sets (h.after (setsView_modRun _ _)) (active_of_running running) _
  next => exact h

theorem examineStep_sets (h : Sets r s₀ s) (ha : s.blk.state.active = true) (st : PlanStep) :
    Sets r s₀ (examineStep st s) := by
  unfold examineStep
  split
  · exact h
  · exact h.after (setsView_stepDone _ _)
  · exact h.after (setsView_giveGrant _ _)
  · exact stepFails_sets h ha st false

/-! ### Holding (R171) -/

theorem enterHeld_sets (h : Sets r s₀ s) (ha : s.blk.state.active = true) (cause : Nat) :
    Sets r s₀ (enterHeld cause s) := by
  unfold enterHeld
  exact (blkEnter_sets (h.after (setsView_modRun _ _)) fun _ => .inl ha).after (setsView_journal _ _ _ _)

theorem resumeRun_sets (h : Sets r s₀ s) (ha : s.blk.state.active = true) : Sets r s₀ (resumeRun s) := by
  have resumed : Sets r s₀ (journal .blkResumed 0 0 (blkEnter .running s)) :=
    (blkEnter_sets h fun _ => .inl ha).after (setsView_journal _ _ _ _)
  have active : (journal .blkResumed 0 0 (blkEnter .running s)).blk.state.active = true := by
    rw [journal_blk]
    exact congrArg SetsView.active (setsView_blkEnter .running s)
  unfold resumeRun
  dsimp only
  generalize journal .blkResumed 0 0 (blkEnter .running s) = u at resumed active ⊢
  split
  · have k := resumed.after (setsView_modRun u fun r =>
      { r with stepTimer := r.stepTimer.resume, waitTimer := r.waitTimer.resume })
    split
    · exact .ite k (examineStep_sets k active _)
    · exact k
  · exact resumed.after (setsView_queueStep _)

theorem blkOnStack_sets (h : Sets r s₀ s) : Sets r s₀ (blkOnStack s) := by
  have held (b : Bool) : Sets r s₀ (modRun (fun r => { r with holdStack := b }) s) := h.after (setsView_modRun _ _)
  unfold blkOnStack
  dsimp only
  split
  next active =>
    exact .ite (.ite (enterHeld_sets (held true) active 1) (held true))
      (.ite (resumeRun_sets (held false) active) (held false))
  next => exact h

/-! ### Confirming and beginning (R161 to R163) -/

theorem enterConfirming_sets (h : Sets r s₀ s) : Sets r s₀ (enterConfirming s) :=
  (blkEnter_sets (new := .confirming) (s := { s with blk := { s.blk with confirm := .running s.settings.sys.deadConfirmMs, run := {} } })
    (h.after rfl) nofun).after (setsView_journal _ _ _ _)

/-- The confirmation timer begins a run in AUTO alone (R161). -/
theorem confirmed_sets (h : Sets r s₀ s) : Sets r s₀ (confirmed s) := by
  unfold confirmed
  split
  next begins =>
    obtain ⟨auto, -⟩ := begins
    exact beginRun_sets h .timer (.inl auto)
  next =>
    exact (blkEnter_sets (new := .waiting) (s := { s with blk := { s.blk with confirm := .idle } }) (h.after rfl)
      nofun).after
      (setsView_journal _ _ _ _)

theorem confirmExpires_sets (h : Sets r s₀ s) : Sets r s₀ (confirmExpires s) := by
  unfold confirmExpires
  split
  · exact .ite (confirmed_sets h) (h.after rfl)
  · exact h

theorem stepTimerExpires_sets (h : Sets r s₀ s) : Sets r s₀ (stepTimerExpires s) := by
  unfold stepTimerExpires
  split
  next e => exact .ite (stepFails_sets h (active_of_runningStep e) _ true) h
  next => exact h

theorem waitTimerExpires_sets (h : Sets r s₀ s) : Sets r s₀ (waitTimerExpires s) := by
  unfold waitTimerExpires
  split
  · exact .ite (h.after (setsView_stepDone _ _)) h
  · exact h

/-! ### Notices to BLK -/

theorem followOn_sets : ∀ (k : Nat) (n : BusNotice) {s : State}, Sets r s₀ s → Sets r s₀ (followOn k n s)
  | 0, _, _, h => h
  | k + 1, n, s, h => by
    have begun := beginStep_sets h
    unfold followOn
    dsimp only
    split
    · split
      · split
        · exact followOn_sets k n (begun.after (setsView_stableOnBus _ n _))
        · exact begun
      · exact followOn_sets k n begun
    · exact h

theorem runOnBus_sets (h : Sets r s₀ s) (n : BusNotice) : Sets r s₀ (runOnBus n s) := by
  unfold runOnBus
  split
  next st e =>
    have examined := examineStep_sets h (active_of_runningStep e) st
    have stable := h.after (setsView_stableOnBus st n s)
    split
    · exact .ite (followOn_sets 13 n examined) examined
    · exact .ite (followOn_sets 13 n stable) stable
    · exact h
  next => exact h

theorem blkOnBusEvent_sets (h : Sets r s₀ s) (n : BusNotice) : Sets r s₀ (blkOnBusEvent n s) := by
  have begun : Sets r s₀ (if n.bus = .live ∧ n.prev ≠ .live then modRun (fun r => { r with clearing := [] }) s else s) :=
    h.after (by simp)
  unfold blkOnBusEvent
  dsimp only
  generalize (if n.bus = .live ∧ n.prev ≠ .live then modRun (fun r => { r with clearing := [] }) s else s) = u
    at begun ⊢
  split
  · exact .ite (enterConfirming_sets begun) begun
  · exact .ite (blkToIdle_sets begun) (.ite (confirmed_sets begun) begun)
  · exact .ite (blkToIdle_sets begun) begun
  next running => exact .ite (attemptFail_sets begun (active_of_running running) 4) (runOnBus_sets begun n)
  next held => exact .ite (attemptFail_sets begun (by rw [held]; rfl) 4) begun
  · exact begun

theorem blkOnBus_sets (h : Sets r s₀ s) (n : BusNotice) : Sets r s₀ (blkOnBus n s) := by
  have confirming : Sets r s₀ { s with blk :=
      { s.blk with state := .confirming, confirm := .running s.settings.sys.deadConfirmMs } } :=
    h.tail (.turns false nofun)
  exact .ite (.ite (confirming.after (by simp)) h) (blkOnBusEvent_sets h n)

theorem blkOnSet_sets (h : Sets r s₀ s) (g : Fin 4) (a b : SetState) : Sets r s₀ (blkOnSet g a b s) := by
  unfold blkOnSet
  split
  · exact .ite (enterConfirming_sets h) h
  · exact .ite (blkToIdle_sets h) h
  · exact .ite (blkToIdle_sets h) h
  · split
    next e => exact .ite (examineStep_sets h (active_of_runningStep e) _) h
    next => exact h
  · exact h

theorem blkOnFeeder_sets (h : Sets r s₀ s) (f : Fin 16) : Sets r s₀ (blkOnFeeder f s) := by
  have cleared := h.after (setsView_clearingOnFeeder f s)
  unfold blkOnFeeder
  dsimp only
  split
  next e => exact .ite (examineStep_sets cleared (active_of_runningStep e) _) cleared
  next => exact cleared

theorem blkOnMode_sets (h : Sets r s₀ s) (m : Mode) : Sets r s₀ (blkOnMode m s) := by
  unfold blkOnMode
  split
  next c =>
    obtain ⟨-, active, -⟩ := c
    exact attemptFail_sets h active 5
  next => exact h

/-! ### One notice (section 2.5) -/

theorem genOnMode_auto (s : State) : genOnMode .auto s = evalDispatch s := rfl

/-- Every answer to a notice is moves of the sets, but GEN's to a change to MONITOR. -/
theorem deliver_sets (n : Notice) (hn : n.isMonitorNotice = false) (s : State) : Sets r s (deliver n s) := by
  have h := Sets.refl (r := r) s
  unfold deliver
  split
  · exact shdOnBus_sets h _
  · exact h.after (setsView_rstOnBus _ _)
  · exact h.after ((curOnBus_frame _ s).setsView rfl)
  · exact blkOnBus_sets h _
  · exact h.after (by simp [genOnBus])
  · exact h.after (setsView_shdOnFeeder _ _ _ _)
  · exact h.after (setsView_rstOnFeeder _ _ _)
  · exact blkOnFeeder_sets h _
  · exact h
  · exact blkOnSet_sets h _ _ _
  · exact h.after ((curOnSet_frame _ _ s).setsView rfl)
  · exact h.after (setsView_evalDispatch s)
  · exact h
  · exact blkOnStack_sets h
  · exact h.after (setsView_evalDispatch s)
  · exact h
  · exact h.after (setsView_restorerTurn s)
  · exact h.after (by simp)
  · exact h.after ((curOnUpdate_frame _ s).setsView rfl)
  · exact h
  · exact h.after (setsView_restorerTurn s)
  · exact h.after (by simp)
  · exact h.after ((curOnStale_frame _ s).setsView rfl)
  · exact h
  · exact h.after (setsView_rstOnMode s)
  · next m =>
    cases m with
    | auto => exact h
    | monitor => cases hn
  · exact h.after ((applyTargets_frame s).setsView rfl)
  · exact blkOnMode_sets h _
  · exact h
  · exact beginStep_sets h

end Moves

end Sys2Proof.Machine

/-! ## The laws of the crank permit and of the lines: a change to MONITOR, and the end of an event -/

namespace Sys2Proof.Machine

/-! ### The abort of the automatic starts (R129) -/

/-- An automatic start in progress, as the laws see it (R136). -/
def SetOutline.autoStarts (a : SetOutline) : Bool := decide (a.origin = .auto) && a.state.starting

/-- A set at rest with its lines released (R116, R117). -/
def SetOutline.atRest (x : SetState) : SetOutline := ⟨x, .none, ⟨false, false, false, false⟩⟩

/-- The automatic start of a set is aborted, if one is in progress (R129). -/
def abortAt (g : Fin 4) (s : State) : State := if autoStarting s g then stopSet true g .auto s else s

theorem genOnMode_monitor (s : State) :
    genOnMode .monitor s = evalDispatch ((List.finRange 4).foldl (fun s g => abortAt g s) s) := rfl

section Abort

variable {v : SetsView} {s : State} {g k : Fin 4} {bus : BusState} {open_ : Bool}

theorem autoStarting_eq (s : State) (g : Fin 4) : autoStarting s g = ((setsView s).sets g).autoStarts := rfl

theorem stoppable_of_starting {x : SetState} (h : x.starting = true) : x.stoppable = true ∧ x ≠ .online := by
  cases x <;> first | exact ⟨rfl, by decide⟩ | cases h

/-- An aborted start, as the laws see it (R123, R129). -/
theorem setsView_abortAt (h : autoStarting s g = true) :
    setsView (abortAt g s) =
      (((setsView s).leave g).enter s.fmon.bus true g (restState s g)).serve s.fmon.bus := by
  obtain ⟨auto, starting⟩ := Bool.and_eq_true_iff.mp h
  obtain ⟨stoppable, notOnline⟩ := stoppable_of_starting starting
  have own : setsView (modSet g (fun c => { c with origin := .auto }) s) = setsView s := by
    have e : ((setsView s).sets g).origin = .auto := of_decide_eq_true auto
    rw [setsView_modSet_origin (o := .auto) rfl, ← e, SetsView.mark_own]
  unfold abortAt stopSet
  rw [if_pos h, if_pos stoppable]
  dsimp only
  rw [if_neg notOnline, if_pos starting, setsView_abortStart, own, modSet_fmon]
  rfl

theorem abortAt_of_not (h : autoStarting s g = false) : abortAt g s = s := by
  unfold abortAt
  rw [h]
  rfl

theorem abortAt_frame (g : Fin 4) (s : State) : SameBut [.gen, .evr, .notices, .draws] s (abortAt g s) := by
  simp [abortAt]

theorem restState_congr {t : State} (hi : t.inputs = s.inputs) (hs : t.settings = s.settings) (g : Fin 4) :
    restState t g = restState s g := by
  unfold restState setReady
  rw [hi, hs]

theorem restState_abortAt (g k : Fin 4) (s : State) : restState (abortAt g s) k = restState s k :=
  restState_congr ((abortAt_frame g s).inputs (by decide)) ((abortAt_frame g s).settings (by decide)) k

/-- Serving the permit touches a waiting set alone, which goes on to crank with its origin. -/
theorem SetsView.serve_set (bus : BusState) (v : SetsView) (k : Fin 4) :
    (v.serve bus).sets k = v.sets k
      ∨ k ∈ v.queue ∧ ∃ drive, (v.serve bus).sets k = (v.sets k).enter drive bus .cranking := by
  rcases v.serve_cases bus with ⟨-, e⟩ | ⟨j, q, -, hq, e⟩ <;> rw [e]
  · exact .inl rfl
  · by_cases h : k = j
    · subst h
      rw [SetsView.enter_self]
      exact .inr ⟨hq ▸ List.mem_cons_self, _, rfl⟩
    · rw [SetsView.enter_other h]
      exact .inl rfl

theorem not_mem_leave (g : Fin 4) (v : SetsView) : g ∉ (v.leave g).queue := by simp [SetsView.leave_queue]

/-- A set that leaves the permit and its queue stands as it has entered its state. -/
theorem SetsView.leaves_self {new : SetState} :
    ((((v.leave g).enter bus true g new).serve bus).sets g) = (v.sets g).enter true bus new := by
  rcases SetsView.serve_set bus ((v.leave g).enter bus true g new) g with e | ⟨hm, -⟩
  · rw [e, SetsView.enter_self]
    rfl
  · exact absurd hm (not_mem_leave g v)

/-- Of another set it changes nothing, or takes it from the queue to CRANKING with its origin. -/
theorem SetsView.leaves_other (h : PermitLaw v) (hk : k ≠ g) {new : SetState} :
    (((v.leave g).enter bus true g new).serve bus).sets k = v.sets k
      ∨ (v.sets k).state = .waitCrank
        ∧ ∃ drive, (((v.leave g).enter bus true g new).serve bus).sets k = (v.sets k).enter drive bus .cranking := by
  have same : ((v.leave g).enter bus true g new).sets k = v.sets k := SetsView.enter_other hk
  rcases SetsView.serve_set bus ((v.leave g).enter bus true g new) k with e | ⟨hm, drive, e⟩
  · exact .inl (e.trans same)
  · rw [same] at e
    have waits : k ∈ v.queue := by
      rw [SetsView.enter_queue, SetsView.leave_queue] at hm
      exact List.mem_of_mem_filter hm
    exact .inr ⟨(h.waiting k).mp waits, drive, e⟩

theorem enter_rest (bus : BusState) (s : State) (g : Fin 4) (a : SetOutline) :
    a.enter true bus (restState s g) = .atRest (restState s g) := by
  rcases restState_cases s g with h | h <;> rw [h] <;> rfl

theorem abortAt_permitLaw (h : PermitLaw (setsView s)) : PermitLaw (setsView (abortAt g s)) := by
  cases hg : autoStarting s g with
  | false => rwa [abortAt_of_not hg]
  | true =>
    rw [setsView_abortAt hg]
    exact (SetEvent.leaves s.fmon.bus _ (.inl (restState_atCrank s g)) : SetEvent true g (setsView s) _).permitLaw h

/-- An aborted start comes to rest with its lines released (R123, R129). -/
theorem abortAt_self (hg : autoStarting s g = true) :
    (setsView (abortAt g s)).sets g = .atRest (restState s g) := by
  rw [setsView_abortAt hg, SetsView.leaves_self, enter_rest]

theorem abortAt_other (h : PermitLaw (setsView s)) (hk : k ≠ g) :
    (setsView (abortAt g s)).sets k = (setsView s).sets k
      ∨ ((setsView s).sets k).state = .waitCrank
        ∧ ∃ drive, (setsView (abortAt g s)).sets k = ((setsView s).sets k).enter drive s.fmon.bus .cranking := by
  cases hg : autoStarting s g with
  | false =>
    rw [abortAt_of_not hg]
    exact .inl rfl
  | true =>
    rw [setsView_abortAt hg]
    exact SetsView.leaves_other h hk

/-- A start in progress stays one while that of another set is aborted, and none begins. -/
theorem autoStarting_abortAt (h : PermitLaw (setsView s)) (hk : k ≠ g) :
    autoStarting (abortAt g s) k = autoStarting s k := by
  rw [autoStarting_eq, autoStarting_eq]
  rcases abortAt_other h hk with e | ⟨hw, drive, e⟩ <;> rw [e]
  simp [SetOutline.autoStarts, SetOutline.enter, hw, SetState.starting]

theorem abortAt_keepsRest (h : PermitLaw (setsView s)) (hk : k ≠ g) {x : SetState}
    (hx : x ≠ .waitCrank) (hr : (setsView s).sets k = .atRest x) : (setsView (abortAt g s)).sets k = .atRest x := by
  rcases abortAt_other h hk with e | ⟨hw, -⟩
  · rw [e, hr]
  · rw [hr] at hw
    exact absurd hw hx

theorem abortAt_lineLaw (h : PermitLaw (setsView s)) (hl : LineLaw open_ (setsView s)) :
    LineLaw open_ (setsView (abortAt g s)) := by
  cases hg : autoStarting s g with
  | false => rwa [abortAt_of_not hg]
  | true =>
    rw [setsView_abortAt hg]
    have ready : LineReady (setsView s).mode open_ true ((setsView s).sets g) :=
      ⟨(hl g).only, fun _ => rfl, fun hc => ⟨(hl g).owned hc, fun hm ho => (hl g).driven hm ho hc⟩⟩
    exact (SetEvent.leaves s.fmon.bus _ (.inl (restState_atCrank s g)) : SetEvent true g (setsView s) _).lineLaw
      h.toPermitOrder ready fun k _ => hl k

theorem restState_ne_waitCrank (s : State) (g : Fin 4) : restState s g ≠ .waitCrank := by
  rcases restState_cases s g with h | h <;> rw [h] <;> decide

/-- What the aborts of some sets leave: the laws, every aborted start at rest, and the starts of no other sets. -/
structure Aborted (l : List (Fin 4)) (s t : State) : Prop where
  permit : PermitLaw (setsView t)
  line : ∀ open_, LineLaw open_ (setsView s) → LineLaw open_ (setsView t)
  rests : ∀ g ∈ l, autoStarting s g = true → (setsView t).sets g = .atRest (restState s g)
  stays : ∀ g, g ∉ l → ∀ x : SetState, x ≠ .waitCrank → (setsView s).sets g = .atRest x → (setsView t).sets g = .atRest x
  others : ∀ g, autoStarting t g = true → autoStarting s g = true ∧ g ∉ l

theorem aborts_aborted : ∀ (l : List (Fin 4)) (s : State), l.Nodup → PermitLaw (setsView s) →
    Aborted l s (l.foldl (fun s g => abortAt g s) s)
  | [], _, _, h => ⟨h, fun _ hl => hl, by simp, fun _ _ _ _ e => e, fun _ hg => ⟨hg, List.not_mem_nil⟩⟩
  | j :: l, s, hn, h => by
    obtain ⟨hj, hl⟩ := List.nodup_cons.mp hn
    obtain ⟨permit, line, rests, stays, others⟩ := aborts_aborted l (abortAt j s) hl (abortAt_permitLaw h)
    refine ⟨permit, fun o k => line o (abortAt_lineLaw h k), fun g hg ha => ?_, fun g hg x hx e => ?_, fun g hg => ?_⟩
    · by_cases e : g = j
      · subst e
        exact stays g hj _ (restState_ne_waitCrank s g) (abortAt_self ha)
      · have hm := List.mem_of_ne_of_mem e hg
        rw [← restState_abortAt j g s]
        exact rests g hm (by rw [autoStarting_abortAt h e]; exact ha)
    · obtain ⟨e1, e2⟩ := not_or.mp (mt List.mem_cons.mpr hg)
      exact stays g e2 x hx (abortAt_keepsRest h e1 hx e)
    · obtain ⟨ha, hm⟩ := others g hg
      have e : g ≠ j := by
        rintro rfl
        cases hs : autoStarting s g with
        | false =>
          rw [abortAt_of_not hs, hs] at ha
          cases ha
        | true =>
          rw [autoStarting_eq, abortAt_self hs] at ha
          cases ha
      exact ⟨(autoStarting_abortAt h e).symm.trans ha, by simp [e, hm]⟩

/-- Once the automatic starts are aborted, the lines are right without exception (R120, R129). -/
theorem LineLaw.closed (h : LineLaw true v) (ha : ∀ g, (v.sets g).autoStarts = false) : LineLaw false v := by
  have notAuto (g : Fin 4) (hs : (v.sets g).state.starting = true) : (v.sets g).origin ≠ .auto := fun ho => by
    have starts : (v.sets g).autoStarts = true := by simp [SetOutline.autoStarts, ho, hs]
    exact nomatch (ha g).symm.trans starts
  have starting (x : SetState) (hx : x.atCrank = true) : x.starting = true := by
    cases x <;> first | rfl | cases hx
  intro g
  refine ⟨(h g).only, fun hc _ => (h g).cranks hc fun ⟨_, ho⟩ => ?_, (h g).owned, fun _ _ hc => notAuto g (starting _ hc)⟩
  exact notAuto g (by rw [hc]; rfl) ho

end Abort

/-! ### The delivery of an event's notices -/

section Settle

variable {v w : SetsView} {s t : State} {g : Fin 4} {open_ : Bool} {l : SetLines}

theorem PermitLaw.congr (h : PermitLaw v) (hs : w.sets = v.sets) (hp : w.permit = v.permit) (hq : w.queue = v.queue) :
    PermitLaw w := by
  obtain ⟨⟨holder, waiting, once⟩, served⟩ := h
  rw [← hs, ← hp] at holder
  rw [← hs, ← hq] at waiting
  rw [← hq] at once served
  rw [← hp] at served
  exact ⟨⟨holder, waiting, once⟩, served⟩

theorem LineLaw.congr (h : LineLaw open_ v) (hs : w.sets = v.sets) (hm : w.mode = v.mode) : LineLaw open_ w := fun g => by
  rw [hs, hm]
  exact h g

/-- A law that holds without exception holds with the exception of R129 too. -/
theorem LineLaw.weaken {o p : Bool} (h : LineLaw o v) (hop : o = true → p = true) : LineLaw p v := by
  cases o with
  | false => exact h.opened p
  | true => rwa [hop rfl]

theorem eq_of_isMonitorNotice {n : Notice} (h : n.isMonitorNotice = true) : n = .mode .gen .monitor := by
  unfold Notice.isMonitorNotice at h
  split at h
  · rfl
  · cases h

theorem monitor_aborted (h : PermitLaw (setsView s)) :
    Aborted (List.finRange 4) s ((List.finRange 4).foldl (fun s g => abortAt g s) s) :=
  aborts_aborted _ s (List.nodup_finRange 4) h

/-- GEN takes a change to MONITOR. -/
theorem setsView_deliver_monitor (s : State) :
    setsView (deliver (.mode .gen .monitor) s)
      = setsView ((List.finRange 4).foldl (fun s g => abortAt g s) s) := by
  have e : deliver (.mode .gen .monitor) s = genOnMode .monitor s := rfl
  rw [e, genOnMode_monitor, setsView_evalDispatch]

theorem deliver_permitLaw (n : Notice) (h : PermitLaw (setsView s)) : PermitLaw (setsView (deliver n s)) := by
  cases hn : n.isMonitorNotice with
  | false => exact (deliver_sets (r := False) n hn s).permitLaw h
  | true =>
    rw [eq_of_isMonitorNotice hn, setsView_deliver_monitor]
    exact (monitor_aborted h).permit

/-- Every answer to a notice keeps the lines right, and GEN's to a change to MONITOR ends the exception of R129. -/
theorem deliver_lineLaw (n : Notice) (hp : PermitLaw (setsView s)) (h : LineLaw open_ (setsView s)) :
    LineLaw (open_ && !n.isMonitorNotice) (setsView (deliver n s)) := by
  cases hn : n.isMonitorNotice with
  | false =>
    rw [Bool.not_false, Bool.and_true]
    exact (deliver_sets (r := False) n hn s).lineLaw hp h
  | true =>
    rw [eq_of_isMonitorNotice hn, setsView_deliver_monitor, Bool.not_true, Bool.and_false]
    have aborted := monitor_aborted hp
    generalize (List.finRange 4).foldl (fun s g => abortAt g s) s = t at aborted ⊢
    obtain ⟨-, line, -, -, others⟩ := aborted
    refine (line true (h.weaken fun _ => rfl)).closed fun g => ?_
    by_contra hg
    obtain ⟨-, hm⟩ := others g ((autoStarting_eq t g).trans (by simpa using hg))
    exact hm (List.mem_finRange g)

theorem deliverAll_permitLaw : ∀ (ns : List Notice) {s : State}, PermitLaw (setsView s) →
    PermitLaw (setsView (ns.foldl (fun s n => deliver n s) s))
  | [], _, h => h
  | n :: ns, _, h => deliverAll_permitLaw ns (deliver_permitLaw n h)

theorem deliverAll_lineLaw : ∀ (ns : List Notice) {s : State}, PermitLaw (setsView s) →
    LineLaw (ns.any Notice.isMonitorNotice) (setsView s) →
    LineLaw false (setsView (ns.foldl (fun s n => deliver n s) s))
  | [], _, _, h => h
  | n :: ns, _, hp, h => by
    refine deliverAll_lineLaw ns (deliver_permitLaw n hp) ((deliver_lineLaw n hp h).weaken fun ho => ?_)
    rw [List.any_cons] at ho
    cases hn : n.isMonitorNotice <;> simp_all

theorem settle_permitLaw : ∀ (fuel : Nat) {s : State}, PermitLaw (setsView s) → PermitLaw (setsView (settle fuel s))
  | 0, s, h => by
    have emptied : PermitLaw (setsView { s with notices := [] }) := h.congr rfl rfl rfl
    exact (deliverAll_permitLaw s.notices emptied).congr rfl rfl rfl
  | fuel + 1, s, h => by
    unfold settle
    split
    · exact h
    next n rest _ =>
      have fewer : PermitLaw (setsView { s with notices := rest }) := h.congr rfl rfl rfl
      exact settle_permitLaw fuel (deliver_permitLaw n fewer)

/-- Whatever notices of a change to MONITOR waited, the delivery ends with the lines right without exception. -/
theorem settle_lineLaw : ∀ (fuel : Nat) {s : State}, PermitLaw (setsView s) →
    LineLaw (setsView s).awaited (setsView s) → LineLaw false (setsView (settle fuel s))
  | 0, s, hp, h => by
    have emptied : PermitLaw (setsView { s with notices := [] }) := hp.congr rfl rfl rfl
    exact (deliverAll_lineLaw s.notices emptied (h.congr rfl rfl)).congr rfl rfl
  | fuel + 1, s, hp, h => by
    unfold settle
    split
    next e =>
      have none : (setsView s).awaited = false := by simp [setsView, e]
      rwa [none] at h
    next n rest e =>
      have fewer : PermitLaw (setsView { s with notices := rest }) := hp.congr rfl rfl rfl
      have kept : LineLaw (setsView s).awaited (setsView { s with notices := rest }) := h.congr rfl rfl
      refine settle_lineLaw fuel (deliver_permitLaw n fewer) ((deliver_lineLaw n fewer kept).weaken fun ho => ?_)
      obtain ⟨awaited, other⟩ := Bool.and_eq_true_iff.mp ho
      have notMonitor : n.isMonitorNotice = false := by simpa using other
      have left : (setsView { s with notices := rest }).awaited = true := by
        simpa [setsView, e, notMonitor] using awaited
      exact (deliver_sets (r := False) n notMonitor _).awaited.trans left

/-- An undriven set keeps its lines while no notice of a change to MONITOR waits. -/
theorem deliver_undriven {n : Notice} (hn : n.isMonitorNotice = false) (h : Undriven g l (setsView s)) :
    Undriven g l (setsView (deliver n s)) := (deliver_sets n hn s).undriven h

theorem Undriven.noticed {ns : List Notice} (h : Undriven g l (setsView s))
    (hn : ns.any Notice.isMonitorNotice = false) : Undriven g l (setsView { s with notices := ns }) :=
  ⟨h.mode, h.inactive, hn, h.origin, h.lines⟩

theorem deliverAll_undriven : ∀ (ns : List Notice) {s : State}, ns.any Notice.isMonitorNotice = false →
    Undriven g l (setsView s) → Undriven g l (setsView (ns.foldl (fun s n => deliver n s) s))
  | [], _, _, h => h
  | n :: ns, _, hn, h => by
    obtain ⟨hn, hns⟩ := Bool.or_eq_false_iff.mp hn
    exact deliverAll_undriven ns hns (deliver_undriven hn h)

theorem settle_undriven : ∀ (fuel : Nat) {s : State}, Undriven g l (setsView s) →
    Undriven g l (setsView (settle fuel s))
  | 0, s, h => (deliverAll_undriven s.notices h.settled (h.noticed (ns := []) rfl)).noticed rfl
  | fuel + 1, s, h => by
    unfold settle
    split
    · exact h
    next n rest e =>
      have settled : s.notices.any Notice.isMonitorNotice = false := h.settled
      rw [e, List.any_cons] at settled
      obtain ⟨hn, hrest⟩ := Bool.or_eq_false_iff.mp settled
      exact settle_undriven fuel (deliver_undriven hn (h.noticed hrest))

/-! ### The lines at the end of an event (R117, R129) -/

theorem driveSets_outline (s : State) (g : Fin 4) :
    (setsView (driveSets s)).sets g =
      { (setsView s).sets g with
        lines := if ((setsView s).sets g).origin.drives s.lnk.mode
          then s.gen.sets[g].state.lines s.fmon.bus else ((setsView s).sets g).lines } := by
  have e : (setsView (driveSets s)).sets g = (endedSet s g).outline := congrArg SetCtl.outline (driveSets_set s g)
  rw [e]
  have origin : ((setsView s).sets g).origin = s.gen.sets[g].origin := rfl
  unfold endedSet
  rw [driven_eq_drives, origin]
  by_cases hd : s.gen.sets[g].origin.drives s.lnk.mode = true
  · rw [if_pos hd, if_pos hd]
    rfl
  · rw [if_neg hd, if_neg hd]
    rfl

theorem driveSets_permitLaw (h : PermitLaw (setsView s)) : PermitLaw (setsView (driveSets s)) := by
  have hp : (setsView (driveSets s)).permit = (setsView s).permit := by
    unfold setsView
    rw [driveSets_gen]
  have hq : (setsView (driveSets s)).queue = (setsView s).queue := by
    unfold setsView
    rw [driveSets_gen]
  refine ⟨⟨fun g => ?_, fun g => ?_, hq ▸ h.once⟩, fun hn => hq.trans (h.served (hp.symm.trans hn))⟩
  · rw [driveSets_outline, hp]
    exact h.holder g
  · rw [driveSets_outline, hq]
    exact h.waiting g

theorem driveSets_mode (s : State) : (setsView (driveSets s)).mode = (setsView s).mode :=
  congrArg Lnk.mode ((driveSets_frame s).lnk (by decide))

theorem driveSets_lineLaw (h : LineLaw false (setsView s)) : LineLaw false (setsView (driveSets s)) := by
  intro g
  rw [driveSets_mode, driveSets_outline]
  obtain ⟨only, cranks, owned, driven⟩ := h g
  cases hd : ((setsView s).sets g).origin.drives s.lnk.mode with
  | false => exact ⟨only, cranks, owned, driven⟩
  | true => exact ⟨of_decide_eq_true, fun hc _ => decide_eq_true hc, owned, driven⟩

theorem driveSets_undriven (h : Undriven g l (setsView s)) : Undriven g l (setsView (driveSets s)) := by
  have fr := driveSets_frame s
  have undriven : ((setsView s).sets g).origin.drives s.lnk.mode = false :=
    (drives_eq_false_iff _ _).mpr ⟨h.mode, h.origin⟩
  refine ⟨(driveSets_mode s).trans h.mode, ?_, ?_, ?_, ?_⟩
  · rw [← h.inactive]
    exact congrArg (fun b => b.state.active) (fr.blk (by decide))
  · rw [← h.settled]
    exact congrArg (fun ns => ns.any Notice.isMonitorNotice) (fr.notices (by decide))
  · rw [driveSets_outline]
    exact h.origin
  · rw [driveSets_outline, undriven]
    exact h.lines

/-- The end of every event keeps the law of the crank permit. -/
theorem conclude_permitLaw (h : PermitLaw (setsView s)) : PermitLaw (setsView (conclude s)) := by
  rw [conclude, (driveAlerts_frame _).setsView rfl]
  exact driveSets_permitLaw (settle_permitLaw _ h)

/-- The end of an event makes the lines right without exception. -/
theorem conclude_lineLaw (hp : PermitLaw (setsView s)) (h : LineLaw (setsView s).awaited (setsView s)) :
    LineLaw false (setsView (conclude s)) := by
  rw [conclude, (driveAlerts_frame _).setsView rfl]
  exact driveSets_lineLaw (settle_lineLaw _ hp h)

theorem conclude_undriven (h : Undriven g l (setsView s)) : Undriven g l (setsView (conclude s)) := by
  rw [conclude, (driveAlerts_frame _).setsView rfl]
  exact driveSets_undriven (settle_undriven _ h)

end Settle

end Sys2Proof.Machine

/-! ## The laws of the crank permit and of the lines: commands and steps -/

namespace Sys2Proof.Machine

/-! ### What a block does on its own at an event -/

/-- What a block does at the start of an event keeps the laws, the notice of a change to MONITOR excepted. -/
structure Acts (s u : State) : Prop where
  permit : PermitLaw (setsView s) → PermitLaw (setsView u)
  line : PermitLaw (setsView s) → LineLaw false (setsView s) → (setsView s).awaited = false →
    LineLaw (setsView u).awaited (setsView u)

/-- What a block does at the start of an event that is no request leaves the lines of the undriven sets too. -/
structure EventActs (s u : State) : Prop extends Acts s u where
  undriven : ∀ g l, Undriven g l (setsView s) → Undriven g l (setsView u)

section Acts

variable {s t u : State} {g : Fin 4} {o : SetOrigin} {force : Bool}

theorem Acts.refl (s : State) : Acts s s := ⟨id, fun _ h _ => h.weaken nofun⟩

theorem EventActs.refl (s : State) : EventActs s s := ⟨.refl s, fun _ _ => id⟩

theorem Acts.before (k : setsView t = setsView s) (h : Acts t u) : Acts s u := by
  obtain ⟨permit, line⟩ := h
  rw [k] at permit line
  exact ⟨permit, line⟩

theorem Acts.after (h : Acts s t) (k : setsView u = setsView t) : Acts s u := by
  obtain ⟨permit, line⟩ := h
  rw [← k] at permit line
  exact ⟨permit, line⟩

theorem Acts.ite {c : Prop} [Decidable c] (ht : Acts s t) (hu : Acts s u) : Acts s (if c then t else u) := by
  split
  · exact ht
  · exact hu

theorem EventActs.before (k : setsView t = setsView s) (h : EventActs t u) : EventActs s u := by
  obtain ⟨acts, undriven⟩ := h
  rw [k] at undriven
  exact ⟨acts.before k, undriven⟩

theorem EventActs.of_eq (k : setsView t = setsView s) : EventActs s t := (EventActs.refl t).before k

theorem EventActs.ite {c : Prop} [Decidable c] (ht : EventActs s t) (hu : EventActs s u) :
    EventActs s (if c then t else u) := by
  split
  · exact ht
  · exact hu

theorem Sets.acts {r : Prop} (h : Sets r s t) : Acts s t :=
  ⟨h.permitLaw, fun hp k _ => (h.lineLaw hp k).weaken nofun⟩

theorem Sets.eventActs (h : Sets False s t) : EventActs s t := ⟨h.acts, fun _ _ => h.undriven⟩

/-- An event of a set that has just taken an origin, its line being ready. -/
theorem acts_of_mark (h : SetEvent force g ((setsView s).mark g o) (setsView t))
    (hr : ∀ m, LineOk m false ((setsView s).sets g) → LineReady m false force { (setsView s).sets g with origin := o }) :
    Acts s t where
  permit k := h.permitLaw (k.mark o)
  line hp k _ := by
    have law : LineLaw false (setsView t) := by
      refine h.lineLaw (hp.mark o).toPermitOrder ?_ fun j e => ?_
      · rw [SetsView.mark_self]
        exact hr _ (k g)
      · rw [SetsView.mark_other e]
        exact k j
    exact law.weaken nofun

/-- An event of a set that has no new origin. -/
theorem acts_of_event (h : SetEvent force g (setsView s) (setsView t)) : Acts s t where
  permit k := h.permitLaw k
  line hp k _ := by
    have law : LineLaw false (setsView t) := h.lineLaw hp.toPermitOrder ((k g).ready force) fun j _ => k j
    exact law.weaken nofun

theorem Moved.eventActs (h : Moved g s t) : EventActs s t := by
  have acted {w : SetsView} (h : Relation.ReflGen (SetEvent false g) (setsView s) w) (e : setsView t = w) :
      EventActs s t := by
    cases h with
    | refl => exact .of_eq e
    | single h =>
      rw [← e] at h
      exact ⟨acts_of_event h, fun _ _ => h.undriven⟩
  exact acted h rfl

/-! ### The events of the dispatcher's own timers -/

theorem lowReserveExpires_eventActs (s : State) : EventActs s (lowReserveExpires s) := by
  have restarted (t : State) (n : Timer) : setsView (modGen (fun x => { x with lowReserve := n }) t) = setsView t := rfl
  exact .ite ((serveDemand_sets (.refl s) 1).after (restarted _ _)).eventActs (.refl s)

theorem online_of_lagSet (h : lagSet s = some g) : s.gen.sets[g].state = .online := by
  obtain ⟨-, hm⟩ := List.mem_filter.mp (List.mem_of_getLast? h)
  obtain ⟨-, online⟩ := Bool.and_eq_true_iff.mp hm
  exact of_decide_eq_true online

/-- The lag set is stopped as it stands ONLINE (R137). -/
theorem stopSet_online_eventActs (h : setState s g = .online) : EventActs s (stopSet false g .auto s) := by
  have event : SetEvent false g ((setsView s).mark g .auto) (setsView (stopSet false g .auto s)) :=
    stopSet_event (by rw [h]; rfl)
  have state : ((setsView s).sets g).state = .online := h
  refine ⟨acts_of_mark event fun m k => ⟨k.only, fun hc => ?_, fun hc => ?_⟩, fun _ _ k => event.undriven k.markAuto⟩
  · exact nomatch state.symm.trans hc
  · exact nomatch (congrArg SetState.atCrank state).symm.trans hc

theorem stopTimerExpires_eventActs (s : State) : EventActs s (stopTimerExpires s) := by
  unfold stopTimerExpires
  dsimp only
  split
  · have idle : setsView (modGen (fun n => { n with stopTimer := .idle }) s) = setsView s := rfl
    split
    next g hg => exact (stopSet_online_eventActs (online_of_lagSet hg)).before idle
    next => exact .of_eq idle
  · exact .refl s

/-! ### Debounced changes -/

theorem deliverInput_eventActs (i : Fin 32) (level : Bool) (s : State) : EventActs s (deliverInput i level s) := by
  unfold deliverInput
  dsimp only
  repeat' split
  · exact .of_eq (setsView_feederStatusChange _ level s)
  · exact (readyChange_moved _ _).eventActs
  · exact (runningChange_moved _ _).eventActs
  · exact (breakerChange_moved _ _).eventActs
  · exact .of_eq (setsView_of_mode (locationChange_frame level s) rfl (by simp [locationChange]))
  · exact .refl s

theorem debouncedTo_eventActs (i : Fin 32) (level : Bool) (s : State) : EventActs s (debouncedTo i level s) :=
  .ite (.refl s) ((deliverInput_eventActs i level _).before ((modInput_frame _ _ _).setsView rfl))

/-! ### Requests (sections 7 and 10) -/

variable (fr : Frame)

theorem startGenset_acts (s : State) : Acts s (startGenset fr s).state := by
  unfold startGenset
  split
  · exact .refl s
  next g _ =>
    by_cases hs : setState s g = .standby
    · have event := startSet_event (o := .host) hs (by decide) nofun
      have acts : Acts s (startSet g .host s).1 :=
        acts_of_mark event fun _ k => k.ready_mark (.inr (.inl rfl)) false
      split
      next e =>
        rw [e] at acts
        exact acts
      next => exact .refl s
    · have e : startSet g .host s = (s, false) := if_neg hs
      rw [e]
      exact .refl s

theorem stopGenset_acts (s : State) : Acts s (stopGenset fr s).state := by
  unfold stopGenset
  split
  · exact .refl s
  next g _ =>
    split
    next hs => exact acts_of_mark (stopSet_event (o := .host) hs) fun _ k => k.ready_mark (.inr (.inl rfl)) false
    next => exact .refl s

theorem resetLockoutRequest_acts (s : State) : Acts s (resetLockoutRequest fr s).state := by
  unfold resetLockoutRequest
  split
  · exact .refl s
  next g _ =>
    split
    next hs =>
      rcases resetLockout_event hs with event | event
      · exact acts_of_mark event fun _ k => k.ready_mark (.inr (.inl rfl)) false
      · exact acts_of_event event
    next => exact .refl s

theorem setsView_modeChange (m : Mode) (l : Link) (s : State) :
    setsView (modeChange m l s) =
      { setsView s with mode := m, awaited := decide (m = .monitor) || (setsView s).awaited } := by
  have fr : SameBut [.lnk, .evr, .notices, .draws] s (modeChange m l s) := by simp [modeChange]
  have mode : (modeChange m l s).lnk.mode = m := by simp [modeChange]
  have awaited : (modeChange m l s).notices.any Notice.isMonitorNotice
      = (decide (m = .monitor) || s.notices.any Notice.isMonitorNotice) := by
    have perm := permute_perm (nextOrder (journal .modeChanged l.code m.code (modLnk (fun n => { n with mode := m }) s)))
      [Consumer.shd, .rst, .gen, .cur, .blk]
    simp only [modeChange, emit_notices, journal_notices, modLnk_notices, List.any_append, List.any_map]
    rw [perm.any_eq]
    cases m <;> simp [Notice.isMonitorNotice, Bool.or_comm]
  simp only [setsView, fr.gen (by decide), fr.blk (by decide), mode, awaited]

/-- After a change to MONITOR the law stands with the exception of R129 until GEN has taken the notice. -/
theorem modeChange_acts (m : Mode) (l : Link) (s : State) : Acts s (modeChange m l s) where
  permit h := by
    rw [setsView_modeChange]
    exact h.congr rfl rfl rfl
  line _ h hn := by
    rw [setsView_modeChange]
    intro g
    refine ⟨(h g).only, fun hc _ => (h g).cranks hc (by simp), (h g).owned, fun hm ho => ?_⟩
    obtain ⟨notMonitor, -⟩ := Bool.or_eq_false_iff.mp ho
    exact absurd hm (of_decide_eq_false notMonitor)

theorem setMode_acts (s : State) : Acts s (setMode fr s).state := by
  unfold setMode
  split
  · exact .refl s
  · exact .ite (.refl s) (modeChange_acts _ _ s)

theorem blkBegin_acts (s : State) : Acts s (blkBegin s).state := by
  unfold blkBegin
  split
  · exact (beginRun_sets (r := True) (.refl s) .begin (.inr trivial)).acts
  · exact .refl s

theorem blkHold_acts (s : State) : Acts s (blkHold s).state := by
  have manual : Sets False s (modRun (fun r => { r with holdManual := true }) s) := .of_eq (setsView_modRun _ _)
  unfold blkHold
  split
  next running => exact (enterHeld_sets manual (active_of_running running) 2).acts
  next => exact manual.acts
  next => exact .refl s

theorem blkResume_acts (s : State) : Acts s (blkResume s).state := by
  have cleared : Sets False s (modRun (fun r => { r with holdManual := false }) s) := .of_eq (setsView_modRun _ _)
  unfold blkResume
  split
  next c =>
    obtain ⟨held, -⟩ := c
    have active : (modRun (fun r => { r with holdManual := false }) s).blk.state.active = true :=
      (congrArg BlkState.active held).trans rfl
    exact .ite cleared.acts (resumeRun_sets cleared active).acts
  next => exact .refl s

theorem blkAbort_acts (s : State) : Acts s (blkAbort s).state := by
  unfold blkAbort
  split
  next active => exact (attemptFail_sets (r := False) (.refl s) active 5).acts
  next => exact .refl s

theorem blkAck_acts (s : State) : Acts s (blkAck s).state := by
  unfold blkAck
  split
  · exact ((blkToIdle_sets (r := False) (.refl s)).after (setsView_journal _ _ _ _)).acts
  · exact .refl s

/-! ### Requests that the laws do not see -/

theorem setsView_operateFeeder (s : State) : setsView (operateFeeder fr s).state = setsView s := by
  unfold operateFeeder
  split
  · split
    · rfl
    · split
      next => rfl
      next e => exact setsView_of_operate e
  · rfl

theorem setsView_shed (s : State) : setsView (shed fr s).state = setsView s := by
  unfold shed
  split
  · rfl
  · dsimp only
    split
    · rfl
    · exact setsView_manualShed _ _ _

theorem setsView_onEntry {act : Nat → Entry → Answer} (k : ∀ pos e, setsView (act pos e).state = setsView s) :
    setsView (onEntry fr s act).state = setsView s := by
  unfold onEntry
  dsimp only
  split
  · rfl
  · rfl
  · rfl
  · split
    · rfl
    · exact k _ _

theorem setsView_restoreEntry (s : State) : setsView (restoreEntry fr s).state = setsView s := by
  refine setsView_onEntry fr fun pos e => ?_
  repeat' split
  · rfl
  · rfl
  · rfl
  · simp [reply]

theorem setsView_holdEntry (s : State) : setsView (holdEntry fr s).state = setsView s := by
  refine setsView_onEntry fr fun pos e => ?_
  split
  · rfl
  · simp [reply, heldAt]

theorem setsView_releaseEntry (s : State) : setsView (releaseEntry fr s).state = setsView s := by
  refine setsView_onEntry fr fun pos e => ?_
  split
  · simp [reply]
  · rfl

theorem setsView_discardEntry (s : State) : setsView (discardEntry fr s).state = setsView s :=
  setsView_onEntry fr fun pos e => by simp [reply, removeEntry]

theorem setsView_measure (s : State) : setsView (measure fr s).state = setsView s := by
  unfold measure
  split
  · rfl
  · exact setsView_applyMeasure _ s

theorem setsView_configureFeeder (s : State) : setsView (configureFeeder fr s).state = setsView s := by
  unfold configureFeeder
  split
  · rfl
  next f _ =>
    have lined (t : FeederSettings) : setsView (feederLined f t s) = setsView s :=
      ((feederLined_frame f t s).setsView rfl)
    have written (t : FeederSettings) : setsView (feederWritten f t s) = setsView s := by
      rw [feederWritten_eq]
      split
      · exact lined t
      · exact (setsView_feederServiceChange f _).trans (lined t)
    exact written _

theorem setsView_whenChanged (b : Bool) {act : State → State} (h : ∀ s, setsView (act s) = setsView s) (s : State) :
    setsView (whenChanged b act s) = setsView s := by
  unfold whenChanged
  split
  · exact h s
  · rfl

theorem setsView_pointsGoStale (s : State) : setsView (pointsGoStale s) = setsView s := by
  unfold pointsGoStale
  dsimp only
  split
  · rfl
  · exact setsView_emit fun _ => rfl

theorem setsView_supervisionChanged (s : State) : setsView (supervisionChanged s) = setsView s := by
  refine setsView_of_mode (supervisionChanged_frame s) rfl ?_
  unfold supervisionChanged restoreSupervision
  dsimp only
  repeat' split
  · rfl
  · rw [(curOnSupervision_frame _ _).lnk (by decide), journal_lnk]
    rfl
  · rfl

theorem setsView_nominalTaken (s : State) : setsView (nominalTaken s) = setsView s := setsView_nominalChanged _

theorem setsView_systemWritten (t : SystemSettings) (s : State) : setsView (systemWritten t s) = setsView s := by
  unfold systemWritten systemChanged
  dsimp only
  rw [setsView_whenChanged _ setsView_supervisionChanged, setsView_whenChanged _ fun s => (recomputeShares_frame s).setsView rfl,
    setsView_whenChanged _ setsView_evalDispatch, setsView_whenChanged _ setsView_pointsGoStale,
    setsView_linesRestyled, setsView_whenChanged _ setsView_nominalTaken]
  rfl

theorem setsView_configureSystem (s : State) : setsView (configureSystem fr s).state = setsView s := by
  unfold configureSystem
  split
  · rfl
  · split
    · rfl
    · exact setsView_systemWritten _ s

theorem setsView_configurePv (s : State) : setsView (configurePv fr s).state = setsView s := by
  unfold configurePv
  split
  · rfl
  next j _ =>
    exact ((pvConfigured_frame j s _).setsView rfl).trans
      ((setsView_reclampChannel j _).trans ((writeChannel_frame j _ s).setsView rfl))

theorem setsView_setRated (g : Fin 4) (x : SetSettings) (s : State) : setsView (setRated g x s) = setsView s := by
  unfold setRated
  rw [setsView_reclampSet, setsView_ite, setsView_modSet rfl, ite_self]
  rfl

/-- A set whose settings are written may be admitted or withdrawn (R118). -/
theorem setWritten_acts (g : Fin 4) (x : SetSettings) (s : State) : Acts s (setWritten g x s) := by
  have service (b : Bool) (u : State) : Acts u (whenChanged b (setServiceChange g) u) := by
    unfold whenChanged
    split
    · exact (setServiceChange_moved u).eventActs.toActs
    · exact .refl u
  have timed : setsView (setWritten g x s)
      = setsView (whenChanged (s.settings.sets[g].inService != x.inService) (setServiceChange g) (setRated g x s)) :=
    (setsView_whenChanged _ (fun s => (recomputeShares_frame s).setsView rfl) _).trans
      (setsView_whenChanged _ setsView_evalDispatch _)
  exact ((service _ _).before (setsView_setRated g x s)).after timed

theorem configureGenset_acts (s : State) : Acts s (configureGenset fr s).state := by
  unfold configureGenset
  repeat' split
  · exact .refl s
  · exact .refl s
  · exact setWritten_acts _ _ s
  · exact .refl s

end Acts

end Sys2Proof.Machine

/-! ### What a command keeps -/

namespace Sys2Proof.Machine

/-- What holds of the laws of the crank permit and of the lines at `s` holds of them at `t`. -/
structure KeepsCrankLaws (s t : State) : Prop where
  permit : PermitLaw (setsView s) → PermitLaw (setsView t)
  line : PermitLaw (setsView s) → LineLaw false (setsView s) → s.notices = [] →
    LineLaw false (setsView t) ∧ t.notices = []

/-- In MONITOR the lines of the undriven sets stand too. -/
structure KeepsUndriven (s t : State) : Prop extends KeepsCrankLaws s t where
  undriven : ∀ g l, Undriven g l (setsView s) → Undriven g l (setsView t)

section Keeps

variable {s t u : State}

theorem KeepsCrankLaws.refl (s : State) : KeepsCrankLaws s s := ⟨id, fun _ h hn => ⟨h, hn⟩⟩

theorem KeepsUndriven.refl (s : State) : KeepsUndriven s s := ⟨.refl s, fun _ _ => id⟩

theorem KeepsCrankLaws.ite {c : Prop} [Decidable c] (ht : KeepsCrankLaws s t) (hu : KeepsCrankLaws s u) :
    KeepsCrankLaws s (if c then t else u) := by
  split
  · exact ht
  · exact hu

/-- What follows unseen, with the notices as they are, keeps the laws too. -/
theorem KeepsCrankLaws.after (h : KeepsCrankLaws s t) (k : setsView u = setsView t) (hn : u.notices = t.notices) :
    KeepsCrankLaws s u := by
  obtain ⟨permit, line⟩ := h
  rw [← k] at permit line
  rw [← hn] at line
  exact ⟨permit, line⟩

theorem keepsCrank_of_frame {ps : List Part} (k : SameBut ps s t) (hp : ps.all (· ∈ offSets) = true) :
    KeepsCrankLaws s t :=
  (KeepsCrankLaws.refl s).after (k.setsView hp) ((k.widen offSets hp).notices (by decide))

/-- The end of an event keeps the laws when its own block does. -/
theorem Acts.keeps (h : Acts s u) : KeepsCrankLaws s (conclude u) where
  permit k := conclude_permitLaw (h.permit k)
  line hp k hn :=
    ⟨conclude_lineLaw (h.permit hp) (h.line hp k (by simp [setsView, hn])), conclude_notices u⟩

theorem EventActs.keeps (h : EventActs s u) : KeepsUndriven s (conclude u) :=
  ⟨h.toActs.keeps, fun g l k => conclude_undriven (h.undriven g l k)⟩

/-! ### The links (section 10) -/

@[simp] theorem setsView_modLink (l : Link) (m : LinkCtl → LinkCtl) (s : State) :
    setsView (modLink l m s) = setsView s :=
  setsView_of_mode (modLink_frame l m s) rfl (by unfold modLink; split <;> rfl)

@[simp] theorem setsView_setLinkError (e : LinkError) (l : Link) (s : State) :
    setsView (setLinkError e l s) = setsView s := by
  simp [setLinkError]

theorem setsView_discardFrame (e : LinkError) (l : Link) (s : State) : setsView (discardFrame e l s) = setsView s := by
  simp [discardFrame]

theorem setsView_replyDone (l : Link) (s : State) : setsView (replyDone l s) = setsView s := by
  have flagged (t : State) : setsView (modLnk (fun n => { n with reset := .draining }) t) = setsView t := rfl
  unfold replyDone takeLines
  dsimp only
  split
  · rw [setsView_ite, flagged, ite_self]
    split <;> simp
  · rfl

theorem setsView_supervisionExpires (s : State) : setsView (supervisionExpires s) = setsView s := by
  have lost : setsView (modLnk (fun l => { l with supervised := false, supTimer := .idle }) s) = setsView s := rfl
  unfold supervisionExpires
  split
  · rw [(curOnSupervision_frame _ _).setsView rfl, setsView_journal, setsView_setAdv, lost]
  · rfl

theorem setsView_storeEnds (readBack : List Byte) (s : State) : setsView (storeEnds readBack s) = setsView s := by
  unfold storeEnds
  split
  · rfl
  · dsimp only
    rw [setsView_modLink, setsView_journal]
    rfl

theorem setsView_takeByte (l : Link) (s : State) : setsView (takeByte l s) = setsView s := by
  have queued (t : State) (p : List Instr) : setsView { t with pending := p } = setsView t := rfl
  unfold takeByte receiveNext
  dsimp only
  repeat' split
  · exact setsView_modLink _ _ _
  · rfl
  · exact (queued _ _).trans (setsView_modLink _ _ _)
  · exact setsView_modLink _ _ _

theorem setsView_clearLinkErrors (fr : Frame) (s : State) : setsView (clearLinkErrors fr s).state = setsView s := by
  unfold clearLinkErrors
  dsimp only
  split
  · rfl
  · simp [reply]

theorem setsView_storeSettings (fr : Frame) (s : State) : setsView (storeSettings fr s).state = setsView s :=
  (setsView_modLink _ _ _).trans rfl

/-! ### Commands of either form (R179 to R183) -/

theorem event_keepsCrank {act : State → State} (k : EventActs s (act s)) : KeepsUndriven s (event act s) := by
  unfold event
  split
  · exact .refl s
  · exact k.keeps

theorem event_unseenCrank {act : State → State} (k : setsView (act s) = setsView s) :
    KeepsUndriven s (event act s) := event_keepsCrank (.of_eq k)

theorem event_offCrank {act : State → State} {ps : List Part} (k : SameBut ps s (act s))
    (hp : ps.all (· ∈ offSets) = true) : KeepsUndriven s (event act s) :=
  event_unseenCrank (k.setsView hp)

theorem answer_seen (kind : Byte) (f : Frame) (a : Answer) :
    setsView (answer kind f a) = setsView (conclude a.state) ∧ (answer kind f a).notices = [] := by
  unfold answer
  dsimp only
  split
  · exact ⟨rfl, conclude_notices _⟩
  · exact ⟨setsView_modLink _ _ _, (modLink_notices _ _ _).trans (conclude_notices _)⟩

/-- A frame changes nothing, or ends as an event: one at which nothing is seen, or the event of the block that performs
the request. -/
theorem takeFrame_seen (kind : Byte) (f : Frame) (check : State → Option Status) (perform : State → Answer) (s : State) :
    takeFrame kind f check perform s = s
      ∨ ∃ u, (setsView u = setsView s ∨ u = (perform (superviseFrame f.link s)).state)
          ∧ setsView (takeFrame kind f check perform s) = setsView (conclude u)
          ∧ (takeFrame kind f check perform s).notices = [] := by
  have noted : setsView (superviseFrame f.link s) = setsView s := setsView_superviseFrame _ _
  have flagged (e : LinkError) : setsView (setLinkError e f.link (superviseFrame f.link s)) = setsView s :=
    (setsView_setLinkError _ _ _).trans noted
  unfold takeFrame
  dsimp only
  repeat' split
  · exact .inl rfl
  · exact .inr ⟨_, .inl noted, rfl, conclude_notices _⟩
  · exact .inr ⟨_, .inl (flagged _), rfl, conclude_notices _⟩
  · exact .inr ⟨_, .inl noted, answer_seen _ _ _⟩
  · exact .inr ⟨_, .inr rfl, answer_seen _ _ _⟩
  · exact .inl rfl

/-- A frame keeps the laws when the block that performs its request does. -/
theorem takeFrame_keepsCrank {kind : Byte} {f : Frame} {check : State → Option Status} {perform : State → Answer}
    (k : ∀ t, Acts t (perform t).state) : KeepsCrankLaws s (takeFrame kind f check perform s) := by
  rcases takeFrame_seen kind f check perform s with e | ⟨u, hu, view, notices⟩
  · rw [e]
    exact .refl s
  · refine KeepsCrankLaws.after (t := conclude u) ?_ view (notices.trans (conclude_notices u).symm)
    rcases hu with hu | rfl
    · exact (EventActs.of_eq hu).toActs.keeps
    · exact ((k _).before (setsView_superviseFrame _ _)).keeps

/-- A frame at which nothing is performed leaves the lines of the undriven sets too. -/
theorem takeFrame_undriven {kind : Byte} {f : Frame} {check : State → Option Status} {perform : State → Answer}
    (k : ∀ t, setsView (perform t).state = setsView t) : KeepsUndriven s (takeFrame kind f check perform s) := by
  refine ⟨takeFrame_keepsCrank fun t => (EventActs.of_eq (k t)).toActs, fun g l h => ?_⟩
  rcases takeFrame_seen kind f check perform s with e | ⟨u, hu, view, -⟩
  · rwa [e]
  · have same : setsView u = setsView s := by
      rcases hu with hu | rfl
      · exact hu
      · exact (k _).trans (setsView_superviseFrame _ _)
    rw [view]
    rw [← same] at h
    exact conclude_undriven h

theorem takeFrame_unseenCrank {kind : Byte} {f : Frame} {check : State → Option Status} {perform : State → Answer}
    (k : ∀ t, setsView (perform t).state = setsView t) : KeepsCrankLaws s (takeFrame kind f check perform s) :=
  takeFrame_keepsCrank fun t => (EventActs.of_eq (k t)).toActs

theorem takeFrame_offCrank {kind : Byte} {f : Frame} {check : State → Option Status} {perform : State → Answer}
    {ps : List Part} (k : ∀ t, SameBut ps t (perform t).state) (hp : ps.all (· ∈ offSets) = true) :
    KeepsCrankLaws s (takeFrame kind f check perform s) :=
  takeFrame_unseenCrank fun t => (k t).setsView hp

/-- A BLACKSTART request keeps the laws when the rule of its code does (Table 10-5). -/
theorem blackstart_keepsCrank (fr : Frame) (s : State) (code : Nat) {act : State → Answer}
    (k : ∀ t, Acts t (act t).state) : KeepsCrankLaws s (blackstart code fr act s) := by
  unfold blackstart request
  refine takeFrame_keepsCrank fun t => ?_
  split
  · exact k t
  · exact .refl t

/-! ### Resets (R38, R120, R132) -/

/-- With no set in the cranking states, no CRANK line asserted and nobody at the permit, the laws stand. -/
theorem keepsCrank_of_rest (s : State) (hs : ∀ g : Fin 4, t.gen.sets[g].state.atCrank = false)
    (hc : ∀ g : Fin 4, t.gen.sets[g].crank = false) (hp : t.gen.permit = none) (hq : t.gen.queue = [])
    (hn : t.notices = []) : KeepsCrankLaws s t := by
  have rest (g : Fin 4) : ((setsView t).sets g).state.atCrank = false := hs g
  have released (g : Fin 4) : ((setsView t).sets g).lines.crank = false := hc g
  refine ⟨fun _ => ⟨⟨fun g => ?_, fun g => ?_, ?_⟩, fun _ => hq⟩, fun _ _ _ => ⟨fun g => ⟨?_, ?_, ?_, ?_⟩, hn⟩⟩
  · have e : (setsView t).permit = none := hp
    have notCranking : ((setsView t).sets g).state ≠ .cranking := fun h => by simpa [h, SetState.atCrank] using rest g
    simp [e, notCranking]
  · have e : (setsView t).queue = [] := hq
    have notWaiting : ((setsView t).sets g).state ≠ .waitCrank := fun h => by simpa [h, SetState.atCrank] using rest g
    simp [e, notWaiting]
  · have e : (setsView t).queue = [] := hq
    rw [e]
    exact List.nodup_nil
  · simp [released g]
  · intro h
    simpa [h, SetState.atCrank] using rest g
  · simp [rest g]
  · simp [rest g]

theorem derivedState_atCrank (s : State) (g : Fin 4) : (derivedState s g).atCrank = false := by
  unfold derivedState
  repeat' split
  all_goals rfl

/-- The blocks have initialised, and EVR has reported since. -/
theorem keepsCrank_of_initialise (s : State) {kind : ResetKind} {mode : Mode} {z t : State}
    (k : SameBut [.evr] (initialise kind mode z) t) : KeepsCrankLaws s t := by
  obtain ⟨-, -, notices⟩ := initialise_empty z kind mode
  have gen : t.gen = (blocksReset kind mode z).gen :=
    (k.gen (by decide)).trans ((initialise_frame kind mode z).gen (by decide))
  refine keepsCrank_of_rest s (fun g => ?_) (fun g => ?_) (by rw [gen]; rfl) (by rw [gen]; rfl)
    (by rw [k.notices (by decide), notices])
  · rw [gen, blocksReset_set]
    exact derivedState_atCrank _ _
  · rw [gen, blocksReset_set]

theorem powerOn_keepsCrank (s : State) : KeepsCrankLaws s (powerOn s) :=
  keepsCrank_of_rest s (fun g => by simp [powerOn, SetState.atCrank]) (fun g => by simp [powerOn]) rfl rfl rfl

theorem loadEnds_keepsCrank (s : State) (image : List Byte) : KeepsCrankLaws s (loadEnds image s) := by
  cases h : loadImage image with
  | inl t =>
    rw [loadEnds_accepted h]
    exact keepsCrank_of_initialise s (driveAlerts_frame _)
  | inr reason =>
    rw [loadEnds_rejected h]
    exact keepsCrank_of_initialise s ((reportDefaulted_frame _ _).trans (driveAlerts_frame _))

theorem softReset_keepsCrank (s : State) : KeepsCrankLaws s (softReset s) :=
  keepsCrank_of_initialise s (driveAlerts_frame _)

end Keeps

/-! ### A step -/

section Step

variable {s : State}

/-- The events of the blocks, and frames of unknown kinds. -/
theorem exec_event_keepsCrank {c : Instr} (hc : requestOf c = none) (hp : c ≠ .powerOnReset) (hs : c ≠ .softReset)
    (hl : ∀ image, c = .settingsLoadEnd image → s.phase = .running) :
    ∃ t, exec c s = .next t ∧ KeepsUndriven s t := by
  have r : Sets False s s := .refl s
  cases c with
  | powerOnReset => exact absurd rfl hp
  | softReset => exact absurd rfl hs
  | settingsLoadEnd image => exact ⟨s, next_congr (by simp only [hl image rfl]), .refl s⟩
  | debouncedChange i level => exact ⟨_, rfl, event_keepsCrank (debouncedTo_eventActs i level s)⟩
  | crankOnTimeExpiry g => exact ⟨_, rfl, event_keepsCrank (crankOnTimeExpires_moved s).eventActs⟩
  | crankRestExpiry g => exact ⟨_, rfl, event_keepsCrank (crankRestExpires_moved s).eventActs⟩
  | runUpExpiry g => exact ⟨_, rfl, event_keepsCrank (runUpExpires_moved s).eventActs⟩
  | syncTimeout g => exact ⟨_, rfl, event_keepsCrank (syncTimesOut_moved s).eventActs⟩
  | unloadTimeout g => exact ⟨_, rfl, event_keepsCrank (unloadTimesOut_moved s).eventActs⟩
  | cooldownExpiry g => exact ⟨_, rfl, event_keepsCrank (cooldownExpires_moved s).eventActs⟩
  | lowReserveTimerExpiry => exact ⟨_, rfl, event_keepsCrank (lowReserveExpires_eventActs s)⟩
  | stopTimerExpiry => exact ⟨_, rfl, event_keepsCrank (stopTimerExpires_eventActs s)⟩
  | startDelayTimerExpiry => exact ⟨_, rfl, event_keepsCrank (startDelayExpires_sets r).eventActs⟩
  | confirmationTimerExpiry => exact ⟨_, rfl, event_keepsCrank (confirmExpires_sets r).eventActs⟩
  | stepTimerExpiry => exact ⟨_, rfl, event_keepsCrank (stepTimerExpires_sets r).eventActs⟩
  | waitTimerExpiry => exact ⟨_, rfl, event_keepsCrank (waitTimerExpires_sets r).eventActs⟩
  | operateTimerExpiry f => exact ⟨_, rfl, event_unseenCrank (setsView_operateTimerExpires f s)⟩
  | restoreDelayExpiry => exact ⟨_, rfl, event_unseenCrank (setsView_restoreDelayExpires s)⟩
  | intervalTimerExpiry => exact ⟨_, rfl, event_unseenCrank (setsView_intervalExpires s)⟩
  | crossing => exact ⟨_, rfl, event_unseenCrank (setsView_crossingArrives s)⟩
  | deadBusTimerExpiry => exact ⟨_, rfl, event_unseenCrank (setsView_deadBusExpires s)⟩
  | pointsBecomeStale => exact ⟨_, rfl, event_unseenCrank (setsView_staleTick s)⟩
  | runtimeTenthHour g =>
    have counted : setsView (modSet g (fun c => { c with partHour := 0 }) s) = setsView s := setsView_modSet rfl
    exact ⟨_, rfl, event_unseenCrank counted⟩
  | replyTransmitted l => exact ⟨_, rfl, event_unseenCrank (setsView_replyDone l s)⟩
  | supervisionTimerExpiry => exact ⟨_, rfl, event_unseenCrank (setsView_supervisionExpires s)⟩
  | lengthError l => exact ⟨_, rfl, event_unseenCrank (setsView_discardFrame .length l s)⟩
  | checkError l => exact ⟨_, rfl, event_unseenCrank (setsView_discardFrame .check l s)⟩
  | gapError l => exact ⟨_, rfl, event_unseenCrank (setsView_discardFrame .gap l s)⟩
  | storeWriteEnd readBack => exact ⟨_, rfl, event_unseenCrank (setsView_storeEnds readBack s)⟩
  | pulseEnd f => exact ⟨_, rfl, event_offCrank (pulseEnds_frame f s) rfl⟩
  | holdoffTimerExpiry => exact ⟨_, rfl, event_offCrank (holdoffExpires_frame s) rfl⟩
  | creditItemExpiry f => exact ⟨_, rfl, event_offCrank (creditExpires_frame f s) rfl⟩
  | rampTick => exact ⟨_, rfl, event_offCrank (rampTickStep_frame s) rfl⟩
  | pwmPeriodStart j => exact ⟨_, rfl, event_offCrank (pwmStart_frame j s) rfl⟩
  | pwmActiveLevelEnd j => exact ⟨_, rfl, event_offCrank (pwmActiveEnds_frame j s) rfl⟩
  | unknownKind kind f => exact ⟨_, rfl, takeFrame_undriven fun _ => rfl⟩
  | _ => exact absurd hc (by simp [requestOf])

/-- The commands that concern a reset. -/
theorem exec_reset_keepsCrank {c : Instr}
    (hc : c = .powerOnReset ∨ c = .softReset ∨ ∃ image, c = .settingsLoadEnd image ∧ s.phase = .loading) :
    ∃ t, exec c s = .next t ∧ KeepsCrankLaws s t := by
  rcases hc with rfl | rfl | ⟨image, rfl, loading⟩
  · exact ⟨_, rfl, powerOn_keepsCrank s⟩
  · refine ⟨_, rfl, ?_⟩
    split
    · exact .refl s
    · exact .ite (softReset_keepsCrank s) (.refl s)
  · exact ⟨_, exec_settingsLoadEnd _ loading, loadEnds_keepsCrank s image⟩

/-- The queries, those with side effects, and MEASURE. -/
theorem exec_query_keepsCrank {c : Instr} {kind : Byte} {f : Frame} {ok : Bool}
    (hc : requestOf c = some (kind, .either, f, ok)) : ∃ t, exec c s = .next t ∧ KeepsCrankLaws s t := by
  have plain {kind : Byte} {f : Frame} {body : State → List Byte} : KeepsCrankLaws s (plainQuery kind f body s) :=
    takeFrame_unseenCrank fun _ => rfl
  cases c with
  | identify f => exact ⟨_, rfl, plain⟩
  | getStatus f => exact ⟨_, rfl, plain⟩
  | readFrequency f => exact ⟨_, rfl, plain⟩
  | readPv f => exact ⟨_, rfl, plain⟩
  | readStack f => exact ⟨_, rfl, plain⟩
  | readEvents f => exact ⟨_, rfl, plain⟩
  | peekInputs f => exact ⟨_, rfl, plain⟩
  | readFeeders f => exact ⟨_, rfl, takeFrame_unseenCrank fun t => by rw [readFeeders_state]⟩
  | readGensets f => exact ⟨_, rfl, takeFrame_unseenCrank fun t => by rw [readGensets_state]⟩
  | readConfig f => exact ⟨_, rfl, takeFrame_unseenCrank fun t => by rw [readConfig_state]⟩
  | readJournal f => exact ⟨_, rfl, takeFrame_offCrank (readJournal_frame f) rfl⟩
  | readInputs f => exact ⟨_, rfl, takeFrame_offCrank inputsRead_frame rfl⟩
  | collectMarks f => exact ⟨_, rfl, takeFrame_unseenCrank fun _ => rfl⟩
  | measure f => exact ⟨_, rfl, takeFrame_unseenCrank (setsView_measure f)⟩
  | _ => exact absurd hc (by simp [requestOf])

/-- The operating requests. -/
theorem exec_operate_keepsCrank {c : Instr} {kind : Byte} {f : Frame} {ok : Bool}
    (hc : requestOf c = some (kind, .operate, f, ok)) : ∃ t, exec c s = .next t ∧ KeepsCrankLaws s t := by
  cases c with
  | startGenset f => exact ⟨_, rfl, takeFrame_keepsCrank (startGenset_acts f)⟩
  | stopGenset f => exact ⟨_, rfl, takeFrame_keepsCrank (stopGenset_acts f)⟩
  | resetLockout f => exact ⟨_, rfl, takeFrame_keepsCrank (resetLockoutRequest_acts f)⟩
  | setMode f => exact ⟨_, rfl, takeFrame_keepsCrank (setMode_acts f)⟩
  | blackstartBegin f => exact ⟨_, rfl, blackstart_keepsCrank f s 0 blkBegin_acts⟩
  | blackstartHold f => exact ⟨_, rfl, blackstart_keepsCrank f s 1 blkHold_acts⟩
  | blackstartResume f => exact ⟨_, rfl, blackstart_keepsCrank f s 2 blkResume_acts⟩
  | blackstartAbort f => exact ⟨_, rfl, blackstart_keepsCrank f s 3 blkAbort_acts⟩
  | blackstartAck f => exact ⟨_, rfl, blackstart_keepsCrank f s 4 blkAck_acts⟩
  | operateFeeder f => exact ⟨_, rfl, takeFrame_unseenCrank (setsView_operateFeeder f)⟩
  | shed f => exact ⟨_, rfl, takeFrame_unseenCrank (setsView_shed f)⟩
  | restoreEntry f => exact ⟨_, rfl, takeFrame_unseenCrank (setsView_restoreEntry f)⟩
  | holdEntry f => exact ⟨_, rfl, takeFrame_unseenCrank (setsView_holdEntry f)⟩
  | releaseEntry f => exact ⟨_, rfl, takeFrame_unseenCrank (setsView_releaseEntry f)⟩
  | discardEntry f => exact ⟨_, rfl, takeFrame_unseenCrank (setsView_discardEntry f)⟩
  | setPvCeiling f => exact ⟨_, rfl, takeFrame_offCrank (setPvCeiling_frame f) rfl⟩
  | clearEvents f => exact ⟨_, rfl, takeFrame_offCrank (clearEvents_frame f) rfl⟩
  | setEventMask f => exact ⟨_, rfl, takeFrame_offCrank (setEventMask_frame f) rfl⟩
  | clearLinkErrors f => exact ⟨_, rfl, takeFrame_unseenCrank (setsView_clearLinkErrors f)⟩
  | reset f => exact ⟨_, rfl, takeFrame_unseenCrank fun _ => rfl⟩
  | _ => exact absurd hc (by simp [requestOf])

/-- The configuring requests. -/
theorem exec_configure_keepsCrank {c : Instr} {kind : Byte} {f : Frame} {ok : Bool}
    (hc : requestOf c = some (kind, .configure, f, ok)) : ∃ t, exec c s = .next t ∧ KeepsCrankLaws s t := by
  cases c with
  | configureGenset f => exact ⟨_, rfl, takeFrame_keepsCrank (configureGenset_acts f)⟩
  | configureFeeder f => exact ⟨_, rfl, takeFrame_unseenCrank (setsView_configureFeeder f)⟩
  | configureSystem f => exact ⟨_, rfl, takeFrame_unseenCrank (setsView_configureSystem f)⟩
  | configurePv f => exact ⟨_, rfl, takeFrame_unseenCrank (setsView_configurePv f)⟩
  | configureStages f => exact ⟨_, rfl, takeFrame_offCrank (configureStages_frame f) rfl⟩
  | configureInput f => exact ⟨_, rfl, takeFrame_offCrank (configureInput_frame f) rfl⟩
  | configurePlan f => exact ⟨_, rfl, takeFrame_offCrank (configurePlan_frame f) rfl⟩
  | configureDirectory f => exact ⟨_, rfl, takeFrame_offCrank (configureDirectory_frame f) rfl⟩
  | storeSettings f => exact ⟨_, rfl, takeFrame_unseenCrank (setsView_storeSettings f)⟩
  | _ => exact absurd hc (by simp [requestOf])

theorem exec_keepsCrank (c : Instr) (s : State) : ∃ t, exec c s = .next t ∧ KeepsCrankLaws s t := by
  cases hc : requestOf c with
  | none =>
    by_cases hr : c = .powerOnReset ∨ c = .softReset ∨ ∃ image, c = .settingsLoadEnd image ∧ s.phase = .loading
    · exact exec_reset_keepsCrank hr
    · obtain ⟨hp, hs, hl⟩ : c ≠ .powerOnReset ∧ c ≠ .softReset ∧ ∀ image, c = .settingsLoadEnd image → s.phase ≠ .loading := by
        simpa [not_or] using hr
      obtain ⟨t, e, k⟩ := exec_event_keepsCrank (s := s) hc hp hs fun image h => by
        cases hph : s.phase with
        | loading => exact absurd hph (hl image h)
        | running => rfl
      exact ⟨t, e, k.toKeepsCrankLaws⟩
  | some r =>
    obtain ⟨kind, group, f, ok⟩ := r
    cases group with
    | either => exact exec_query_keepsCrank hc
    | operate => exact exec_operate_keepsCrank hc
    | configure => exact exec_configure_keepsCrank hc

/-- A tick of the reference moves the timers of the sets alone. -/
theorem referenceTick_keepsCrank (s : State) : KeepsCrankLaws s (referenceTick s) := by
  have begun : setsView (millisecondBegun s) = setsView s := rfl
  rcases referenceTick_cases s with e | e | e <;> rw [e]
  · exact (KeepsCrankLaws.refl s).after rfl rfl
  · exact (KeepsCrankLaws.refl s).after begun rfl
  · refine (KeepsCrankLaws.refl s).after ?_ ?_
    · rw [← begun, blocksTick_eq]
      simp [setsView, SetCtl.tick, SetCtl.outline]
    · rw [blocksTick_eq]
      rfl

theorem idle_keepsCrank (s : State) : KeepsCrankLaws s (idle s) := by
  have r := KeepsCrankLaws.refl s
  unfold idle
  dsimp only
  split
  · exact referenceTick_keepsCrank s
  · exact r.after rfl rfl
  · exact r.after rfl rfl
  next l _ =>
    exact r.after ((setsView_drawn _).trans (setsView_takeByte l s)) ((takeByte_frame l s).notices (by decide))

theorem step_keepsCrank {t : State} (h : step s = .next t) : KeepsCrankLaws s t := by
  unfold step at h
  split at h
  next c rest _ =>
    obtain ⟨u, hu, permit, line⟩ := exec_keepsCrank c { s with pending := rest }
    rw [hu] at h
    cases h
    exact ⟨permit, line⟩
  next =>
    cases h
    exact idle_keepsCrank s

theorem undriven_of_monitor {g : Fin 4} (hm : s.lnk.mode = .monitor) (hb : blkActive s = false) (hn : s.notices = [])
    (hh : s.gen.sets[g].origin ≠ .host) (hs : s.gen.sets[g].origin ≠ .blackstart) :
    Undriven g ((setsView s).sets g).lines (setsView s) := by
  refine ⟨hm, hb, by simp [setsView, hn], ?_, rfl⟩
  show s.gen.sets[g].origin = .none ∨ s.gen.sets[g].origin = .auto
  cases ho : s.gen.sets[g].origin with
  | none => exact .inl rfl
  | auto => exact .inr rfl
  | host => exact absurd ho hh
  | blackstart => exact absurd ho hs

end Step

/-- Settles O14: every step is made of events of the sets and of moves by the notices' consumers, or of a reset. GEN's
abort of the automatic starts closes the exception that a change to MONITOR opens, and in MONITOR no event other than a
request drives a set that neither the host nor a black start has taken. -/
theorem everyStepKeepsTheCrankLaw : Obligations.EveryStepKeepsTheCrankLaw := by
  refine ⟨fun s t h hstep => ?_, fun s t h hl hstep => ?_, ?_⟩
  · rw [crankLaw_iff_permitLaw] at h ⊢
    exact (step_keepsCrank hstep).permit h
  · rw [crankLaw_iff_permitLaw] at h
    obtain ⟨hn, line⟩ := (crankLineLaw_iff_lineLaw s).mp hl
    obtain ⟨line', hn'⟩ := (step_keepsCrank hstep).line h line hn
    exact (crankLineLaw_iff_lineLaw t).mpr ⟨hn', line'⟩
  · intro c s t g hc hp hs running hm hb hn hh hbs hexec
    obtain ⟨u, hu, -, undriven⟩ := exec_event_keepsCrank (s := s) hc hp hs fun _ _ => running
    rw [hu] at hexec
    cases hexec
    have lines := (undriven g _ (undriven_of_monitor hm hb hn hh hbs)).lines
    exact ⟨congrArg SetLines.crank lines, congrArg SetLines.run lines, congrArg SetLines.syncPermit lines,
      congrArg SetLines.openReq lines⟩

end Sys2Proof.Machine

/-! ## The generating sets: what each operation leaves of the sets, the permit and the grant -/

namespace Sys2Proof.Machine

/-! ### A set enters a state (R116, R117, R125) -/

/-- The record of a set that has entered a state; `drive` says whether its lines follow. -/
def SetCtl.entered (drive : Bool) (bus : BusState) (new : SetState) (m : Timer) (c : SetCtl) : SetCtl :=
  { c with
    state := new, timer := m
    origin := if new = .standby ∨ new = .unavailable then .none else c.origin
    crank := if drive then decide (new = .cranking) else c.crank
    run := if drive then new.runs else c.run
    syncPermit := if drive then decide (new = .syncing) && decide (bus = .live) else c.syncPermit
    openReq := if drive then decide (new = .unloading) else c.openReq }

section Enter

variable {s : State} {g k : Fin 4} {force : Bool} {e : SetCause} {new : SetState} {m : Timer}

theorem enterSet_set (force : Bool) (e : SetCause) (g : Fin 4) (new : SetState) (m : Timer) (s : State) :
    (enterSet force e g new m s).gen.sets[g] =
      s.gen.sets[g].entered (force || driven s g) s.fmon.bus new m := by
  rw [enterSet_self]
  unfold SetCtl.entered setLevels
  cases force || driven s g
  all_goals
    by_cases rest : new = .standby ∨ new = .unavailable <;> simp [rest]

/-- A set that passes through a state on its way to another ends as if it had entered that at once. -/
theorem SetCtl.entered_entered {drive : Bool} {bus : BusState} {via : SetState} {n : Timer} {c : SetCtl}
    (h : ¬ (via = .standby ∨ via = .unavailable)) :
    (c.entered drive bus via n).entered drive bus new m = c.entered drive bus new m := by
  unfold SetCtl.entered
  cases drive <;> simp [h]

theorem driven_of_origin (h : s.gen.sets[g].origin = .host ∨ s.gen.sets[g].origin = .blackstart) :
    driven s g = true := by
  rw [driven_eq_drives]
  rcases h with h | h <;> rw [h] <;> cases s.lnk.mode <;> rfl

theorem driven_entered (force : Bool) (e : SetCause) (m : Timer) (s : State)
    (h : ¬ (new = .standby ∨ new = .unavailable)) : driven (enterSet force e g new m s) g = driven s g := by
  refine driven_congr ?_ (by rw [(enterSet_frame _ _ _ _ _ _).lnk (by decide)])
  rw [enterSet_set]
  exact if_neg h

/-- A grant is dropped or stands. -/
theorem enterSet_grant (force : Bool) (e : SetCause) (g : Fin 4) (new : SetState) (m : Timer) (s : State) :
    (enterSet force e g new m s).gen.grant = s.gen.grant ∨ (enterSet force e g new m s).gen.grant = none := by
  unfold enterSet
  dsimp only
  split_ifs <;> simp

/-! ### The crank permit (R120) -/

theorem leaveCrank_queue (g : Fin 4) (s : State) : (leaveCrank g s).gen.queue = s.gen.queue.filter (· ≠ g) := rfl

theorem not_mem_leaveCrank (g : Fin 4) (s : State) : g ∉ (leaveCrank g s).gen.queue := by simp [leaveCrank_queue]

theorem leaveCrank_permit (g : Fin 4) (s : State) :
    (leaveCrank g s).gen.permit = if s.gen.permit = some g then none else s.gen.permit := rfl

theorem leaveCrank_permit_ne (g : Fin 4) (s : State) : (leaveCrank g s).gen.permit ≠ some g := by
  rw [leaveCrank_permit]
  split
  · exact nofun
  · assumption

/-- The head of the queue takes a free permit and cranks, with one attempt more (R120, R121). -/
theorem servePermit_served (hp : s.gen.permit = none) :
    (servePermit s).gen.permit = s.gen.queue.head? ∧ (servePermit s).gen.queue = s.gen.queue.tail
      ∧ ∀ k : Fin 4, s.gen.queue.head? = some k → (servePermit s).gen.sets[k] =
          ({ s.gen.sets[k] with attempts := s.gen.sets[k].attempts + 1 } : SetCtl).entered (driven s k) s.fmon.bus
            .cranking (.running s.settings.sets[k].crankOnMs) := by
  cases hq : s.gen.queue with
  | nil =>
    rw [servePermit_idle (.inr hq), hp, hq]
    exact ⟨rfl, rfl, nofun⟩
  | cons j q =>
    rw [servePermit_of_free hp hq]
    refine ⟨enterSet_permit .., enterSet_queue .., fun k hk => ?_⟩
    obtain rfl : j = k := by simpa using hk
    rw [enterSet_set, modSet_self, Bool.false_or]
    congr 1
    exact driven_congr (by rw [modSet_self]; rfl) rfl

/-- Only the head of the queue is touched. -/
theorem servePermit_other (h : s.gen.permit = none → s.gen.queue.head? ≠ some k) :
    (servePermit s).gen.sets[k] = s.gen.sets[k] := by
  cases hp : s.gen.permit with
  | some j => rw [servePermit_idle (.inl (by simp [hp]))]
  | none =>
    cases hq : s.gen.queue with
    | nil => rw [servePermit_idle (.inr hq)]
    | cons j q =>
      have hk : k ≠ j := fun e => h hp (by rw [hq, e]; rfl)
      rw [servePermit_of_free hp hq, enterSet_other _ _ _ _ _ hk, modSet_other _ _ hk]
      rfl

/-- A set that neither waits nor holds the permit stands, and comes to neither. -/
theorem servePermit_released (hq : g ∉ s.gen.queue) (hp : s.gen.permit ≠ some g) :
    (servePermit s).gen.sets[g] = s.gen.sets[g] ∧ g ∉ (servePermit s).gen.queue
      ∧ (servePermit s).gen.permit ≠ some g := by
  refine ⟨servePermit_other fun _ h => hq (List.mem_of_head? h), ?_⟩
  cases hn : s.gen.permit with
  | some j =>
    rw [servePermit_idle (.inl (by simp [hn]))]
    exact ⟨hq, hp⟩
  | none =>
    obtain ⟨permit, queue, -⟩ := servePermit_served hn
    rw [permit, queue]
    exact ⟨fun h => hq (List.mem_of_mem_tail h), fun h => hq (List.mem_of_head? h)⟩

theorem servePermit_grant (s : State) :
    (servePermit s).gen.grant = s.gen.grant ∨ (servePermit s).gen.grant = none := by
  unfold servePermit
  split
  · exact enterSet_grant _ _ _ _ _ _
  · exact .inl rfl

/-! ### Operations of a set (R121 to R130) -/

theorem genRecord_gen (j : JournalKind) (g : Fin 4) (v : Int) (s : State) : (genRecord j g v s).gen = s.gen :=
  (genRecord_frame j g v s).gen (by decide)

theorem enterRunUp_set (e : SetCause) (g : Fin 4) (s : State) :
    (enterRunUp e g s).gen.sets[g] = s.gen.sets[g].entered (driven s g) s.fmon.bus
      (if s.settings.sets[g].runupMs = 0 then .syncing else .runUp)
      (.running (if s.settings.sets[g].runupMs = 0 then s.settings.sets[g].syncTimeoutMs
        else s.settings.sets[g].runupMs)) := by
  have fr := enterSet_frame false e g .runUp (.running s.settings.sets[g].runupMs) s
  unfold enterRunUp enterSyncing
  dsimp only
  split
  · rw [enterSet_set, driven_entered _ _ _ _ (by decide), enterSet_set, fr.fmon (by decide), fr.settings (by decide)]
    exact SetCtl.entered_entered (by decide)
  · exact enterSet_set _ _ _ _ _ _

theorem enterRunUp_others (e : SetCause) (g : Fin 4) (s : State) :
    (enterRunUp e g s).gen.permit = s.gen.permit ∧ (enterRunUp e g s).gen.queue = s.gen.queue
      ∧ ∀ k : Fin 4, k ≠ g → (enterRunUp e g s).gen.sets[k] = s.gen.sets[k] := by
  unfold enterRunUp enterSyncing
  dsimp only
  split
  · refine ⟨by rw [enterSet_permit, enterSet_permit], by rw [enterSet_queue, enterSet_queue], fun k hk => ?_⟩
    rw [enterSet_other _ _ _ _ _ hk, enterSet_other _ _ _ _ _ hk]
  · exact ⟨enterSet_permit .., enterSet_queue .., fun k hk => enterSet_other _ _ _ _ _ hk⟩

theorem enterOnline_set (e : SetCause) (g : Fin 4) (s : State) :
    (enterOnline e g s).gen.sets[g] = s.gen.sets[g].entered (driven s g) s.fmon.bus .online .idle := by
  unfold enterOnline
  dsimp only
  rw [genRecord_gen]
  exact enterSet_set _ _ _ _ _ _

theorem endCooldown_set (e : SetCause) (g : Fin 4) (v : Int) (s : State) :
    (endCooldown e g v s).gen.sets[g] = s.gen.sets[g].entered (driven s g) s.fmon.bus (restState s g) .idle := by
  unfold endCooldown
  rw [genRecord_gen]
  exact enterSet_set _ _ _ _ _ _

theorem enterCooldown_state (g : Fin 4) (s : State) :
    (enterCooldown g s).gen.sets[g].state =
      if s.settings.sets[g].cooldownMs = 0 then restState s g else .cooldown := by
  have fr := enterSet_frame false .breaker g .cooldown (.running s.settings.sets[g].cooldownMs) s
  unfold enterCooldown
  dsimp only
  split
  · rw [endCooldown_set]
    exact restState_congr (fr.inputs (by decide)) (fr.settings (by decide)) g
  · exact congrArg SetCtl.state (enterSet_set _ _ _ _ _ _)

/-- A set that has locked out, before the permit that it may have released is served (R130). -/
def lockedOut (g : Fin 4) (cause : Nat) (s : State) : State :=
  let s := modSet g (fun c => { c with lockout := cause }) (leaveCrank g s)
  let s := modGen (fun n => { n with grant := if n.grant = some g then none else n.grant }) s
  let s := enterSet false (lockoutEvent cause) g .lockedOut .idle s
  journal .setLockedOut g cause (setProt (if cause ≤ 3 then .startFail else .genTrip) s)

theorem lockOut_eq (g : Fin 4) (cause : Nat) (s : State) : lockOut g cause s = servePermit (lockedOut g cause s) := rfl

theorem lockedOut_permit (g : Fin 4) (cause : Nat) (s : State) :
    (lockedOut g cause s).gen.permit = (leaveCrank g s).gen.permit
      ∧ (lockedOut g cause s).gen.queue = (leaveCrank g s).gen.queue := by
  unfold lockedOut
  dsimp only
  rw [journal_gen, setProt_gen]
  exact ⟨enterSet_permit .., enterSet_queue ..⟩

theorem lockedOut_grant (g : Fin 4) (cause : Nat) (s : State) : (lockedOut g cause s).gen.grant ≠ some g := by
  have dropped : (if s.gen.grant = some g then none else s.gen.grant) ≠ some g := by
    split
    · exact nofun
    · assumption
  unfold lockedOut
  dsimp only
  rw [journal_gen, setProt_gen]
  rcases enterSet_grant false (lockoutEvent cause) g .lockedOut .idle
    (modGen (fun n => { n with grant := if n.grant = some g then none else n.grant })
      (modSet g (fun c => { c with lockout := cause }) (leaveCrank g s))) with e | e <;> rw [e]
  · exact dropped
  · exact nofun

theorem lockedOut_set (g : Fin 4) (cause : Nat) (s : State) :
    (lockedOut g cause s).gen.sets[g] =
      ({ s.gen.sets[g] with lockout := cause } : SetCtl).entered (driven s g) s.fmon.bus .lockedOut .idle := by
  have caused : (modSet g (fun c => { c with lockout := cause }) (leaveCrank g s)).gen.sets[g]
      = { s.gen.sets[g] with lockout := cause } := modSet_self _ _ _
  unfold lockedOut
  dsimp only
  rw [journal_gen, setProt_gen, enterSet_set, modGen_gen, caused, Bool.false_or]
  congr 1
  exact driven_congr (by rw [modGen_gen, caused]) rfl

theorem lockedOut_other (cause : Nat) (s : State) (hk : k ≠ g) :
    (lockedOut g cause s).gen.sets[k] = s.gen.sets[k] := by
  unfold lockedOut
  dsimp only
  rw [journal_gen, setProt_gen, enterSet_other _ _ _ _ _ hk, modGen_gen, modSet_other _ _ hk]
  rfl

theorem lockedOut_frame (g : Fin 4) (cause : Nat) (s : State) :
    SameBut [.gen, .evr, .notices, .draws] s (lockedOut g cause s) := by
  simp [lockedOut]

/-- A locked-out set stands as such whoever takes the permit, and without the grant (R125, R130). -/
theorem lockOut_set (g : Fin 4) (cause : Nat) (s : State) :
    (lockOut g cause s).gen.sets[g] =
        ({ s.gen.sets[g] with lockout := cause } : SetCtl).entered (driven s g) s.fmon.bus .lockedOut .idle
      ∧ (lockOut g cause s).gen.grant ≠ some g := by
  obtain ⟨permit, queue⟩ := lockedOut_permit g cause s
  obtain ⟨set, -, -⟩ := servePermit_released (s := lockedOut g cause s) (g := g)
    (by rw [queue]; exact not_mem_leaveCrank g s) (by rw [permit]; exact leaveCrank_permit_ne g s)
  rw [lockOut_eq]
  refine ⟨set.trans (lockedOut_set g cause s), ?_⟩
  rcases servePermit_grant (lockedOut g cause s) with e | e <;> rw [e]
  · exact lockedOut_grant g cause s
  · exact nofun

/-- An aborted start is out of the queue and off the permit (R120, R123). -/
theorem abortStart_set (force : Bool) (e : SetCause) (g : Fin 4) (rest : SetState) (v : Int) (s : State) :
    (abortStart force e g rest v s).gen.sets[g] =
        s.gen.sets[g].entered (force || driven s g) s.fmon.bus rest .idle
      ∧ g ∉ (abortStart force e g rest v s).gen.queue ∧ (abortStart force e g rest v s).gen.permit ≠ some g := by
  have driven' : driven (leaveCrank g s) g = driven s g := driven_congr rfl rfl
  unfold abortStart
  dsimp only
  obtain ⟨set, queue, permit⟩ := servePermit_released
    (s := genRecord .startAborted g v (enterSet force e g rest .idle (leaveCrank g s))) (g := g)
    (by rw [genRecord_gen, enterSet_queue]; exact not_mem_leaveCrank g s)
    (by rw [genRecord_gen, enterSet_permit]; exact leaveCrank_permit_ne g s)
  refine ⟨?_, queue, permit⟩
  rw [set, genRecord_gen, enterSet_set, driven']
  rfl

/-- A set that RUNNING has started is out of the queue and off the permit, and runs up (R121, R122). -/
theorem runUp_set (s : State) :
    let u := servePermit (enterRunUp .running g (leaveCrank g s))
    u.gen.sets[g] = (enterRunUp .running g (leaveCrank g s)).gen.sets[g]
      ∧ g ∉ u.gen.queue ∧ u.gen.permit ≠ some g := by
  obtain ⟨permit, queue, -⟩ := enterRunUp_others .running g (leaveCrank g s)
  exact servePermit_released (by rw [queue]; exact not_mem_leaveCrank g s)
    (by rw [permit]; exact leaveCrank_permit_ne g s)

/-- A set that is closed by hand comes ONLINE (R128). -/
theorem closedExternally_set (g : Fin 4) (s : State) :
    (closedExternally g s).gen.sets[g] =
      ({ s.gen.sets[g] with lockout := 0 } : SetCtl).entered (driven s g) s.fmon.bus .online .idle := by
  let t := modSet g (fun c => { c with lockout := 0 }) (leaveCrank g (genRecord .setClosedExternally g 0 s))
  have frame : SameBut [.gen, .evr] s t := by simp [t]
  have left : (leaveCrank g (genRecord .setClosedExternally g 0 s)).gen = (leaveCrank g s).gen := by
    unfold leaveCrank
    rw [modGen_gen, modGen_gen, genRecord_gen]
  have record : t.gen.sets[g] = { s.gen.sets[g] with lockout := 0 } := by
    rw [modSet_self, left]
    rfl
  have others : (enterOnline .breaker g t).gen.permit = (leaveCrank g s).gen.permit
      ∧ (enterOnline .breaker g t).gen.queue = (leaveCrank g s).gen.queue := by
    unfold enterOnline
    dsimp only
    rw [genRecord_gen, enterSet_permit, enterSet_queue, ← left]
    exact ⟨rfl, rfl⟩
  obtain ⟨permit, queue⟩ := others
  obtain ⟨set, -, -⟩ := servePermit_released (s := enterOnline .breaker g t) (g := g)
    (by rw [queue]; exact not_mem_leaveCrank g s) (by rw [permit]; exact leaveCrank_permit_ne g s)
  have drive : driven t g = driven s g := driven_congr (by rw [record]) (by rw [frame.lnk (by decide)])
  rw [closedExternally]
  exact set.trans (by rw [enterOnline_set, record, drive, frame.fmon (by decide)])

/-! ### A set that goes to the permit (R119, R120, R122) -/

/-- A set joins the back of the queue. -/
def joinCrank (g : Fin 4) (s : State) : State := modGen (fun n => { n with queue := n.queue ++ [g] }) s

/-- With the permit free and nobody waiting, a set that joins the queue cranks at once. -/
theorem joinCrank_free (hp : s.gen.permit = none) (hq : s.gen.queue = []) :
    let u := servePermit (joinCrank g s)
    u.gen.permit = some g ∧ u.gen.queue = []
      ∧ u.gen.sets[g] = ({ s.gen.sets[g] with attempts := s.gen.sets[g].attempts + 1 } : SetCtl).entered (driven s g)
          s.fmon.bus .cranking (.running s.settings.sets[g].crankOnMs)
      ∧ ∀ k : Fin 4, k ≠ g → u.gen.sets[k] = s.gen.sets[k] := by
  have queue : (joinCrank g s).gen.queue = [g] := by simp [joinCrank, hq]
  have head : (joinCrank g s).gen.queue.head? = some g := by rw [queue]; rfl
  obtain ⟨permit, rest, served⟩ := servePermit_served (s := joinCrank g s) hp
  refine ⟨permit.trans head, rest.trans (by rw [queue]; rfl), served g head, fun k hk => ?_⟩
  exact servePermit_other fun _ h => hk (Option.some.inj (h.symm.trans head))

/-- While the permit is held it waits. -/
theorem joinCrank_held (hp : s.gen.permit ≠ none) : servePermit (joinCrank g s) = joinCrank g s :=
  servePermit_idle (.inl hp)

end Enter

end Sys2Proof.Machine

/-! ## START_GENSET, STOP_GENSET and RESET_LOCKOUT -/

namespace Sys2Proof.Machine

section Requests

variable {s : State} {g : Fin 4} {o : SetOrigin} {fr : Frame}

theorem restState_superviseFrame (l : Link) (s : State) (g : Fin 4) :
    restState (superviseFrame l s) g = restState s g :=
  restState_congr (superviseFrame_inputs l s) (superviseFrame_settings l s) g

theorem superviseFrame_gen (l : Link) (s : State) : (superviseFrame l s).gen = s.gen :=
  (superviseFrame_frame l s).gen (by decide)

theorem superviseFrame_notices (l : Link) (s : State) : (superviseFrame l s).notices = s.notices :=
  (superviseFrame_frame l s).notices (by decide)

/-- A record of GEN depends on the flags, the journal and time alone. -/
theorem genRecord_evr_congr (j : JournalKind) (g : Fin 4) (v : Int) {s t : State} (he : t.evr = s.evr)
    (ht : t.time = s.time) : (genRecord j g v t).evr = (journal j g v (setAdv .genState s)).evr :=
  journal_evr_congr _ _ _ (by simp only [setAdv, State.withEvr, he]) ht

/-! ### A start (R119, R120) -/

/-- A set that has taken a start request, with its record. -/
def startTaken (g : Fin 4) (o : SetOrigin) (s : State) : State :=
  genRecord .setStart g o.code (modSet g (fun c => { c with attempts := 0, origin := o, lockout := 0 }) s)

theorem startTaken_frame (g : Fin 4) (o : SetOrigin) (s : State) : SameBut [.gen, .evr] s (startTaken g o s) := by
  simp [startTaken]

theorem startTaken_set (g : Fin 4) (o : SetOrigin) (s : State) :
    (startTaken g o s).gen.sets[g] = { s.gen.sets[g] with attempts := 0, origin := o, lockout := 0 } := by
  rw [startTaken, genRecord_gen, modSet_self]

theorem startTaken_others (g : Fin 4) (o : SetOrigin) (s : State) :
    (startTaken g o s).gen.permit = s.gen.permit ∧ (startTaken g o s).gen.queue = s.gen.queue
      ∧ ∀ k : Fin 4, k ≠ g → (startTaken g o s).gen.sets[k] = s.gen.sets[k] := by
  rw [startTaken, genRecord_gen]
  exact ⟨rfl, rfl, fun k hk => modSet_other _ _ hk⟩

/-- A set that joins the queue on a start request. -/
def startWaits (g : Fin 4) (o : SetOrigin) (s : State) : State :=
  enterSet false .startRequest g .waitCrank .idle (startTaken g o s)

theorem startWaits_others (g : Fin 4) (o : SetOrigin) (s : State) :
    (startWaits g o s).gen.permit = s.gen.permit ∧ (startWaits g o s).gen.queue = s.gen.queue
      ∧ ∀ k : Fin 4, k ≠ g → (startWaits g o s).gen.sets[k] = s.gen.sets[k] := by
  obtain ⟨permit, queue, others⟩ := startTaken_others g o s
  refine ⟨(enterSet_permit ..).trans permit, (enterSet_queue ..).trans queue, fun k hk => ?_⟩
  rw [startWaits, enterSet_other _ _ _ _ _ hk, others k hk]

theorem startWaits_frame (g : Fin 4) (o : SetOrigin) (s : State) :
    SameBut [.gen, .evr, .notices, .draws] s (startWaits g o s) :=
  ((startTaken_frame g o s).widen _ rfl).trans ((enterSet_frame _ _ _ _ _ _).widen _ rfl)

theorem startSet_of_running (hs : setState s g = .standby) (hr : setRunning s g = true) :
    startSet g o s = (enterRunUp .startRequest g (startTaken g o s), true) := by
  have running : setRunning (startTaken g o s) g = true := by
    unfold setRunning
    rw [(startTaken_frame g o s).inputs (by decide)]
    exact hr
  unfold startSet
  rw [if_pos hs]
  exact if_pos running

theorem startSet_of_notRunning (hs : setState s g = .standby) (hr : setRunning s g = false) :
    startSet g o s = (servePermit (joinCrank g (startWaits g o s)), true) := by
  have running : ¬ setRunning (startTaken g o s) g = true := by
    unfold setRunning
    rw [(startTaken_frame g o s).inputs (by decide)]
    exact fun h => nomatch h.symm.trans hr
  unfold startSet
  rw [if_pos hs]
  exact if_neg running

theorem startSet_taken (hs : setState s g = .standby) : startSet g o s = ((startSet g o s).1, true) := by
  cases hr : setRunning s g with
  | true => rw [startSet_of_running hs hr]
  | false => rw [startSet_of_notRunning hs hr]

/-- The one record of a start is that of its request. -/
theorem startSet_evr (hs : setState s g = .standby) : (startSet g o s).1.evr = (startTaken g o s).evr := by
  cases hr : setRunning s g with
  | true =>
    rw [startSet_of_running hs hr]
    exact (enterRunUp_frame _ _ _).evr (by decide)
  | false =>
    rw [startSet_of_notRunning hs hr]
    exact ((servePermit_frame _).evr (by decide)).trans ((enterSet_frame _ _ _ _ _ _).evr (by decide))

/-- A set that starts by HOST or BLACKSTART is driven all the way (R129). -/
theorem startTaken_driven (ho : o = .host ∨ o = .blackstart) (s : State) : driven (startTaken g o s) g = true :=
  driven_of_origin (by rw [startTaken_set]; exact ho)

theorem startWaits_set (ho : o = .host ∨ o = .blackstart) (s : State) :
    (startWaits g o s).gen.sets[g] =
      ({ s.gen.sets[g] with attempts := 0, origin := o, lockout := 0 } : SetCtl).entered true s.fmon.bus
        .waitCrank .idle := by
  rw [startWaits, enterSet_set, startTaken_driven ho, startTaken_set, (startTaken_frame g o s).fmon (by decide)]
  rfl

theorem startWaits_driven (ho : o = .host ∨ o = .blackstart) (s : State) : driven (startWaits g o s) g = true :=
  driven_of_origin (by rw [startWaits_set ho]; exact ho)

/-- What a start by the host makes of its set and of the permit, by the three ways that it may go (R119, R120). -/
structure Started (g : Fin 4) (s u : State) : Prop where
  taken : u.gen.sets[g].origin = .host ∧ u.gen.sets[g].lockout = 0 ∧ u.gen.sets[g].run = true
  runs : setRunning s g = true → u.gen.sets[g].attempts = 0 ∧ u.gen.sets[g].crank = false
    ∧ (s.settings.sets[g].runupMs = 0 → u.gen.sets[g].state = .syncing
        ∧ u.gen.sets[g].timer = .running s.settings.sets[g].syncTimeoutMs)
    ∧ (s.settings.sets[g].runupMs ≠ 0 → u.gen.sets[g].state = .runUp
        ∧ u.gen.sets[g].timer = .running s.settings.sets[g].runupMs)
  cranks : setRunning s g = false ∧ s.gen.permit = none → u.gen.sets[g].attempts = 1 ∧ u.gen.sets[g].state = .cranking
    ∧ u.gen.sets[g].timer = .running s.settings.sets[g].crankOnMs ∧ u.gen.sets[g].crank = true
    ∧ u.gen.permit = some g ∧ u.gen.queue = []
  waits : setRunning s g = false ∧ s.gen.permit ≠ none → u.gen.sets[g].attempts = 0 ∧ u.gen.sets[g].state = .waitCrank
    ∧ u.gen.sets[g].crank = false ∧ u.gen.permit = s.gen.permit ∧ u.gen.queue = s.gen.queue ++ [g]
  others : ∀ k : Fin 4, k ≠ g → u.gen.sets[k] = s.gen.sets[k]

theorem startSet_runs (hs : setState s g = .standby) (hr : setRunning s g = true) :
    Started g s (startSet g .host s).1 := by
  have set : (enterRunUp .startRequest g (startTaken g .host s)).gen.sets[g] =
      ({ s.gen.sets[g] with attempts := 0, origin := .host, lockout := 0 } : SetCtl).entered true s.fmon.bus
        (if s.settings.sets[g].runupMs = 0 then .syncing else .runUp)
        (.running (if s.settings.sets[g].runupMs = 0 then s.settings.sets[g].syncTimeoutMs
          else s.settings.sets[g].runupMs)) := by
    rw [enterRunUp_set, startTaken_driven (.inl rfl), startTaken_set, (startTaken_frame _ _ _).settings (by decide),
      (startTaken_frame _ _ _).fmon (by decide)]
  obtain ⟨-, -, others⟩ := enterRunUp_others .startRequest g (startTaken g .host s)
  obtain ⟨-, -, taken⟩ := startTaken_others g .host s
  rw [startSet_of_running hs hr]
  refine ⟨?_, fun _ => ?_, fun h => ?_, fun h => ?_, fun k hk => (others k hk).trans (taken k hk)⟩
  · rw [set]
    split <;> exact ⟨rfl, rfl, rfl⟩
  · rw [set]
    split
    next h => exact ⟨rfl, rfl, fun _ => ⟨rfl, rfl⟩, fun hn => absurd h hn⟩
    next h => exact ⟨rfl, rfl, fun hn => absurd hn h, fun _ => ⟨rfl, rfl⟩⟩
  · exact nomatch hr.symm.trans h.1
  · exact nomatch hr.symm.trans h.1

theorem startSet_cranks (law : CrankLaw s) (hs : setState s g = .standby) (hr : setRunning s g = false)
    (hp : s.gen.permit = none) : Started g s (startSet g .host s).1 := by
  obtain ⟨wp, wq, others⟩ := startWaits_others g .host s
  obtain ⟨permit, queue, set, rest⟩ := joinCrank_free (s := startWaits g .host s) (g := g) (wp.trans hp)
    (wq.trans (law.served hp))
  rw [startWaits_driven (.inl rfl), startWaits_set (.inl rfl), (startWaits_frame _ _ _).settings (by decide)] at set
  rw [startSet_of_notRunning hs hr]
  refine ⟨?_, fun h => ?_, fun _ => ?_, fun ⟨_, h⟩ => absurd hp h, fun k hk => (rest k hk).trans (others k hk)⟩
  · rw [set]
    exact ⟨rfl, rfl, rfl⟩
  · exact nomatch hr.symm.trans h
  · rw [set]
    exact ⟨rfl, rfl, rfl, rfl, permit, queue⟩

theorem startSet_waits (hs : setState s g = .standby) (hr : setRunning s g = false) (hp : s.gen.permit ≠ none) :
    Started g s (startSet g .host s).1 := by
  obtain ⟨permit, queue, others⟩ := startWaits_others g .host s
  have gen : (joinCrank g (startWaits g .host s)).gen =
      { (startWaits g .host s).gen with queue := (startWaits g .host s).gen.queue ++ [g] } := rfl
  rw [startSet_of_notRunning hs hr, joinCrank_held (by rw [permit]; exact hp)]
  refine ⟨?_, fun h => ?_, fun ⟨_, h⟩ => absurd h hp, fun _ => ?_, others⟩
  · rw [gen]
    dsimp only
    rw [startWaits_set (.inl rfl)]
    exact ⟨rfl, rfl, rfl⟩
  · exact nomatch hr.symm.trans h
  · rw [gen]
    dsimp only
    rw [startWaits_set (.inl rfl), permit, queue]
    exact ⟨rfl, rfl, rfl, rfl, rfl⟩

/-- A start by the host goes one of three ways, by RUNNING and the crank permit (R119, R120). -/
theorem startSet_started (law : CrankLaw s) (hs : setState s g = .standby) : Started g s (startSet g .host s).1 := by
  cases hr : setRunning s g with
  | true => exact startSet_runs hs hr
  | false =>
    by_cases hp : s.gen.permit = none
    · exact startSet_cranks law hs hr hp
    · exact startSet_waits hs hr hp

theorem startGenset_badIndex (h : 4 ≤ fr.byte 0) : startGenset fr s = refuse .badIndex s := by
  simp only [startGenset, objectOf_of_le h]

theorem startGenset_wrongState (hf : fr.byte 0 = g) (hs : s.gen.sets[g].state ≠ .standby) :
    startGenset fr s = reply .wrongState (setReply g) s := by
  have refused : startSet g .host s = (s, false) := if_neg hs
  simp only [startGenset, hf, objectOf_val, refused]

theorem startGenset_starts (hf : fr.byte 0 = g) (hs : s.gen.sets[g].state = .standby) :
    startGenset fr s = reply .ok (setReply g) (startSet g .host s).1 := by
  have taken : startSet g .host s = ((startSet g .host s).1, true) := startSet_taken hs
  simp only [startGenset, hf, objectOf_val]
  rw [taken]

end Requests

/-- The law of the crank permit does not look at the links. -/
theorem crankLaw_superviseFrame {s : State} (l : Link) (law : CrankLaw s) : CrankLaw (superviseFrame l s) := by
  rw [crankLaw_iff_permitLaw] at law ⊢
  rwa [setsView_superviseFrame]

/-- Settles O39: a start takes the set's origin and record first; whether the set then runs up, cranks or waits is a
matter of RUNNING and the permit. -/
theorem startGensetStartsAStandbySet : Obligations.StartGensetStartsAStandbySet := by
  refine ⟨fun fr s acc hbad => next_congr (request_refused acc (startGenset_badIndex hbad)),
    fun fr g s acc hf law => ?_⟩
  intro h
  have gen : h.gen = s.gen := superviseFrame_gen fr.link s
  refine ⟨fun hs => ?_, fun hs => ?_⟩
  · rw [← gen] at hs
    exact next_congr (request_performed acc (startGenset_wrongState hf hs))
  · have standby : setState h g = .standby := by
      unfold setState
      rw [gen]
      exact hs
    obtain ⟨⟨origin, lockout, run⟩, runs, cranks, waits, others⟩ :=
      startSet_started (crankLaw_superviseFrame fr.link law) standby
    have settings : h.settings = s.settings := superviseFrame_settings fr.link s
    have running : setRunning h g = setRunning s g := by
      unfold setRunning
      rw [superviseFrame_inputs]
    rw [settings, running] at runs
    rw [running, gen, settings] at cranks
    rw [running, gen] at waits
    rw [gen] at others
    refine ⟨(startSet g .host h).1, next_congr (request_performed acc (startGenset_starts hf standby)),
      ⟨origin, lockout, run, runs, cranks, waits⟩, others, ?_, startSet_frame g .host h⟩
    rw [startSet_evr standby]
    exact genRecord_evr_congr _ _ _ rfl rfl

end Sys2Proof.Machine

/-! ### A stop (R123, R127) -/

namespace Sys2Proof.Machine

section Stop

variable {s : State} {g : Fin 4} {o : SetOrigin} {force : Bool} {fr : Frame}

/-- A set that has taken a stop request. -/
def stopTaken (g : Fin 4) (o : SetOrigin) (s : State) : State := modSet g (fun c => { c with origin := o }) s

theorem stopTaken_set (g : Fin 4) (o : SetOrigin) (s : State) :
    (stopTaken g o s).gen.sets[g] = { s.gen.sets[g] with origin := o } := modSet_self _ _ _

theorem stopTaken_driven (ho : o = .host ∨ o = .blackstart) (s : State) : driven (stopTaken g o s) g = true :=
  driven_of_origin (by rw [stopTaken_set]; exact ho)

theorem stopSet_of_online (hs : s.gen.sets[g].state = .online) :
    stopSet force g o s =
      genRecord .setStop g o.code
        (enterSet force .stopRequest g .unloading (.running s.settings.sets[g].unloadTimeoutMs) (stopTaken g o s)) := by
  have state : setState s g = .online := hs
  unfold stopSet
  rw [if_pos (by rw [state]; rfl)]
  exact if_pos state

theorem stopSet_of_starting (hs : s.gen.sets[g].state.starting = true) :
    stopSet force g o s = abortStart force .stopRequest g (restState s g) 0 (stopTaken g o s) := by
  have starting : (setState s g).starting = true := hs
  obtain ⟨stoppable, notOnline⟩ := stoppable_of_starting starting
  unfold stopSet
  rw [if_pos stoppable]
  dsimp only
  rw [if_neg notOnline, if_pos starting]
  rfl

/-- A set that is on its way to rest takes the origin alone (R127). -/
theorem stopSet_of_stopping (hs : s.gen.sets[g].state = .unloading ∨ s.gen.sets[g].state = .cooldown) :
    stopSet force g o s = stopTaken g o s := by
  have state : setState s g = .unloading ∨ setState s g = .cooldown := hs
  unfold stopSet
  rcases state with h | h <;> rw [h] <;> rfl

theorem stopSet_online_set (ho : o = .host ∨ o = .blackstart) (hs : s.gen.sets[g].state = .online) :
    (stopSet force g o s).gen.sets[g] =
      ({ s.gen.sets[g] with origin := o } : SetCtl).entered true s.fmon.bus .unloading
        (.running s.settings.sets[g].unloadTimeoutMs) := by
  rw [stopSet_of_online hs, genRecord_gen, enterSet_set, stopTaken_driven ho, Bool.or_true, stopTaken_set]
  rfl

/-- The record of a stop is that of its request (R127). -/
theorem stopSet_online_evr (hs : s.gen.sets[g].state = .online) :
    (stopSet force g o s).evr = (journal .setStop g o.code (setAdv .genState s)).evr := by
  rw [stopSet_of_online hs]
  refine genRecord_evr_congr _ _ _ ?_ ?_
  · exact (enterSet_frame _ _ _ _ _ _).evr (by decide)
  · exact (enterSet_frame _ _ _ _ _ _).time (by decide)

theorem stopSet_starting_set (ho : o = .host ∨ o = .blackstart) (hs : s.gen.sets[g].state.starting = true) :
    (stopSet force g o s).gen.sets[g] =
        ({ s.gen.sets[g] with origin := o } : SetCtl).entered true s.fmon.bus (restState s g) .idle
      ∧ g ∉ (stopSet force g o s).gen.queue ∧ (stopSet force g o s).gen.permit ≠ some g := by
  obtain ⟨set, queue, permit⟩ := abortStart_set force .stopRequest g (restState s g) 0 (stopTaken g o s)
  rw [stopTaken_driven ho, Bool.or_true, stopTaken_set] at set
  rw [stopSet_of_starting hs]
  exact ⟨set, queue, permit⟩

/-- A set at rest: the origin is gone and its lines, when it is driven, are released (R116, R117). -/
theorem SetCtl.entered_rest (s : State) (g : Fin 4) (bus : BusState) (c : SetCtl) :
    c.entered true bus (restState s g) .idle =
      { c with
        state := restState s g, timer := .idle, origin := .none
        crank := false, run := false, syncPermit := false, openReq := false } := by
  rcases restState_cases s g with h | h <;> rw [h] <;> rfl

theorem stopGenset_badIndex (h : 4 ≤ fr.byte 0) : stopGenset fr s = refuse .badIndex s := by
  simp only [stopGenset, objectOf_of_le h]

theorem stopGenset_wrongState (hf : fr.byte 0 = g) (hs : s.gen.sets[g].state.stoppable = false) :
    stopGenset fr s = reply .wrongState (setReply g) s := by
  have resting : (setState s g).stoppable = false := hs
  simp [stopGenset, hf, objectOf_val, resting]

theorem stopGenset_stops (hf : fr.byte 0 = g) (hs : s.gen.sets[g].state.stoppable = true) :
    stopGenset fr s = reply .ok (setReply g) (stopSet false g .host s) := by
  have stoppable : (setState s g).stoppable = true := hs
  simp [stopGenset, hf, objectOf_val, stoppable]

end Stop

/-- Settles O40: by the state of the set a stop is an unloading, the abort of a start, or a change of origin. -/
theorem stopGensetStopsBySetState : Obligations.StopGensetStopsBySetState := by
  refine ⟨fun fr s acc hbad => next_congr (request_refused acc (stopGenset_badIndex hbad)), fun fr g s acc hf => ?_⟩
  intro h
  have gen : h.gen = s.gen := superviseFrame_gen fr.link s
  have settings : h.settings = s.settings := superviseFrame_settings fr.link s
  rw [← gen]
  refine ⟨fun hs => next_congr (request_performed acc (stopGenset_wrongState hf hs)), fun hs => ?_⟩
  refine ⟨stopSet false g .host h, next_congr (request_performed acc (stopGenset_stops hf hs)), fun online => ?_,
    fun starting => ?_, fun stopping => ?_, stopSet_frame false g .host h⟩
  · rw [stopSet_online_set (.inl rfl) online, stopSet_online_evr online, settings]
    exact ⟨rfl, rfl, rfl, rfl, rfl, rfl⟩
  · obtain ⟨set, queue, permit⟩ := stopSet_starting_set (force := false) (o := .host) (.inl rfl) starting
    rw [set, SetCtl.entered_rest]
    exact ⟨restState_superviseFrame fr.link s g, rfl, rfl, rfl, rfl, rfl, queue, permit⟩
  · rw [stopSet_of_stopping stopping, stopTaken_set]
    exact ⟨rfl, rfl, superviseFrame_notices fr.link s⟩

/-! ### RESET_LOCKOUT (R130) -/

section Reset

variable {s : State} {g : Fin 4} {fr : Frame}

/-- A set whose lockout has been reset with its breaker closed, before its record (R130). -/
theorem resetLockout_closed (hb : setBreaker s g = true) :
    (resetLockout g s).gen.sets[g] =
      ({ s.gen.sets[g] with lockout := 0, origin := .host } : SetCtl).entered true s.fmon.bus .online .idle := by
  have breaker : setBreaker (modSet g (fun c => { c with lockout := 0 }) s) g = true := hb
  have record : (modSet g (fun c => { c with origin := .host }) (modSet g (fun c => { c with lockout := 0 }) s)).gen.sets[g]
      = { s.gen.sets[g] with lockout := 0, origin := .host } := by
    rw [modSet_self, modSet_self]
  unfold resetLockout
  dsimp only
  rw [genRecord_gen, if_pos breaker, enterOnline_set, driven_of_origin (.inl (by rw [record])), record]
  rfl

theorem resetLockout_open (hb : setBreaker s g = false) :
    (resetLockout g s).gen.sets[g] =
      ({ s.gen.sets[g] with lockout := 0 } : SetCtl).entered true s.fmon.bus (restState s g) .idle := by
  have breaker : ¬ setBreaker (modSet g (fun c => { c with lockout := 0 }) s) g = true := fun h =>
    nomatch h.symm.trans hb
  unfold resetLockout
  dsimp only
  rw [genRecord_gen, if_neg breaker, enterSet_set, modSet_self]
  rfl

theorem resetLockout_other {k : Fin 4} (hk : k ≠ g) : (resetLockout g s).gen.sets[k] = s.gen.sets[k] := by
  have online (t : State) : (enterOnline .lockoutReset g t).gen.sets[k] = t.gen.sets[k] := by
    unfold enterOnline
    dsimp only
    rw [genRecord_gen]
    exact enterSet_other _ _ _ _ _ hk
  unfold resetLockout
  dsimp only
  rw [genRecord_gen]
  by_cases hb : setBreaker (modSet g (fun c => { c with lockout := 0 }) s) g = true
  · rw [if_pos hb, online, modSet_other _ _ hk, modSet_other _ _ hk]
  · rw [if_neg hb, enterSet_other _ _ _ _ _ hk, modSet_other _ _ hk]

theorem resetLockoutRequest_badIndex (h : 4 ≤ fr.byte 0) : resetLockoutRequest fr s = refuse .badIndex s := by
  simp only [resetLockoutRequest, objectOf_of_le h]

theorem resetLockoutRequest_wrongState (hf : fr.byte 0 = g) (hs : s.gen.sets[g].state ≠ .lockedOut) :
    resetLockoutRequest fr s = refuse .wrongState s := by
  have other : setState s g ≠ .lockedOut := hs
  simp only [resetLockoutRequest, hf, objectOf_val, if_neg other]

theorem resetLockoutRequest_resets (hf : fr.byte 0 = g) (hs : s.gen.sets[g].state = .lockedOut) :
    resetLockoutRequest fr s = reply .ok (setReply g) (resetLockout g s) := by
  have locked : setState s g = .lockedOut := hs
  simp only [resetLockoutRequest, hf, objectOf_val, if_pos locked]

end Reset

/-- Settles O41: the set is driven on both ways, by its new origin or by the request. -/
theorem resetLockoutReleasesTheSet : Obligations.ResetLockoutReleasesTheSet := by
  refine ⟨fun fr s acc hbad => next_congr (request_refused acc (resetLockoutRequest_badIndex hbad)),
    fun fr g s acc hf => ?_⟩
  intro h
  have gen : h.gen = s.gen := superviseFrame_gen fr.link s
  have breaker : setBreaker h g = setBreaker s g := by
    unfold setBreaker
    rw [superviseFrame_inputs]
  rw [← gen]
  refine ⟨fun hs => next_congr (request_refused acc (resetLockoutRequest_wrongState hf hs)), fun hs => ?_⟩
  refine ⟨resetLockout g h, next_congr (request_performed acc (resetLockoutRequest_resets hf hs)), ?_⟩
  rw [← breaker]
  cases hb : setBreaker h g with
  | true =>
    rw [resetLockout_closed hb]
    exact ⟨rfl, rfl, rfl, rfl, rfl, fun _ => ⟨rfl, rfl, rfl⟩, nofun, fun k hk => resetLockout_other hk,
      resetLockout_frame g h⟩
  | false =>
    rw [resetLockout_open hb, SetCtl.entered_rest]
    exact ⟨rfl, rfl, rfl, rfl, rfl, nofun, fun _ => ⟨restState_superviseFrame fr.link s g, rfl, rfl⟩,
      fun k hk => resetLockout_other hk, resetLockout_frame g h⟩

end Sys2Proof.Machine

/-! ## The timers of a set -/

namespace Sys2Proof.Machine

/-! ### The crank timers (R120 to R122) -/

section Crank

variable {s : State} {g k : Fin 4}

/-- What a set leaves behind that has cranked: the permit goes to the head of the queue, in which it does not stand. -/
theorem leaveCrank_of_cranking (law : CrankLaw s) (hs : s.gen.sets[g].state = .cranking) :
    (leaveCrank g s).gen.permit = none ∧ (leaveCrank g s).gen.queue = s.gen.queue ∧ g ∉ s.gen.queue := by
  have holds : s.gen.permit = some g := (law.holder g).mpr hs
  have out : g ∉ s.gen.queue := fun hm => nomatch hs.symm.trans ((law.waiting g).mp hm)
  refine ⟨by rw [leaveCrank_permit, if_pos holds], ?_, out⟩
  rw [leaveCrank_queue]
  exact List.filter_eq_self.mpr fun k hk => decide_eq_true fun e => out (e ▸ hk)

/-- The permit that a cranking set gives up, and its new holder (R120). -/
structure PermitPassed (s u : State) : Prop where
  permit : u.gen.permit = s.gen.queue.head?
  queue : u.gen.queue = s.gen.queue.tail
  next : ∀ k : Fin 4, s.gen.queue.head? = some k → u.gen.sets[k].state = .cranking
    ∧ u.gen.sets[k].attempts = s.gen.sets[k].attempts + 1 ∧ u.gen.sets[k].timer = .running s.settings.sets[k].crankOnMs

/-- A set ends its pulse in some record; the permit is served at the end of the event. -/
theorem permitPassed_of_serve {t : State} (law : CrankLaw s) (hs : s.gen.sets[g].state = .cranking)
    (hp : t.gen.permit = (leaveCrank g s).gen.permit) (hq : t.gen.queue = (leaveCrank g s).gen.queue)
    (hk : ∀ k : Fin 4, k ≠ g → t.gen.sets[k] = s.gen.sets[k]) (ht : t.settings = s.settings) :
    PermitPassed s (servePermit t) ∧ (servePermit t).gen.sets[g] = t.gen.sets[g] := by
  obtain ⟨free, queue, out⟩ := leaveCrank_of_cranking law hs
  rw [free] at hp
  rw [queue] at hq
  obtain ⟨permit, rest, served⟩ := servePermit_served hp
  obtain ⟨set, -, -⟩ := servePermit_released (s := t) (g := g) (by rw [hq]; exact out) (by rw [hp]; exact nofun)
  rw [hq] at permit rest served
  refine ⟨⟨permit, rest, fun k hh => ?_⟩, set⟩
  have hne : k ≠ g := fun e => out (e ▸ List.mem_of_head? hh)
  rw [served k hh, hk k hne, ht]
  exact ⟨rfl, rfl, rfl⟩

theorem crankEnded_set (g k : Fin 4) (s : State) : (crankEnded g s).gen.sets[k] = s.gen.sets[k] := by
  rw [crankEnded_gen]
  rfl

/-- A set at rest between two attempts, before the permit is served (R121). -/
def crankRests (g : Fin 4) (s : State) : State :=
  enterSet false .expiry g .crankRest (.running s.settings.sets[g].crankRestMs) (crankEnded g s)

/-- A last attempt that fails locks the set out with cause 1 (R121). -/
theorem crankOnTimeExpires_last (law : CrankLaw s) (hs : s.gen.sets[g].state = .cranking)
    (hn : s.settings.sets[g].crankAttempts ≤ s.gen.sets[g].attempts) :
    let u := crankOnTimeExpires g s
    PermitPassed s u ∧ u.gen.sets[g].state = .lockedOut ∧ u.gen.sets[g].lockout = 1 ∧ u.gen.sets[g].timer = .idle := by
  intro u
  have e : u = servePermit (lockedOut g 1 (crankEnded g s)) := by
    rw [← lockOut_eq]
    exact (crankOnTimeExpires_of_cranking hs).trans (if_pos hn)
  have left : (leaveCrank g (crankEnded g s)).gen = (leaveCrank g s).gen := by
    have twice : leaveCrank g (leaveCrank g s) = leaveCrank g s := by simp [leaveCrank, modGen, List.filter_filter]
    calc (leaveCrank g (crankEnded g s)).gen = (leaveCrank g (leaveCrank g s)).gen := by
          unfold leaveCrank
          rw [modGen_gen, modGen_gen, crankEnded_gen]
          rfl
      _ = (leaveCrank g s).gen := by rw [twice]
  obtain ⟨hp, hq⟩ := lockedOut_permit g 1 (crankEnded g s)
  rw [left] at hp hq
  have frame : SameBut [.gen, .evr, .notices, .draws] s (lockedOut g 1 (crankEnded g s)) :=
    ((crankEnded_frame g s).widen _ rfl).trans (lockedOut_frame _ _ _)
  obtain ⟨passed, set⟩ := permitPassed_of_serve law hs hp hq
    (fun k hk => (lockedOut_other 1 _ hk).trans (crankEnded_set g k s)) (frame.settings (by decide))
  rw [e]
  refine ⟨passed, ?_⟩
  rw [set, lockedOut_set]
  exact ⟨rfl, rfl, rfl⟩

/-- An attempt that fails with others left rests the set (R121). -/
theorem crankOnTimeExpires_rests (law : CrankLaw s) (hs : s.gen.sets[g].state = .cranking)
    (hn : s.gen.sets[g].attempts < s.settings.sets[g].crankAttempts) :
    let u := crankOnTimeExpires g s
    PermitPassed s u ∧ u.gen.sets[g].state = .crankRest
      ∧ u.gen.sets[g].timer = .running s.settings.sets[g].crankRestMs := by
  intro u
  have e : u = servePermit (crankRests g s) := (crankOnTimeExpires_of_cranking hs).trans (if_neg (Nat.not_le.mpr hn))
  have frame : SameBut [.gen, .evr, .notices, .draws] s (crankRests g s) :=
    ((crankEnded_frame g s).widen _ rfl).trans ((enterSet_frame _ _ _ _ _ _).widen _ rfl)
  obtain ⟨passed, set⟩ := permitPassed_of_serve (t := crankRests g s) law hs
    ((enterSet_permit ..).trans (congrArg Gen.permit (crankEnded_gen g s)))
    ((enterSet_queue ..).trans (congrArg Gen.queue (crankEnded_gen g s)))
    (fun k hk => (enterSet_other _ _ _ _ _ hk).trans (crankEnded_set g k s)) (frame.settings (by decide))
  rw [e]
  refine ⟨passed, ?_⟩
  rw [set, crankRests, enterSet_set]
  exact ⟨rfl, rfl⟩

/-- A set at the end of its rest, with the report of that where it is due (R122). -/
def restEnded (g : Fin 4) (s : State) : State :=
  let s := enterSet false .expiry g .waitCrank .idle s
  if s.settings.sets[g].crankReport.atRest then genRecord .crankRestEnded g s.gen.sets[g].attempts s else s

theorem restEnded_gen (g : Fin 4) (s : State) :
    (restEnded g s).gen = (enterSet false .expiry g .waitCrank .idle s).gen := by
  unfold restEnded
  dsimp only
  split
  · exact genRecord_gen _ _ _ _
  · rfl

theorem restEnded_frame (g : Fin 4) (s : State) : SameBut [.gen, .evr, .notices, .draws] s (restEnded g s) := by
  simp [restEnded]

/-- A record reads nothing of the sets: it may be added before or after a change to them. -/
theorem genRecord_modGen (j : JournalKind) (g : Fin 4) (v : Int) (h : Gen → Gen) (s : State) :
    genRecord j g v (modGen h s) = modGen h (genRecord j g v s) := by
  unfold genRecord journal
  dsimp only
  rw [apply_ite (modGen h), apply_ite (modGen h)]
  rfl

theorem genRecord_joinCrank (j : JournalKind) (v : Int) (s : State) :
    genRecord j g v (joinCrank g s) = joinCrank g (genRecord j g v s) :=
  genRecord_modGen j g v _ s

/-- Whether the report comes before or after the set has joined the queue is all one. -/
theorem crankRestExpires_of_resting (h : s.gen.sets[g].state = .crankRest) :
    crankRestExpires g s = servePermit (joinCrank g (restEnded g s)) := by
  have joined (t : State) :
      (if (joinCrank g t).settings.sets[g].crankReport.atRest then
          genRecord .crankRestEnded g (joinCrank g t).gen.sets[g].attempts (joinCrank g t) else joinCrank g t)
        = joinCrank g (if t.settings.sets[g].crankReport.atRest then
            genRecord .crankRestEnded g t.gen.sets[g].attempts t else t) := by
    rw [genRecord_joinCrank]
    exact (apply_ite (joinCrank g) _ _ _).symm
  exact (if_pos h).trans (congrArg servePermit (joined _))

/-- A rest that is over gives the set the free permit, or a place at the back of the queue (R120, R122). -/
theorem crankRestExpires_rejoins (law : CrankLaw s) (hs : s.gen.sets[g].state = .crankRest) :
    let u := crankRestExpires g s
    (s.gen.permit = none → u.gen.sets[g].state = .cranking ∧ u.gen.sets[g].attempts = s.gen.sets[g].attempts + 1
        ∧ u.gen.permit = some g ∧ u.gen.queue = [])
      ∧ (s.gen.permit ≠ none → u.gen.sets[g].state = .waitCrank ∧ u.gen.permit = s.gen.permit
          ∧ u.gen.queue = s.gen.queue ++ [g]) := by
  intro u
  have e : u = servePermit (joinCrank g (restEnded g s)) := crankRestExpires_of_resting hs
  have hp : (restEnded g s).gen.permit = s.gen.permit := by rw [restEnded_gen]; exact enterSet_permit ..
  have hq : (restEnded g s).gen.queue = s.gen.queue := by rw [restEnded_gen]; exact enterSet_queue ..
  have record : (restEnded g s).gen.sets[g] =
      s.gen.sets[g].entered (false || driven s g) s.fmon.bus .waitCrank .idle := by
    rw [restEnded_gen]
    exact enterSet_set _ _ _ _ _ _
  rw [e]
  constructor
  · intro free
    obtain ⟨permit, queue, set, -⟩ := joinCrank_free (g := g) (hp.trans free) (hq.trans (law.served free))
    rw [set, record]
    exact ⟨rfl, rfl, permit, queue⟩
  · intro held
    rw [joinCrank_held (by rw [hp]; exact held)]
    exact ⟨congrArg SetCtl.state record, hp, congrArg (· ++ [g]) hq⟩

end Crank

/-- Settles O42: who cranks gives the permit to the head of the queue, in which he does not stand, and who has rested
takes it when it is free, the queue being empty then. -/
theorem crankTimersExpire : Obligations.CrankTimersExpire := by
  refine ⟨fun g s running law hs => ?_, fun g s running law hs => ?_⟩
  · refine ⟨crankOnTimeExpires g s, next_congr (event_running running), ?_⟩
    rcases Nat.lt_or_ge s.gen.sets[g].attempts s.settings.sets[g].crankAttempts with more | last
    · obtain ⟨⟨permit, queue, next⟩, rests⟩ := crankOnTimeExpires_rests law hs more
      exact ⟨fun h => absurd more (Nat.not_lt.mpr h), fun _ => rests, permit, queue, next,
        crankOnTimeExpires_frame g s⟩
    · obtain ⟨⟨permit, queue, next⟩, locked⟩ := crankOnTimeExpires_last law hs last
      exact ⟨fun _ => locked, fun h => absurd h (Nat.not_lt.mpr last), permit, queue, next,
        crankOnTimeExpires_frame g s⟩
  · obtain ⟨free, held⟩ := crankRestExpires_rejoins law hs
    exact ⟨crankRestExpires g s, next_congr (event_running running), free, held, crankRestExpires_frame g s⟩

/-! ### The other timers (R124, R128, R130, R132) -/

section Timers

variable {s : State} {g k : Fin 4}

theorem runUpExpires_set (hs : s.gen.sets[g].state = .runUp) :
    (runUpExpires g s).gen.sets[g].state = .syncing
      ∧ (runUpExpires g s).gen.sets[g].timer = .running s.settings.sets[g].syncTimeoutMs
      ∧ SameBut [.gen, .notices, .draws] s (runUpExpires g s) := by
  have e : runUpExpires g s = enterSyncing .expiry g s := if_pos hs
  rw [e, enterSyncing, enterSet_set]
  exact ⟨rfl, rfl, enterSet_frame _ _ _ _ _ _⟩

theorem lockOut_locks (g : Fin 4) (cause : Nat) (s : State) :
    (lockOut g cause s).gen.sets[g].state = .lockedOut ∧ (lockOut g cause s).gen.sets[g].lockout = cause
      ∧ (lockOut g cause s).gen.grant ≠ some g := by
  obtain ⟨set, grant⟩ := lockOut_set g cause s
  rw [set]
  exact ⟨rfl, rfl, grant⟩

theorem endCooldown_rests (e : SetCause) (g : Fin 4) (v : Int) (s : State) :
    (endCooldown e g v s).gen.sets[g].state = restState s g ∧ (endCooldown e g v s).gen.sets[g].timer = .idle
      ∧ (endCooldown e g v s).gen.sets[g].origin = .none
      ∧ (endCooldown e g v s).evr = (journal .setStopped g v (setAdv .genState s)).evr := by
  have set := endCooldown_set e g v s
  have origin : (endCooldown e g v s).gen.sets[g].origin = .none := by
    rw [set]
    exact if_pos (restState_cases s g)
  refine ⟨congrArg SetCtl.state set, congrArg SetCtl.timer set, origin, ?_⟩
  have fr := enterSet_frame false e g (restState s g) .idle s
  exact genRecord_evr_congr _ _ _ (fr.evr (by decide)) (fr.time (by decide))

/-- A tenth of an hour is counted in the settings of the set alone (R132). -/
theorem tenthHour_settings (g : Fin 4) (s : State) :
    let u := tenthHour g s
    u.settings.sets[g] = { s.settings.sets[g] with runtime := min 999999 (s.settings.sets[g].runtime + 1) }
      ∧ (∀ k : Fin 4, k ≠ g → u.settings.sets[k] = s.settings.sets[k])
      ∧ u.settings = { s.settings with sets := u.settings.sets } := by
  refine ⟨Vector.getElem_set_self _, fun k hk => ?_, rfl⟩
  have other : g.val ≠ k.val := fun e => hk (Fin.ext e.symm)
  exact Vector.getElem_set_ne g.isLt k.isLt other

end Timers

/-- Settles O43: each expiry is the operation of its state; the tenth of an hour touches one set's settings and its
part-hour count. -/
theorem setTimersExpire : Obligations.SetTimersExpire := by
  intro g s running
  refine ⟨fun hs => ⟨runUpExpires g s, next_congr (event_running running), runUpExpires_set hs⟩, fun hs => ?_, fun hs => ?_,
    fun hs => ?_, tenthHour g s, next_congr (event_running running), ?_⟩
  · have e : syncTimesOut g s = lockOut g 3 s := if_pos hs
    obtain ⟨state, cause, grant⟩ := lockOut_locks g 3 s
    exact ⟨lockOut g 3 s, next_congr ((event_running running).trans (congrArg conclude e)), state, cause, grant,
      lockOut_frame g 3 s⟩
  · have e : unloadTimesOut g s = lockOut g 6 s := if_pos hs
    obtain ⟨state, cause, -⟩ := lockOut_locks g 6 s
    exact ⟨lockOut g 6 s, next_congr ((event_running running).trans (congrArg conclude e)), state, cause,
      lockOut_frame g 6 s⟩
  · have e : cooldownExpires g s = endCooldown .expiry g 0 s := if_pos hs
    obtain ⟨state, timer, origin, evr⟩ := endCooldown_rests .expiry g 0 s
    exact ⟨endCooldown .expiry g 0 s, next_congr ((event_running running).trans (congrArg conclude e)), state, timer,
      origin, evr, endCooldown_frame .expiry g 0 s⟩
  · obtain ⟨counted, others, settings⟩ := tenthHour_settings g s
    exact ⟨counted, others, settings, modSet_self g (fun c => { c with partHour := 0 }) s,
      fun k hk => modSet_other (fun c => { c with partHour := 0 }) s hk, tenthHour_frame g s⟩

end Sys2Proof.Machine

/-! ## The inputs of a set -/

namespace Sys2Proof.Machine

section Inputs

variable {s t : State} {g : Fin 4}

/-! ### Which input is which (R22) -/

theorem deliverInput_ready (g : Fin 4) (level : Bool) (s : State) :
    deliverInput ⟨16 + g.val, by omega⟩ level s = readyChange g level s := by
  fin_cases g <;> rfl

theorem deliverInput_running (g : Fin 4) (level : Bool) (s : State) :
    deliverInput ⟨20 + g.val, by omega⟩ level s = runningChange g level s := by
  fin_cases g <;> rfl

theorem deliverInput_breaker (g : Fin 4) (level : Bool) (s : State) :
    deliverInput ⟨24 + g.val, by omega⟩ level s = breakerChange g level s := by
  fin_cases g <;> rfl

/-- A change of another input than READY leaves the state that a set rests in. -/
theorem restState_inputChanged {i : Fin 32} (level : Bool) (s : State) (h : i.val ≠ 16 + g.val) :
    restState (inputChanged i level s) g = restState s g := by
  have ready := congrArg InputCtl.debounced (inputChanged_other i level s (k := ⟨16 + g.val, by omega⟩)
    fun e => h (congrArg Fin.val e).symm)
  have settings := (inputChanged_frame i level s).settings (by decide)
  unfold restState setReady
  rw [settings]
  exact congrArg (fun b => if b && s.settings.sets[g].inService then SetState.standby else .unavailable) ready

/-! ### RUNNING (R121, R122, R124, R128) -/

theorem runningChange_starts (h : setState s g = .waitCrank ∨ setState s g = .cranking
      ∨ setState s g = .crankRest) :
    let u := runningChange g true s
    u.gen.sets[g].state = (if s.settings.sets[g].runupMs = 0 then .syncing else .runUp)
      ∧ g ∉ u.gen.queue ∧ u.gen.permit ≠ some g := by
  have e : runningChange g true s = servePermit (enterRunUp .running g (leaveCrank g s)) := by
    rcases h with h | h | h <;> simp [runningChange, h]
  obtain ⟨set, released⟩ := runUp_set (g := g) s
  dsimp only
  rw [e]
  exact ⟨congrArg SetCtl.state (set.trans (enterRunUp_set _ _ _)), released⟩

theorem runningChange_failsStart (h : setState s g = .runUp ∨ setState s g = .syncing) :
    runningChange g false s = lockOut g 2 s := by
  rcases h with h | h <;> simp [runningChange, h]

theorem runningChange_trips (h : setState s g = .online ∨ setState s g = .unloading) :
    runningChange g false s = lockOut g 5 s := by
  rcases h with h | h <;> simp [runningChange, h]

theorem runningChange_endsCooldown (h : setState s g = .cooldown) :
    runningChange g false s = endCooldown .running g 1 s := by
  simp [runningChange, h]

/-! ### The breaker (R124, R126, R128, R130) -/

/-- However a set that was not on the bus is closed onto it, it is ONLINE. -/
theorem breakerChange_closes (h : setState s g ≠ .online) (h' : setState s g ≠ .unloading) :
    (breakerChange g true s).gen.sets[g].state = .online ∧ (breakerChange g true s).gen.sets[g].timer = .idle := by
  by_cases started : setState s g = .runUp ∨ setState s g = .syncing
  · have e : breakerChange g true s = enterOnline .breaker g s := by
      rcases started with hs | hs <;> simp [breakerChange, hs]
    rw [e, enterOnline_set]
    exact ⟨rfl, rfl⟩
  · have e : breakerChange g true s = closedExternally g s := by
      obtain ⟨notRunUp, notSyncing⟩ := not_or.mp started
      unfold breakerChange
      split
      · exact absurd ‹_› notRunUp
      · exact absurd ‹_› notSyncing
      · exact absurd ‹_› h
      · exact absurd ‹_› h'
      · rfl
    rw [e, closedExternally_set]
    exact ⟨rfl, rfl⟩

theorem breakerChange_trips (h : setState s g = .online) : breakerChange g false s = lockOut g 4 s := by
  simp [breakerChange, h]

theorem breakerChange_unloaded (h : setState s g = .unloading) :
    breakerChange g false s = enterCooldown g s := by
  simp [breakerChange, h]

/-! ### READY (R118, R123) -/

theorem readyChange_admits (h : setState s g = .unavailable) (inService : s.settings.sets[g].inService = true) :
    (readyChange g true s).gen.sets[g].state = .standby := by
  have e : readyChange g true s = genRecord .setAvailability g 1 (enterSet false .ready g .standby .idle s) := by
    simp only [readyChange, h]
    exact if_pos inService
  rw [e, genRecord_gen, enterSet_set]
  rfl

theorem readyChange_withdraws (h : setState s g = .standby) :
    (readyChange g false s).gen.sets[g].state = .unavailable := by
  have e : readyChange g false s = genRecord .setAvailability g 0 (enterSet false .ready g .unavailable .idle s) := by
    simp [readyChange, h]
  rw [e, genRecord_gen, enterSet_set]
  rfl

theorem readyChange_aborts (h : setState s g = .waitCrank ∨ setState s g = .cranking
      ∨ setState s g = .crankRest) :
    let u := readyChange g false s
    u.gen.sets[g].state = .unavailable ∧ g ∉ u.gen.queue ∧ u.gen.permit ≠ some g := by
  have e : readyChange g false s = abortStart false .ready g .unavailable 1 s := by
    rcases h with h | h | h <;> simp [readyChange, h]
  obtain ⟨set, released⟩ := abortStart_set false .ready g .unavailable 1 s
  dsimp only
  rw [e]
  exact ⟨congrArg SetCtl.state set, released⟩

theorem readyChange_ignored (level : Bool) (h : setState s g = .runUp ∨ setState s g = .syncing
      ∨ setState s g = .online ∨ setState s g = .unloading ∨ setState s g = .cooldown
      ∨ setState s g = .lockedOut) :
    readyChange g level s = s := by
  rcases h with h | h | h | h | h | h <;> simp [readyChange, h]

/-! ### A debounced change reaches the set -/

theorem exec_ready {level : Bool} (running : s.phase = .running) (h : setReady s g ≠ level) :
    exec (.debouncedChange ⟨16 + g.val, by omega⟩ level) s =
      .next (conclude (readyChange g level (inputChanged ⟨16 + g.val, by omega⟩ level s))) :=
  next_congr ((event_running running).trans
    (congrArg conclude ((debouncedTo_changed (i := ⟨16 + g.val, by omega⟩) h).trans (deliverInput_ready g level _))))

theorem exec_running {level : Bool} (running : s.phase = .running) (h : setRunning s g ≠ level) :
    exec (.debouncedChange ⟨20 + g.val, by omega⟩ level) s =
      .next (conclude (runningChange g level (inputChanged ⟨20 + g.val, by omega⟩ level s))) :=
  next_congr ((event_running running).trans
    (congrArg conclude ((debouncedTo_changed (i := ⟨20 + g.val, by omega⟩) h).trans (deliverInput_running g level _))))

theorem exec_breaker {level : Bool} (running : s.phase = .running) (h : setBreaker s g ≠ level) :
    exec (.debouncedChange ⟨24 + g.val, by omega⟩ level) s =
      .next (conclude (breakerChange g level (inputChanged ⟨24 + g.val, by omega⟩ level s))) :=
  next_congr ((event_running running).trans
    (congrArg conclude ((debouncedTo_changed (i := ⟨24 + g.val, by omega⟩) h).trans (deliverInput_breaker g level _))))

end Inputs

/-- Settles O44: a change is stored in its input, which leaves the sets, and then moves the set by its state. -/
theorem setInputsMoveTheSet : Obligations.SetInputsMoveTheSet := by
  intro g s running st set
  have locks (cause : Nat) (t : State) :
      (lockOut g cause t).gen.sets[g].state = .lockedOut ∧ (lockOut g cause t).gen.sets[g].lockout = cause :=
    let ⟨state, lockout, _⟩ := lockOut_locks g cause t
    ⟨state, lockout⟩
  refine ⟨fun level h => ⟨_, exec_running running h, ?_⟩, fun level h => ⟨_, exec_breaker running h, ?_⟩,
    fun level h => ⟨_, exec_ready running h, ?_⟩⟩
  · have rest : restState (inputChanged ⟨20 + g.val, by omega⟩ level s) g = restState s g :=
      restState_inputChanged level s (fun e => absurd (Nat.add_right_cancel e) (by decide))
    have fr := inputChanged_frame ⟨20 + g.val, by omega⟩ level s
    have sets : ∀ x, st = x → (inputChanged ⟨20 + g.val, by omega⟩ level s).gen.sets[g].state = x := fun _ hs => hs
    generalize inputChanged ⟨20 + g.val, by omega⟩ level s = t at rest fr sets
    refine ⟨?_, ?_, ?_, ?_⟩
    · rintro rfl hs
      have starts := runningChange_starts (s := t) (hs.imp (sets _) (Or.imp (sets _) (sets _)))
      rwa [fr.settings (by decide)] at starts
    · rintro rfl hs
      rw [runningChange_failsStart (hs.imp (sets _) (sets _))]
      exact locks 2 t
    · rintro rfl hs
      rw [runningChange_trips (hs.imp (sets _) (sets _))]
      exact locks 5 t
    · rintro rfl hs
      rw [runningChange_endsCooldown (sets _ hs)]
      exact (congrArg SetCtl.state (endCooldown_set .running g 1 t)).trans rest
  · have rest : restState (inputChanged ⟨24 + g.val, by omega⟩ level s) g = restState s g :=
      restState_inputChanged level s (fun e => absurd (Nat.add_right_cancel e) (by decide))
    have fr := inputChanged_frame ⟨24 + g.val, by omega⟩ level s
    have sets : (inputChanged ⟨24 + g.val, by omega⟩ level s).gen.sets[g].state = st := rfl
    generalize inputChanged ⟨24 + g.val, by omega⟩ level s = t at rest fr sets
    refine ⟨?_, ?_, ?_⟩
    · rintro rfl notOnline notUnloading
      exact breakerChange_closes (fun e => notOnline (sets.symm.trans e)) (fun e => notUnloading (sets.symm.trans e))
    · rintro rfl hs
      rw [breakerChange_trips (sets.trans hs)]
      exact locks 4 t
    · rintro rfl hs
      rw [breakerChange_unloaded (sets.trans hs), enterCooldown_state, fr.settings (by decide), rest]
      rfl
  · have fr := inputChanged_frame ⟨16 + g.val, by omega⟩ level s
    have sets : ∀ x, st = x → (inputChanged ⟨16 + g.val, by omega⟩ level s).gen.sets[g].state = x := fun _ hs => hs
    generalize inputChanged ⟨16 + g.val, by omega⟩ level s = t at fr sets
    refine ⟨?_, ?_, ?_, fun hs => ?_⟩
    · rintro rfl hs inService
      exact readyChange_admits (sets _ hs) ((congrArg (·.sets[g].inService) (fr.settings (by decide))).trans inService)
    · rintro rfl hs
      exact readyChange_withdraws (sets _ hs)
    · rintro rfl hs
      exact readyChange_aborts (hs.imp (sets _) (Or.imp (sets _) (sets _)))
    · rw [readyChange_ignored level (by rw [setState, fr.gen (by decide)]; exact hs)]
      exact fr.gen (by decide)

end Sys2Proof.Machine

/-! ## Automatic dispatch -/

namespace Sys2Proof.Machine

section Dispatch

variable {s : State} {g k : Fin 4}

/-! ### The timers as they expire (R136, R137) -/

theorem lowReserveExpires_serves (h : s.gen.lowReserve.isRunning = true) :
    lowReserveExpires s = modGen (fun n => { n with lowReserve := .running (1000 * s.settings.sys.startDelayS) })
      (serveDemand 1 s) := if_pos h

/-- A state with the stop timer idle. -/
def stopTimerIdled (s : State) : State := modGen (fun n => { n with stopTimer := .idle }) s

theorem leadOrder_congr {t : State} (h : t.settings = s.settings) : leadOrder t = leadOrder s := by
  have before : leadBefore t = leadBefore s := by
    unfold leadBefore leadKey
    rw [h]
  have inserted : leadInsert t = leadInsert s := by
    funext g l
    induction l with
    | nil => rfl
    | cons k l ih => rw [leadInsert, leadInsert, before, ih]
  rw [leadOrder, inserted]
  rfl

theorem lagSet_stopTimerIdled (s : State) : lagSet (stopTimerIdled s) = lagSet s := by
  have order : leadOrder (stopTimerIdled s) = leadOrder s := leadOrder_congr rfl
  rw [lagSet, order]
  rfl

theorem stopTimerExpires_stops (h : s.gen.stopTimer.isRunning = true) (lag : lagSet s = some g) :
    stopTimerExpires s = stopSet false g .auto (stopTimerIdled s) := by
  refine (if_pos h).trans ?_
  dsimp only
  rw [← stopTimerIdled, lagSet_stopTimerIdled, lag]

theorem driveSet_stopTimer (force : Bool) (g : Fin 4) (s : State) :
    (driveSet force g s).gen.stopTimer = s.gen.stopTimer := by
  unfold driveSet
  split <;> simp

theorem enterSet_stopTimer (force : Bool) (e : SetCause) (g : Fin 4) (new : SetState) (m : Timer) (s : State) :
    (enterSet force e g new m s).gen.stopTimer = s.gen.stopTimer := by
  unfold enterSet
  dsimp only
  split_ifs <;> simp [driveSet_stopTimer]

/-- An automatic stop of a set that is ONLINE: the set alone moves, whether its lines follow or not (R127). -/
theorem stopSet_auto_online (hs : s.gen.sets[g].state = .online) :
    let u := stopSet false g .auto s
    u.gen.stopTimer = s.gen.stopTimer ∧ u.gen.sets[g].state = .unloading ∧ u.gen.sets[g].origin = .auto
      ∧ ∀ k : Fin 4, k ≠ g → u.gen.sets[k] = s.gen.sets[k] := by
  dsimp only
  rw [stopSet_of_online hs, genRecord_gen, enterSet_set, enterSet_stopTimer, stopTaken_set]
  exact ⟨rfl, rfl, rfl, fun k hk => (enterSet_other _ _ _ _ _ hk).trans (modSet_other _ _ hk)⟩

/-! ### Demands (R135, R136) -/

theorem standby_of_dispatchLead (h : dispatchLead s = some g) : s.gen.sets[g].state = .standby :=
  of_decide_eq_true (List.mem_filter.mp (List.mem_of_head? h)).2

theorem serveDemand_starts (active : dispatchActive s = true) (noStart : autoStart s = none)
    (lead : dispatchLead s = some g) (source : Nat) : serveDemand source s = (startSet g .auto s).1 := by
  refine (if_pos active).trans ?_
  rw [noStart, lead]

theorem dispatchActive_iff (s : State) : dispatchActive s = true ↔ s.lnk.mode = .auto ∧ blkActive s = false := by
  simp [dispatchActive]

theorem dispatchActive_of_blkActive (h : blkActive s = true) : dispatchActive s = false := by
  simp [dispatchActive, h]

/-! ### The conditions of the two timers (R136, R137) -/

theorem conditionTimer_holds {cond : Bool} (h : cond = true) (ms : Nat) (m : Timer) :
    conditionTimer cond ms m = if m.isRunning then m else .running ms := by
  subst h
  unfold conditionTimer
  cases m.isRunning <;> rfl

theorem conditionTimer_fails {cond : Bool} (h : ¬ cond = true) (ms : Nat) (m : Timer) :
    conditionTimer cond ms m = .idle := by
  rw [Bool.eq_false_of_not_eq_true h]
  rfl

theorem evalDispatch_lowReserve (s : State) : (evalDispatch s).gen.lowReserve =
    conditionTimer (lowReserveCondition s) (1000 * s.settings.sys.startDelayS) s.gen.lowReserve := rfl

theorem evalDispatch_stopTimer (s : State) : (evalDispatch s).gen.stopTimer =
    conditionTimer (stopCondition s) (1000 * s.settings.sys.stopDelayS) s.gen.stopTimer := rfl

/-- Dispatch is active on a LIVE bus (R135 to R137). -/
def Dispatching (s : State) : Prop := s.lnk.mode = .auto ∧ blkActive s = false ∧ s.fmon.bus = .live

theorem lowReserveCondition_iff (s : State) :
    lowReserveCondition s = true ↔ Dispatching s ∧ spinningReserve s < s.settings.sys.srMin := by
  unfold lowReserveCondition Dispatching
  rw [Bool.and_eq_true, Bool.and_eq_true, dispatchActive_iff, decide_eq_true_iff, decide_eq_true_iff]
  tauto

theorem inServiceOnline_eq (s : State) :
    inServiceOnline s = (List.finRange 4).filter fun g =>
      decide (s.gen.sets[g].state = .online) && s.settings.sets[g].inService := by
  rw [inServiceOnline, onlineSets, List.filter_filter]
  exact congrArg (List.filter · (List.finRange 4)) (funext fun g => Bool.and_comm _ _)

/-- No set is on its way onto the bus or off it (R137). -/
def SetsSettled (s : State) : Prop :=
  ∀ g : Fin 4, s.gen.sets[g].state.starting = false ∧ s.gen.sets[g].state ≠ .unloading

theorem setsSettled_iff (s : State) :
    ((List.finRange 4).all fun g => !(setState s g).starting && decide (setState s g ≠ .unloading)) = true
      ↔ SetsSettled s := by
  simp only [List.all_eq_true, List.mem_finRange, forall_const, Bool.and_eq_true, Bool.not_eq_true',
    decide_eq_true_iff]
  rfl

/-- The reserve that the lag set would leave is enough (R137). -/
def LagSpare (s : State) : Prop :=
  ∃ g, lagSet s = some g
    ∧ (s.settings.sys.srMin + s.settings.sys.stopMargin : Int) ≤ spinningReserve s - s.settings.sets[g].ratedKw

theorem lagSpare_iff (s : State) :
    (match lagSet s with
      | some g => decide ((s.settings.sys.srMin + s.settings.sys.stopMargin : Int)
          ≤ spinningReserve s - s.settings.sets[g].ratedKw)
      | none => false) = true ↔ LagSpare s := by
  unfold LagSpare
  cases lagSet s <;> simp

theorem stopCondition_iff (s : State) :
    stopCondition s = true ↔ Dispatching s ∧ 2 ≤ ((List.finRange 4).filter fun g =>
        decide (s.gen.sets[g].state = .online) && s.settings.sets[g].inService).length
      ∧ s.rst.entries = [] ∧ SetsSettled s ∧ LagSpare s := by
  rw [← inServiceOnline_eq, ← setsSettled_iff, ← lagSpare_iff, ← List.isEmpty_iff]
  unfold stopCondition Dispatching
  simp only [Bool.and_eq_true, dispatchActive_iff, decide_eq_true_iff]
  tauto

/-- Where dispatch is not active, neither timer runs (R135). -/
theorem evalDispatch_inactive (h : dispatchActive s = false) :
    (evalDispatch s).gen.lowReserve = .idle ∧ (evalDispatch s).gen.stopTimer = .idle := by
  have low : ¬ lowReserveCondition s = true := by simp [lowReserveCondition, h]
  have stop : ¬ stopCondition s = true := by simp [stopCondition, h]
  exact ⟨conditionTimer_fails low _ _, conditionTimer_fails stop _ _⟩

/-! ### GEN takes a notice (R117, R129) -/

theorem ite_isEmpty {α β : Type} (l : List α) (x y : β) : (if l.isEmpty then x else y) = if l = [] then x else y := by
  cases l <;> rfl

theorem deliver_monitor (s : State) :
    deliver (.mode .gen .monitor) s = evalDispatch ((List.finRange 4).foldl (fun s g => abortAt g s) s) :=
  genOnMode_monitor s

theorem SetCtl.of_outline_atRest {c : SetCtl} {x : SetState} (h : c.outline = .atRest x) :
    c.state = x ∧ c.origin = .none ∧ c.crank = false ∧ c.run = false ∧ c.syncPermit = false ∧ c.openReq = false :=
  ⟨congrArg SetOutline.state h, congrArg SetOutline.origin h, congrArg (·.lines.crank) h, congrArg (·.lines.run) h,
    congrArg (·.lines.syncPermit) h, congrArg (·.lines.openReq) h⟩

/-- An aborted start is at rest with its lines released (R123, R129). -/
theorem deliver_monitor_aborts (law : CrankLaw s) (auto : s.gen.sets[g].origin = .auto)
    (starting : s.gen.sets[g].state.starting = true) :
    (deliver (.mode .gen .monitor) s).gen.sets[g].outline = .atRest (restState s g) := by
  have permit := (crankLaw_iff_permitLaw s).mp law
  have starts : autoStarting s g = true := Bool.and_eq_true_iff.mpr ⟨decide_eq_true auto, starting⟩
  have view := congrArg (·.sets g) (setsView_deliver_monitor s)
  exact view.trans ((monitor_aborted permit).rests g (List.mem_finRange g) starts)

theorem deliver_monitor_idle (h : ∀ g, autoStarting s g = false) :
    deliver (.mode .gen .monitor) s = evalDispatch s := by
  have stays : ∀ l : List (Fin 4), l.foldl (fun s g => abortAt g s) s = s := fun l => by
    induction l with
    | nil => rfl
    | cons g l ih => rw [List.foldl_cons, abortAt_of_not (h g), ih]
  rw [deliver_monitor, stays]

end Dispatch

/-- Settles O45: the timers' expiries, the demand, the tests of the conditions, and GEN's answer to each notice. -/
theorem dispatchTimersExpire : Obligations.DispatchTimersExpire := by
  refine ⟨fun s running low => ?_, fun s g running stop lag => ?_, fun s g active noStart lead => ?_, fun s held => ?_,
    fun s => ?_, fun s => ?_, fun s law => ?_⟩
  · refine ⟨lowReserveExpires s, next_congr (event_running running), ?_⟩
    rw [lowReserveExpires_serves low]
    exact ⟨rfl, modGen_frame _ _⟩
  · have online : (stopTimerIdled s).gen.sets[g].state = .online :=
      online_of_lagSet ((lagSet_stopTimerIdled s).trans lag)
    obtain ⟨idle, state, origin, others⟩ := stopSet_auto_online online
    refine ⟨stopTimerExpires s, next_congr (event_running running), ?_⟩
    refine ⟨?_, ?_, ?_, ?_, ?_, stopTimerExpires_frame s⟩
    all_goals rw [stopTimerExpires_stops stop lag]
    · exact idle
    · exact state
    · exact origin
    · exact (stopSet_online_evr online).trans (genRecord_evr_congr (t := stopTimerIdled s) _ _ _ rfl rfl)
    · exact others
  · exact ⟨standby_of_dispatchLead lead, serveDemand_starts active noStart lead⟩
  · obtain ⟨low, stop⟩ := evalDispatch_inactive (dispatchActive_of_blkActive held)
    refine ⟨fun source => ?_, low, stop, evalDispatch_frame s⟩
    rw [serveDemand, dispatchActive_of_blkActive held]
    rfl
  · refine ⟨rfl, evalDispatch_frame s, fun low => ?_, fun low => ?_, fun stop => ?_, fun stop => ?_⟩
    · exact conditionTimer_holds ((lowReserveCondition_iff s).mpr low) _ _
    · exact conditionTimer_fails (mt (lowReserveCondition_iff s).mp low) _ _
    · exact conditionTimer_holds ((stopCondition_iff s).mpr stop) _ _
    · exact conditionTimer_fails (mt (stopCondition_iff s).mp stop) _ _
  · exact ⟨fun _ => rfl, fun _ _ _ _ _ => rfl, rfl, fun names => ⟨ite_isEmpty _ _ _, ite_isEmpty _ _ _⟩, rfl⟩
  · intro u
    refine ⟨fun g auto starting => ?_, fun noStart => ?_, genOnMode_frame .monitor s⟩
    · exact SetCtl.of_outline_atRest (deliver_monitor_aborts law auto starting)
    · refine deliver_monitor_idle fun g => ?_
      have idle := noStart g
      simpa [autoStarting, setState] using idle

end Sys2Proof.Machine

/-! ## The channels of the curtailment unit, channel by channel -/

namespace Sys2Proof.Machine

/-! ### One channel by its record and its settings (R142, R150, R151, R153, R154) -/

/-- What bears on the limits of all channels: whether the sequencer is active, the zero hold, the mode and the bus. -/
structure Bearing where
  seqActive : Bool
  zeroHold : Bool
  mode : Mode
  bus : BusState

/-- What bears on the limits in a state of the model. -/
def bearing (s : State) : Bearing := ⟨s.cur.seqActive, s.cur.zeroHold, s.lnk.mode, s.fmon.bus⟩

/-- The effective ceiling of a channel with the settings `t` (R142). -/
def ceilingOf (seqActive : Bool) (t : PvSettings) (c : ChannelCtl) : Int :=
  let base : Int := if c.latch then t.fallbackCeiling else t.hostCeiling
  if t.inService then
    (if seqActive then min base (t.ratedKw * c.release / 100 : Nat) else base)
  else 0

/-- The target of a channel (R150, R153). -/
def targetOf (b : Bearing) (t : PvSettings) (c : ChannelCtl) : Int :=
  if t.inService then
    match b.mode with
    | .monitor => ceilingOf b.seqActive t c
    | .auto =>
      if b.zeroHold then 0 else minPresent (minPresent (ceilingOf b.seqActive t c) c.droopLimit) c.share
  else 0

/-- The limit and the remainder that a recomputed target gives (R150, R153). -/
def limitsOf (b : Bearing) (t : PvSettings) (c : ChannelCtl) : Int × Nat :=
  match b.mode with
  | .monitor => (if b.bus = .dead then 0 else ceilingOf b.seqActive t c, 0)
  | .auto => if targetOf b t c ≤ c.limit then (targetOf b t c, 0) else (c.limit, c.remainder)

/-- A channel that takes a limit and a remainder; its pending duty follows (R154). -/
def limited (t : PvSettings) (v : Int) (r : Nat) (c : ChannelCtl) : ChannelCtl :=
  { c with limit := v, remainder := r, pwm := { c.pwm with pending := dutyOf v t.ratedKw } }

/-- A channel whose target has been recomputed (R150, R153). -/
def takenOf (b : Bearing) (t : PvSettings) (c : ChannelCtl) : ChannelCtl :=
  limited t (limitsOf b t c).1 (limitsOf b t c).2 c

/-- A channel after a ramp tick in AUTO (R151). -/
def risenOf (b : Bearing) (t : PvSettings) (c : ChannelCtl) : ChannelCtl :=
  if t.inService && decide (c.limit < targetOf b t c) then
    let sum := c.remainder + t.rampUp
    let risen := c.limit + (sum / 10 : Nat)
    if targetOf b t c < risen then limited t (targetOf b t c) 0 c else limited t risen (sum % 10) c
  else c

/-- Every channel is updated on its own. -/
def mapChannels (h : Fin 6 → ChannelCtl → ChannelCtl) (s : State) : State :=
  modCur (fun c => { c with channels := Vector.ofFn fun j => h j c.channels[j] }) s

section Channels

variable {s t : State} {j k : Fin 6} {h : Fin 6 → ChannelCtl → ChannelCtl}

theorem effectiveCeiling_eq (s : State) (j : Fin 6) :
    effectiveCeiling s j = ceilingOf s.cur.seqActive s.settings.channels[j] s.cur.channels[j] := rfl

theorem pvTarget_eq (s : State) (j : Fin 6) :
    pvTarget s j = targetOf (bearing s) s.settings.channels[j] s.cur.channels[j] := rfl

theorem applyTarget_eq (j : Fin 6) (s : State) :
    applyTarget j s = modChannel j (takenOf (bearing s) s.settings.channels[j]) s := rfl

theorem modChannel_congr {g g' : ChannelCtl → ChannelCtl} (e : g s.cur.channels[j] = g' s.cur.channels[j]) :
    modChannel j g s = modChannel j g' s := by
  unfold modChannel
  rw [e]

theorem modChannel_id {g : ChannelCtl → ChannelCtl} (e : g s.cur.channels[j] = s.cur.channels[j]) :
    modChannel j g s = s := by
  unfold modChannel
  rw [e]
  simp

theorem rampChannel_eq (j : Fin 6) (s : State) :
    rampChannel j s = modChannel j (risenOf (bearing s) s.settings.channels[j]) s := by
  unfold rampChannel
  dsimp only
  rw [pvTarget_eq]
  split
  next rises =>
    split
    next beyond => exact modChannel_congr ((if_pos rises).trans (if_pos beyond)).symm
    next within => exact modChannel_congr ((if_pos rises).trans (if_neg within)).symm
  next stands => exact (modChannel_id (if_neg stands)).symm

/-! ### Updates of every channel -/

@[simp] theorem mapChannels_channel (h : Fin 6 → ChannelCtl → ChannelCtl) (s : State) (j : Fin 6) :
    (mapChannels h s).cur.channels[j] = h j s.cur.channels[j] := Vector.getElem_ofFn _

@[simp] theorem mapChannels_settings (h : Fin 6 → ChannelCtl → ChannelCtl) (s : State) :
    (mapChannels h s).settings = s.settings := rfl
@[simp] theorem mapChannels_meas (h : Fin 6 → ChannelCtl → ChannelCtl) (s : State) :
    (mapChannels h s).meas = s.meas := rfl
@[simp] theorem mapChannels_lnk (h : Fin 6 → ChannelCtl → ChannelCtl) (s : State) :
    (mapChannels h s).lnk = s.lnk := rfl
@[simp] theorem mapChannels_fmon (h : Fin 6 → ChannelCtl → ChannelCtl) (s : State) :
    (mapChannels h s).fmon = s.fmon := rfl
@[simp] theorem mapChannels_evr (h : Fin 6 → ChannelCtl → ChannelCtl) (s : State) :
    (mapChannels h s).evr = s.evr := rfl
@[simp] theorem mapChannels_notices (h : Fin 6 → ChannelCtl → ChannelCtl) (s : State) :
    (mapChannels h s).notices = s.notices := rfl
@[simp] theorem bearing_mapChannels (h : Fin 6 → ChannelCtl → ChannelCtl) (s : State) :
    bearing (mapChannels h s) = bearing s := rfl

theorem mapChannels_frame (h : Fin 6 → ChannelCtl → ChannelCtl) (s : State) : SameBut [.cur] s (mapChannels h s) :=
  modCur_frame _ s

theorem channels_ext {v w : Vector ChannelCtl 6} (h : ∀ j : Fin 6, v[j] = w[j]) : v = w :=
  Vector.ext fun i hi => h ⟨i, hi⟩

theorem mapChannels_congr {g : Fin 6 → ChannelCtl → ChannelCtl}
    (e : ∀ j : Fin 6, h j s.cur.channels[j] = g j s.cur.channels[j]) : mapChannels h s = mapChannels g s := by
  have channels : (mapChannels h s).cur.channels = (mapChannels g s).cur.channels :=
    channels_ext fun j => by rw [mapChannels_channel, mapChannels_channel, e]
  exact congrArg (fun v => { s with cur := { s.cur with channels := v } }) channels

theorem mapChannels_id (e : ∀ j : Fin 6, h j s.cur.channels[j] = s.cur.channels[j]) : mapChannels h s = s := by
  have channels : (mapChannels h s).cur.channels = s.cur.channels :=
    channels_ext fun j => by rw [mapChannels_channel, e]
  exact congrArg (fun v => { s with cur := { s.cur with channels := v } }) channels

theorem mapChannels_mapChannels (g h : Fin 6 → ChannelCtl → ChannelCtl) (s : State) :
    mapChannels g (mapChannels h s) = mapChannels (fun j c => g j (h j c)) s := by
  have channels : (mapChannels g (mapChannels h s)).cur.channels
      = (mapChannels (fun j c => g j (h j c)) s).cur.channels :=
    channels_ext fun j => by simp only [mapChannels_channel]
  exact congrArg (fun v => { s with cur := { s.cur with channels := v } }) channels

theorem modChannel_eq_mapChannels (k : Fin 6) (g : ChannelCtl → ChannelCtl) (s : State) :
    modChannel k g s = mapChannels (fun j c => if j = k then g c else c) s := by
  have channels : (modChannel k g s).cur.channels
      = (mapChannels (fun j c => if j = k then g c else c) s).cur.channels :=
    channels_ext fun j => by
      rw [mapChannels_channel]
      split
      next e => rw [e, modChannel_self]
      next e => exact modChannel_other g s e
  exact congrArg (fun v => { s with cur := { s.cur with channels := v } }) channels

/-- Channels that are updated in turn, each by a rule on which the others have no influence, are updated each on its
own. -/
theorem foldl_modChannel {rule : State → Fin 6 → ChannelCtl → ChannelCtl}
    (own : ∀ (s : State) (j k : Fin 6) (g : ChannelCtl → ChannelCtl), j ≠ k → rule (modChannel k g s) j = rule s j) :
    ∀ (l : List (Fin 6)) (s : State), l.Nodup →
      l.foldl (fun t j => modChannel j (rule t j) t) s = mapChannels (fun j c => if j ∈ l then rule s j c else c) s
  | [], s, _ => (mapChannels_id fun j => by simp).symm
  | k :: l, s, hl => by
    obtain ⟨hk, hl⟩ := List.nodup_cons.mp hl
    rw [List.foldl_cons, foldl_modChannel own l _ hl, modChannel_eq_mapChannels, mapChannels_mapChannels]
    refine mapChannels_congr fun j => ?_
    by_cases e : j = k
    · subst e
      simp [hk]
    · have same := own s j k (rule s k) e
      rw [modChannel_eq_mapChannels] at same
      simp [e, same]

/-- The same for all six channels. -/
theorem foldl_modChannels {rule : State → Fin 6 → ChannelCtl → ChannelCtl}
    (own : ∀ (s : State) (j k : Fin 6) (g : ChannelCtl → ChannelCtl), j ≠ k → rule (modChannel k g s) j = rule s j)
    (s : State) : (List.finRange 6).foldl (fun t j => modChannel j (rule t j) t) s = mapChannels (rule s) s := by
  rw [foldl_modChannel own _ s (List.nodup_finRange 6)]
  exact mapChannels_congr fun j => if_pos (List.mem_finRange j)

theorem applyTargets_eq (s : State) :
    applyTargets s = mapChannels (fun j => takenOf (bearing s) s.settings.channels[j]) s :=
  foldl_modChannels (rule := fun s j => takenOf (bearing s) s.settings.channels[j]) (fun _ _ _ _ _ => rfl) s

theorem rampTickStep_auto (h : s.lnk.mode = .auto) :
    rampTickStep s = mapChannels (fun j => risenOf (bearing s) s.settings.channels[j])
      (modCur (fun c => { c with rampDue := false }) s) := by
  have mode : (modCur (fun c => { c with rampDue := false }) s).lnk.mode = .auto := h
  unfold rampTickStep
  simp only [mode, rampChannel_eq]
  exact foldl_modChannels (rule := fun s j => risenOf (bearing s) s.settings.channels[j]) (fun _ _ _ _ _ => rfl) _

theorem newShares_eq (s : State) :
    newShares s =
      if onlineStale s then modCur (fun c => { c with freeze := true }) s
      else mapChannels (fun j c => { c with share := shareFor s (absorbableAmount s) j })
        (modCur (fun c => { c with freeze := false, absorbable := some (absorbableAmount s) }) s) := by
  unfold newShares
  dsimp only
  split
  · rfl
  · exact foldl_modChannels (rule := fun _ j c => { c with share := shareFor s (absorbableAmount s) j })
      (fun _ _ _ _ _ => rfl) _

theorem recomputeDroop_eq (f : Nat) (s : State) :
    recomputeDroop f s = mapChannels (fun _ c => { c with droopLimit := c.reference.map (droopLimitAt s f) }) s :=
  foldl_modChannels (rule := fun s _ c => { c with droopLimit := c.reference.map (droopLimitAt s f) })
    (fun _ _ _ _ _ => rfl) s

/-- The rule by which a channel takes its target unless it is picked out. -/
theorem retarget_eq (old s : State) :
    retarget old s =
      mapChannels (fun j c =>
        if constraintsOf s j = constraintsOf old j then c else takenOf (bearing s) s.settings.channels[j] c) s := by
  have turn (t : State) (j : Fin 6) :
      (if constraintsOf s j = constraintsOf old j then t else applyTarget j t)
        = modChannel j (fun c =>
            if constraintsOf s j = constraintsOf old j then c else takenOf (bearing t) t.settings.channels[j] c) t := by
    split
    · exact (modChannel_id rfl).symm
    · rfl
  unfold retarget
  simp only [turn]
  exact foldl_modChannels (rule := fun t j c =>
    if constraintsOf s j = constraintsOf old j then c else takenOf (bearing t) t.settings.channels[j] c)
    (fun _ _ _ _ _ => rfl) s

/-- The output of a channel is a matter of its own record (R49). -/
theorem channelOutput_modChannel {g : ChannelCtl → ChannelCtl} (h : j ≠ k) :
    channelOutput (modChannel k g s) j = channelOutput s j := by
  unfold channelOutput
  rw [modChannel_other _ _ h]
  rfl

/-- The onset of a droop episode, its references frozen at the outputs that stand (R145). -/
theorem droopOnset_eq (f : Nat) (s : State) :
    droopOnset f s =
      recomputeDroop f (journal .droopBegins 0 f (setAdv .droop
        (mapChannels (fun j c =>
            { c with reference := if s.settings.channels[j].inService then some (channelOutput s j) else none })
          (modCur (fun c => { c with droopActive := true }) s)))) := by
  have frozen := foldl_modChannels (rule := fun s j c =>
      { c with reference := if s.settings.channels[j].inService then some (channelOutput s j) else none })
    (fun s j k g e => by simp only [channelOutput_modChannel e]; rfl)
    (modCur (fun c => { c with droopActive := true }) s)
  exact congrArg (fun t => recomputeDroop f (journal .droopBegins 0 f (setAdv .droop t))) frozen

/-- The end of a droop episode (R147). -/
theorem droopEnd_eq (v : Int) (s : State) :
    droopEnd v s =
      journal .droopEnds 0 v (setAdv .droop
        (mapChannels (fun _ c => { c with reference := none, droopLimit := none })
          (modCur (fun c => { c with droopActive := false }) s))) := by
  have cleared := foldl_modChannels (rule := fun _ _ c => { c with reference := none, droopLimit := none })
    (fun _ _ _ _ _ => rfl) (modCur (fun c => { c with droopActive := false }) s)
  exact congrArg (fun t => journal .droopEnds 0 v (setAdv .droop t)) cleared

/-- A record of every channel that is written in the same way. -/
theorem foldl_modChannel_const (g : ChannelCtl → ChannelCtl) (s : State) :
    (List.finRange 6).foldl (fun t j => modChannel j g t) s = mapChannels (fun _ => g) s :=
  foldl_modChannels (rule := fun _ _ => g) (fun _ _ _ _ _ => rfl) s

end Channels
end Sys2Proof.Machine

/-! ## The laws of the output limits: what they see -/

namespace Sys2Proof.Machine

/-! ### The laws of one channel (R150, R153) -/

/-- The law of R150 for one channel. -/
def ChannelFits (b : Bearing) (t : PvSettings) (p : Point) (c : ChannelCtl) : Prop :=
  ChannelOk t p c ∧ c.limit ≤ ceilingOf b.seqActive t c

/-- The second law for one channel: the limit under a zero hold, and the limit and remainder of MONITOR, the limit only
where CUR has no change of the bus state still to take (`settled`). -/
structure ChannelRests (settled : Prop) (b : Bearing) (t : PvSettings) (c : ChannelCtl) : Prop where
  held : b.mode = .auto → b.zeroHold = true → c.limit = 0
  remainder : b.mode = .monitor → c.remainder = 0
  monitor : settled → b.mode = .monitor → c.limit = if b.bus = .dead then 0 else ceilingOf b.seqActive t c

section Channel

variable {b : Bearing} {q : Bool} {t : PvSettings} {p : Point} {c : ChannelCtl} {settled : Prop}

theorem minPresent_le (a : Int) (o : Option Int) : minPresent a o ≤ a := by
  cases o with
  | none => exact le_refl a
  | some x => exact min_le_left a x

theorem minPresent_nonneg {a : Int} {o : Option Int} (ha : 0 ≤ a) (ho : ∀ x, o = some x → 0 ≤ x) :
    0 ≤ minPresent a o := by
  cases o with
  | none => exact ha
  | some x => exact le_min ha (ho x rfl)

theorem ceilingOf_nonneg (q : Bool) (t : PvSettings) (c : ChannelCtl) : 0 ≤ ceilingOf q t c := by
  unfold ceilingOf
  dsimp only
  repeat' split
  all_goals omega

theorem ceilingOf_le_rated (h : ChannelOk t p c) (q : Bool) : ceilingOf q t c ≤ t.ratedKw := by
  obtain ⟨host, fallback, -, -, -, -, -⟩ := h
  unfold ceilingOf
  dsimp only
  repeat' split
  all_goals omega

theorem targetOf_nonneg (h : ChannelOk t p c) (b : Bearing) : 0 ≤ targetOf b t c := by
  unfold targetOf
  repeat' split
  · exact ceilingOf_nonneg _ t c
  · exact le_refl 0
  · exact minPresent_nonneg (minPresent_nonneg (ceilingOf_nonneg _ t c) h.droop) h.share
  · exact le_refl 0

theorem targetOf_le_ceiling (b : Bearing) (t : PvSettings) (c : ChannelCtl) :
    targetOf b t c ≤ ceilingOf b.seqActive t c := by
  unfold targetOf
  repeat' split
  · exact le_refl _
  · exact ceilingOf_nonneg _ t c
  · exact (minPresent_le _ _).trans (minPresent_le _ _)
  · exact ceilingOf_nonneg _ t c

theorem targetOf_held (hm : b.mode = .auto) (hz : b.zeroHold = true) : targetOf b t c = 0 := by
  unfold targetOf
  simp only [hm, hz, if_true, ite_self]

/-- What a channel's rest depends on. -/
theorem ChannelRests.congr {b' : Bearing} {t' : PvSettings} {c' : ChannelCtl} (h : ChannelRests settled b t c)
    (mode : b'.mode = b.mode) (hold : b'.zeroHold = b.zeroHold) (bus : b'.bus = b.bus) (limit : c'.limit = c.limit)
    (remainder : c'.remainder = c.remainder) (ceiling : ceilingOf b'.seqActive t' c' = ceilingOf b.seqActive t c) :
    ChannelRests settled b' t' c' := by
  refine ⟨fun m z => ?_, fun m => ?_, fun k m => ?_⟩
  · rw [limit]
    exact h.held (mode ▸ m) (hold ▸ z)
  · rw [remainder]
    exact h.remainder (mode ▸ m)
  · rw [limit, bus, ceiling]
    exact h.monitor k (mode ▸ m)

/-- A limit that is not negative and within the ceiling fits a channel whose constraints are in order. -/
theorem ChannelOk.limited (h : ChannelOk t p c) {v : Int} (r : Nat) (hv : 0 ≤ v) (hc : v ≤ ceilingOf b.seqActive t c) :
    ChannelFits b t p (limited t v r c) :=
  ⟨⟨h.host, h.fallback, h.point, h.reference, h.droop, h.share, hv⟩, hc⟩

/-- A recomputed target leaves a limit that fits (R150, R153). -/
theorem takenOf_fits (h : ChannelOk t p c) (b : Bearing) : ChannelFits b t p (takenOf b t c) := by
  unfold takenOf limitsOf
  cases b.mode with
  | monitor =>
    refine h.limited _ ?_ ?_
    all_goals
      dsimp only
      have := ceilingOf_nonneg b.seqActive t c
      split <;> omega
  | auto =>
    have := targetOf_le_ceiling b t c
    dsimp only
    split
    · exact h.limited _ (targetOf_nonneg h b) this
    · exact h.limited _ h.limit (by dsimp only; omega)

/-- A recomputed target leaves a channel at rest (R150, R152, R153). -/
theorem takenOf_rests (h : ChannelOk t p c) (b : Bearing) (settled : Prop) :
    ChannelRests settled b t (takenOf b t c) := by
  unfold takenOf limitsOf
  refine ⟨fun hm hz => ?_, fun hm => ?_, fun _ hm => ?_⟩
  · rw [hm, targetOf_held hm hz]
    exact congrArg Prod.fst (if_pos h.limit)
  · rw [hm]
    rfl
  · rw [hm]
    rfl

/-- The ramp raises a limit to the target at most (R151). -/
theorem risenOf_fits (h : ChannelFits b t p c) : ChannelFits b t p (risenOf b t c) := by
  obtain ⟨ok, -⟩ := id h
  have limit := ok.limit
  have target := targetOf_le_ceiling b t c
  unfold risenOf
  dsimp only
  split
  · split
    · exact ok.limited _ (targetOf_nonneg ok b) target
    · exact ok.limited _ (by omega) (by omega)
  · exact h

/-- In AUTO the ramp raises nothing above a zero hold (R151, R152). -/
theorem risenOf_rests (h : ChannelRests settled b t c) (hm : b.mode = .auto) :
    ChannelRests settled b t (risenOf b t c) := by
  refine ⟨fun _ hz => ?_, fun k => ?_, fun _ k => ?_⟩
  · have zero := h.held hm hz
    have stands : ¬ (t.inService && decide (c.limit < targetOf b t c)) = true := by
      rw [targetOf_held hm hz, zero]
      simp
    rw [risenOf, if_neg stands]
    exact zero
  all_goals exact nomatch hm.symm.trans k

end Channel

/-! ### What CUR has still to take -/

/-- Of the notices that wait, what the laws see: the changes of the bus state that CUR has still to take, and whether it
has still to take a change of mode. -/
structure CurWaits where
  buses : List BusState
  turning : Bool

/-- The new bus state of a notice of its change to CUR. -/
def Notice.curBus : Notice → Option BusState
  | .bus .cur n => if n.bus = n.prev then none else some n.bus
  | _ => none

/-- The notice is a mode notice to CUR. -/
def Notice.curMode : Notice → Bool
  | .mode .cur _ => true
  | _ => false

/-- What CUR has still to take of a list of notices. -/
def curWaits (l : List Notice) : CurWaits := ⟨l.filterMap Notice.curBus, l.any Notice.curMode⟩

/-- A notice that the laws do not see. -/
def Notice.offCur (n : Notice) : Prop := n.curBus = none ∧ n.curMode = false

section Waits

variable {n : Notice} {l : List Notice}

theorem curWaits_cons (h : n.offCur) : curWaits (n :: l) = curWaits l := by
  obtain ⟨bus, mode⟩ := h
  simp [curWaits, bus, mode]

theorem curWaits_append {k : List Notice} (h : ∀ n ∈ k, n.offCur) : curWaits (l ++ k) = curWaits l := by
  have buses : k.filterMap Notice.curBus = [] := List.filterMap_eq_nil_iff.mpr fun n hn => (h n hn).1
  have turning : k.any Notice.curMode = false := List.any_eq_false.mpr fun n hn => by simp [(h n hn).2]
  simp [curWaits, buses, turning]

theorem curWaits_insertAt (h : n.offCur) : ∀ (i : Nat) (l : List Notice), curWaits (insertAt i n l) = curWaits l
  | 0, l => by cases l <;> exact curWaits_cons h
  | _ + 1, [] => curWaits_cons h
  | i + 1, m :: l => by
    have tail := curWaits_insertAt h i l
    simp only [curWaits, CurWaits.mk.injEq] at tail
    obtain ⟨buses, turning⟩ := tail
    simp [insertAt, curWaits, List.filterMap_cons, buses, turning]

end Waits

/-! ### What the laws see of the part -/

/-- What the laws see of the part: what bears on every channel, the settings, points and records of the channels
without their generators, and what CUR has still to take. -/
structure LimitView where
  bearing : Bearing
  settings : Fin 6 → PvSettings
  values : Fin 6 → Int
  channels : Fin 6 → ChannelCtl
  waits : CurWaits

/-- What the laws see of a state of the model. -/
def limitView (s : State) : LimitView where
  bearing := bearing s
  settings j := s.settings.channels[j]
  values j := s.meas.channels[j].value
  channels j := { s.cur.channels[j] with pwm := {} }
  waits := curWaits s.notices

/-- The law of R150, on what it sees. -/
def Fits (v : LimitView) : Prop := ∀ j, ChannelFits v.bearing (v.settings j) { value := v.values j } (v.channels j)

/-- The law of the zero hold and of MONITOR, on what it sees, `w` being what CUR has still to take: the changes of the
bus state lead to the one that stands, and the channels rest once no change of mode waits. -/
structure Rests (w : CurWaits) (v : LimitView) : Prop where
  hold : w.buses = [] → v.bearing.bus = .dead → v.bearing.zeroHold = true
  last : ∀ b ∈ w.buses.getLast?, b = v.bearing.bus
  rests : w.turning = false → ∀ j, ChannelRests (w.buses = []) v.bearing (v.settings j) (v.channels j)

theorem limitLaw_iff_fits (s : State) : LimitLaw s ↔ Fits (limitView s) := by
  refine forall_congr' fun j => ⟨?_, ?_⟩
  · rintro ⟨⟨host, fallback, point, reference, droop, share, limit⟩, le⟩
    exact ⟨⟨host, fallback, point, reference, droop, share, limit⟩, le.trans (min_le_left _ _)⟩
  · rintro ⟨⟨host, fallback, point, reference, droop, share, limit⟩, le⟩
    have ok : ChannelOk s.settings.channels[j] s.meas.channels[j] s.cur.channels[j] :=
      ⟨host, fallback, point, reference, droop, share, limit⟩
    exact ⟨ok, le_min le (le.trans (ceilingOf_le_rated ok _))⟩

theorem deadLimitLaw_iff_rests (s : State) : DeadLimitLaw s ↔ s.notices = [] ∧ Rests ⟨[], false⟩ (limitView s) := by
  constructor
  · rintro ⟨settled, hold, dead, held, monitor, remainder⟩
    refine ⟨settled, fun _ => hold, nofun, fun _ j => ⟨fun m z => held m z j, fun m => remainder m j, fun _ m => ?_⟩⟩
    split
    next h => exact dead h j
    next h => exact monitor m h j
  · rintro ⟨settled, hold, -, rests⟩
    refine ⟨settled, hold rfl, fun d j => ?_, fun m z j => (rests rfl j).held m z,
      fun m d j => ((rests rfl j).monitor rfl m).trans (if_neg d), fun m j => (rests rfl j).remainder m⟩
    cases m : s.lnk.mode with
    | auto => exact (rests rfl j).held m (hold rfl d)
    | monitor => exact ((rests rfl j).monitor rfl m).trans (if_pos d)

/-- The parts of which the laws see nothing. -/
def offCur : List Part := [.phase, .time, .inputs, .feeders, .shd, .rst, .gen, .blk, .evr, .sto, .draws, .pending]

section Views

variable {s t : State} {ps : List Part}

/-- Where the notices too leave the laws nothing to see. -/
theorem SameBut.limitView_of_waits (k : SameBut ps s t) (hp : ps.all (· ∈ Part.notices :: offCur) = true)
    (hw : curWaits t.notices = curWaits s.notices) : limitView t = limitView s := by
  have h : SameBut (Part.notices :: offCur) s t := k.widen _ hp
  simp only [limitView, bearing, h.settings (by decide), h.meas (by decide), h.cur (by decide), h.lnk (by decide),
    h.fmon (by decide), hw]

theorem SameBut.limitView (k : SameBut ps s t) (hp : ps.all (· ∈ offCur) = true) : limitView t = limitView s := by
  have h : SameBut offCur s t := k.widen _ hp
  exact h.limitView_of_waits (by decide) (by rw [h.notices (by decide)])

@[simp] theorem limitView_ite {c : Prop} [Decidable c] (a b : State) :
    limitView (if c then a else b) = if c then limitView a else limitView b := apply_ite _ _ _ _

theorem limitView_foldl {α : Type} {act : State → α → State} (h : ∀ s x, limitView (act s x) = limitView s)
    (l : List α) (s : State) : limitView (l.foldl act s) = limitView s := by
  induction l generalizing s with
  | nil => rfl
  | cons x l ih => rw [List.foldl_cons, ih, h]

theorem limitView_emit {d : List Consumer} {mk : Consumer → Notice} (h : ∀ c, (mk c).offCur) (s : State) :
    limitView (emit d mk s) = limitView s := by
  have waits : curWaits (emit d mk s).notices = curWaits s.notices := by
    rw [emit_notices]
    exact curWaits_append fun n hn => by
      obtain ⟨c, -, rfl⟩ := List.mem_map.mp hn
      exact h c
  exact (emit_frame d mk s).limitView_of_waits (by decide) waits

end Views
end Sys2Proof.Machine

/-! ## The laws of the output limits: operations that they do not see -/

namespace Sys2Proof.Machine

section Unseen

variable {s t : State}

/-! ### Records, flags and notices -/

@[simp] theorem limitView_modShd (m : Shd → Shd) (s : State) : limitView (modShd m s) = limitView s := rfl
@[simp] theorem limitView_modRst (m : Rst → Rst) (s : State) : limitView (modRst m s) = limitView s := rfl
@[simp] theorem limitView_modGen (m : Gen → Gen) (s : State) : limitView (modGen m s) = limitView s := rfl
@[simp] theorem limitView_modSet (g : Fin 4) (m : SetCtl → SetCtl) (s : State) :
    limitView (modSet g m s) = limitView s := rfl
@[simp] theorem limitView_modRun (m : RunRecord → RunRecord) (s : State) : limitView (modRun m s) = limitView s := rfl
@[simp] theorem limitView_modFeeder (f : Fin 16) (m : FeederCtl → FeederCtl) (s : State) :
    limitView (modFeeder f m s) = limitView s := rfl
@[simp] theorem limitView_modEntry (i : Nat) (m : Entry → Entry) (s : State) :
    limitView (modEntry i m s) = limitView s := rfl
@[simp] theorem limitView_modInput (i : Fin 32) (m : InputCtl → InputCtl) (s : State) :
    limitView (modInput i m s) = limitView s := rfl
@[simp] theorem limitView_setProt (k : ProtFlag) (s : State) : limitView (setProt k s) = limitView s := rfl
@[simp] theorem limitView_setAdv (k : AdvFlag) (s : State) : limitView (setAdv k s) = limitView s := rfl
@[simp] theorem limitView_drawn (s : State) : limitView (drawn s) = limitView s := rfl
@[simp] theorem limitView_evalDispatch (s : State) : limitView (evalDispatch s) = limitView s := rfl

@[simp] theorem limitView_journal (k : JournalKind) (o : Nat) (v : Int) (s : State) :
    limitView (journal k o v s) = limitView s := (journal_frame k o v s).limitView rfl

@[simp] theorem limitView_genRecord (k : JournalKind) (g : Fin 4) (v : Int) (s : State) :
    limitView (genRecord k g v s) = limitView s := (genRecord_frame k g v s).limitView rfl

theorem limitView_emitAmong {n : Notice} (h : n.offCur) (s : State) : limitView (emitAmong n s) = limitView s :=
  (emitAmong_frame n s).limitView_of_waits (by decide) (curWaits_insertAt h _ _)

theorem limitView_emitFirst {n : Notice} (h : n.offCur) (s : State) : limitView (emitFirst n s) = limitView s :=
  (emitFirst_frame n s).limitView_of_waits (by decide) (curWaits_cons h)

@[simp] theorem limitView_emitStack (s : State) : limitView (emitStack s) = limitView s :=
  (limitView_emitFirst ⟨rfl, rfl⟩ _).trans (limitView_emitAmong ⟨rfl, rfl⟩ _)

@[simp] theorem limitView_emitDiscard (s : State) : limitView (emitDiscard s) = limitView s :=
  (limitView_emitAmong ⟨rfl, rfl⟩ _).trans (limitView_emitAmong ⟨rfl, rfl⟩ _)

@[simp] theorem limitView_queueStep (s : State) : limitView (queueStep s) = limitView s :=
  (queueStep_frame s).limitView_of_waits (by decide)
    (curWaits_append fun n hn => by rw [List.mem_singleton.mp hn]; exact ⟨rfl, rfl⟩)

@[simp] theorem limitView_emitUpdate (n : PointNames) (s : State) : limitView (emitUpdate n s) = limitView s :=
  limitView_emit (fun _ => ⟨rfl, rfl⟩) s

/-! ### The generating sets (chapter 7) -/

@[simp] theorem limitView_enterSet (force : Bool) (c : SetCause) (g : Fin 4) (new : SetState) (m : Timer) (s : State) :
    limitView (enterSet force c g new m s) = limitView s := by
  have quiet {t : State} (k : SameBut [.gen] s t) : limitView t = limitView s := k.limitView rfl
  unfold enterSet
  dsimp only
  split
  · exact quiet (by simp)
  · exact (limitView_emit (fun _ => ⟨rfl, rfl⟩) _).trans (quiet (by simp))

@[simp] theorem limitView_leaveCrank (g : Fin 4) (s : State) : limitView (leaveCrank g s) = limitView s := rfl

@[simp] theorem limitView_servePermit (s : State) : limitView (servePermit s) = limitView s := by
  unfold servePermit
  split <;> simp

@[simp] theorem limitView_enterSyncing (c : SetCause) (g : Fin 4) (s : State) :
    limitView (enterSyncing c g s) = limitView s := by simp [enterSyncing]
@[simp] theorem limitView_enterRunUp (c : SetCause) (g : Fin 4) (s : State) :
    limitView (enterRunUp c g s) = limitView s := by simp [enterRunUp]
@[simp] theorem limitView_enterOnline (c : SetCause) (g : Fin 4) (s : State) :
    limitView (enterOnline c g s) = limitView s := by simp [enterOnline]
@[simp] theorem limitView_endCooldown (c : SetCause) (g : Fin 4) (v : Int) (s : State) :
    limitView (endCooldown c g v s) = limitView s := by simp [endCooldown]
@[simp] theorem limitView_enterCooldown (g : Fin 4) (s : State) : limitView (enterCooldown g s) = limitView s := by
  simp [enterCooldown]
@[simp] theorem limitView_lockOut (g : Fin 4) (cause : Nat) (s : State) :
    limitView (lockOut g cause s) = limitView s := by
  simp [lockOut]
@[simp] theorem limitView_abortStart (force : Bool) (c : SetCause) (g : Fin 4) (rest : SetState) (v : Int) (s : State) :
    limitView (abortStart force c g rest v s) = limitView s := by simp [abortStart]
@[simp] theorem limitView_closedExternally (g : Fin 4) (s : State) :
    limitView (closedExternally g s) = limitView s := by
  simp [closedExternally]

@[simp] theorem limitView_startSet (g : Fin 4) (o : SetOrigin) (s : State) :
    limitView (startSet g o s).1 = limitView s := by
  unfold startSet
  split
  · dsimp only
    split <;> simp
  · rfl

@[simp] theorem limitView_stopSet (force : Bool) (g : Fin 4) (o : SetOrigin) (s : State) :
    limitView (stopSet force g o s) = limitView s := by simp [stopSet]

@[simp] theorem limitView_resetLockout (g : Fin 4) (s : State) : limitView (resetLockout g s) = limitView s := by
  simp [resetLockout]

@[simp] theorem limitView_serveDemand (source : Nat) (s : State) : limitView (serveDemand source s) = limitView s := by
  unfold serveDemand
  repeat' split
  all_goals simp

@[simp] theorem limitView_genOnBus (n : BusNotice) (s : State) : limitView (genOnBus n s) = limitView s := by
  simp [genOnBus]

@[simp] theorem limitView_genOnSequencer (s : State) : limitView (genOnSequencer s) = limitView s :=
  (genOnSequencer_frame s).limitView rfl

theorem limitView_genOnMode (m : Mode) (s : State) : limitView (genOnMode m s) = limitView s := by
  cases m with
  | auto => rfl
  | monitor =>
    have stopped (s : State) (g : Fin 4) :
        limitView (if autoStarting s g then stopSet true g .auto s else s) = limitView s := by simp
    exact (limitView_evalDispatch _).trans (limitView_foldl stopped _ s)

/-! ### The inputs and timers of a set -/

theorem limitView_readyChange (g : Fin 4) (level : Bool) (s : State) :
    limitView (readyChange g level s) = limitView s := by
  unfold readyChange
  split <;> simp

theorem limitView_runningChange (g : Fin 4) (level : Bool) (s : State) :
    limitView (runningChange g level s) = limitView s := by
  unfold runningChange
  split <;> simp

theorem limitView_breakerChange (g : Fin 4) (level : Bool) (s : State) :
    limitView (breakerChange g level s) = limitView s := by
  unfold breakerChange
  split <;> simp

theorem limitView_crankOnTimeExpires (g : Fin 4) (s : State) : limitView (crankOnTimeExpires g s) = limitView s := by
  simp [crankOnTimeExpires]
theorem limitView_crankRestExpires (g : Fin 4) (s : State) : limitView (crankRestExpires g s) = limitView s := by
  simp [crankRestExpires]
theorem limitView_runUpExpires (g : Fin 4) (s : State) : limitView (runUpExpires g s) = limitView s := by
  simp [runUpExpires]
theorem limitView_syncTimesOut (g : Fin 4) (s : State) : limitView (syncTimesOut g s) = limitView s := by
  simp [syncTimesOut]
theorem limitView_unloadTimesOut (g : Fin 4) (s : State) : limitView (unloadTimesOut g s) = limitView s := by
  simp [unloadTimesOut]
theorem limitView_cooldownExpires (g : Fin 4) (s : State) : limitView (cooldownExpires g s) = limitView s := by
  simp [cooldownExpires]

theorem limitView_lowReserveExpires (s : State) : limitView (lowReserveExpires s) = limitView s := by
  simp [lowReserveExpires]

theorem limitView_stopTimerExpires (s : State) : limitView (stopTimerExpires s) = limitView s := by
  unfold stopTimerExpires
  dsimp only
  repeat' split
  all_goals simp

theorem limitView_setServiceChange (g : Fin 4) (s : State) : limitView (setServiceChange g s) = limitView s := by
  unfold setServiceChange
  split <;> simp

/-! ### Feeders (chapter 4) -/

@[simp] theorem limitView_unlist (f : Fin 16) (s : State) : limitView (unlist f s) = limitView s := by
  unfold unlist removeEntry
  repeat' split
  · rfl
  · rfl
  · dsimp only
    split <;> simp

@[simp] theorem limitView_changeFeeder (f : Fin 16) (new : FeederState) (c : FeederCause) (s : State) :
    limitView (changeFeeder f new c s) = limitView s := by
  unfold changeFeeder leaveStack
  dsimp only
  split
  · rfl
  · rw [limitView_emit fun _ => ⟨rfl, rfl⟩]
    split <;> simp

@[simp] theorem limitView_lineCommand (f : Fin 16) (b : Bool) (s : State) :
    limitView (lineCommand f b s) = limitView s := (lineCommand_frame f b s).limitView rfl
@[simp] theorem limitView_lineAlign (f : Fin 16) (b : Bool) (s : State) :
    limitView (lineAlign f b s) = limitView s := (lineAlign_frame f b s).limitView rfl

@[simp] theorem limitView_operate (f : Fin 16) (closing : Bool) (o : OpOrigin) (s : State) :
    limitView (operate f closing o s).1 = limitView s := by
  have begun (b : Bool) : limitView (beginOperation f b o s) = limitView s := by simp [beginOperation]
  have accepted (b : Bool) : limitView (acceptPosition f b s) = limitView s := by simp [acceptPosition]
  unfold operate
  cases s.feeders[f].state with
  | failed dir => cases dir <;> cases closing <;> simp [begun, accepted]
  | _ => cases closing <;> simp [begun]

theorem limitView_of_operate {f : Fin 16} {closing : Bool} {o : OpOrigin} {r : OpOutcome}
    (e : operate f closing o s = (t, r)) : limitView t = limitView s := by
  have k := limitView_operate f closing o s
  rwa [e] at k

theorem limitView_operateTimerExpires (f : Fin 16) (s : State) :
    limitView (operateTimerExpires f s) = limitView s := by
  unfold operateTimerExpires
  dsimp only
  split <;> simp

theorem limitView_feederStatusChange (f : Fin 16) (level : Bool) (s : State) :
    limitView (feederStatusChange f level s) = limitView s := by
  unfold feederStatusChange
  dsimp only
  split <;> simp

theorem limitView_feederServiceChange (f : Fin 16) (s : State) : limitView (feederServiceChange f s) = limitView s := by
  simp [feederServiceChange]

/-! ### The restorer (chapter 6) -/

@[simp] theorem limitView_endEpisode (s : State) : limitView (endEpisode s) = limitView s := rfl
@[simp] theorem limitView_restartDelay (s : State) : limitView (restartDelay s) = limitView s := rfl
@[simp] theorem limitView_testDelay (s : State) : limitView (testDelay s) = limitView s := rfl
@[simp] theorem limitView_tagGiven (s : State) : limitView (tagGiven s) = limitView s := rfl
@[simp] theorem limitView_writeHeader (h : HeaderRun) (s : State) : limitView (writeHeader h s) = limitView s := rfl
@[simp] theorem limitView_keepEpisode (s : State) : limitView (keepEpisode s) = limitView s :=
  (keepEpisode_frame s).limitView rfl
@[simp] theorem limitView_beginEpisode (i : Nat) (f : Fin 16) (s : State) :
    limitView (beginEpisode i f s) = limitView s := (beginEpisode_frame i f s).limitView rfl

@[simp] theorem limitView_restoreClose (i : Nat) (x : StackItem) (s : State) :
    limitView (restoreClose i x s) = limitView s := by
  unfold restoreClose
  split
  next e =>
    rw [limitView_endEpisode, limitView_modRst, limitView_of_operate e, limitView_journal, limitView_modEntry]
  next => rfl

@[simp] theorem limitView_examine : ∀ (n : Nat) (s : State), limitView (examine n s) = limitView s
  | 0, s => limitView_keepEpisode s
  | n + 1, s => by
    unfold examine
    dsimp only
    repeat' split
    · simp
    · simp
    · simp
    · rw [limitView_examine n]
      simp [skipItem]
    · simp
    · simp

@[simp] theorem limitView_restorerTurn (s : State) : limitView (restorerTurn s) = limitView s := limitView_examine _ s

theorem limitView_restoreDelayExpires (s : State) : limitView (restoreDelayExpires s) = limitView s := by
  simp [restoreDelayExpires]

theorem limitView_intervalExpires (s : State) : limitView (intervalExpires s) = limitView s := by
  simp [intervalExpires]

theorem limitView_startDelayExpires (s : State) : limitView (startDelayExpires s) = limitView s := by
  unfold startDelayExpires
  dsimp only
  repeat' split
  all_goals simp

theorem limitView_rstOnBus (n : BusNotice) (s : State) : limitView (rstOnBus n s) = limitView s := by
  simp [rstOnBus, discardAtDead]

theorem limitView_rstOnFeeder (f : Fin 16) (turn : Bool) (s : State) :
    limitView (rstOnFeeder f turn s) = limitView s := by
  simp [rstOnFeeder]

theorem limitView_rstOnMode (s : State) : limitView (rstOnMode s) = limitView s := by simp [rstOnMode]

@[simp] theorem limitView_push (kind : EntryKind) (v : Int) (f : Nat) (l : List StackItem) (s : State) :
    limitView (push kind v f l s) = limitView s := by
  simp [push, pushEntry, mergeTop]

@[simp] theorem limitView_appendItems (f : Fin 16) (l : List StackItem) (s : State) :
    limitView (appendItems f l s) = limitView s := (appendItems_frame f l s).limitView rfl

@[simp] theorem limitView_pushHeader (s : State) : limitView (pushHeader s) = limitView s := by simp [pushHeader]

@[simp] theorem limitView_removeHeader (s : State) : limitView (removeHeader s) = limitView s := by
  simp [removeHeader]

/-! ### Shedding (chapter 5) -/

@[simp] theorem limitView_tripFeeders (o : OpOrigin) : ∀ (fs : List (Fin 16)) (s : State),
    limitView (tripFeeders o fs s).1 = limitView s
  | [], _ => rfl
  | f :: fs, s => by
    unfold tripFeeders
    dsimp only
    split
    all_goals
      rename_i e
      exact (limitView_tripFeeders o fs _).trans (limitView_of_operate e)

@[simp] theorem limitView_joinCredit (l : List StackItem) (s : State) : limitView (joinCredit l s) = limitView s := rfl
@[simp] theorem limitView_joinTargets (l : List StackItem) (s : State) :
    limitView (joinTargets l s) = limitView s := rfl
@[simp] theorem limitView_flagShort (b : Bool) (s : State) : limitView (flagShort b s) = limitView s := by
  simp [flagShort]

@[simp] theorem limitView_stageFunction (f : Nat) (s : State) : limitView (stageFunction f s) = limitView s := by
  have fired (s : State) (i : Fin 4) : limitView (fireStage f i s) = limitView s := by
    unfold fireStage
    dsimp only
    split <;> simp
  exact (limitView_foldl fired _ _).trans rfl

@[simp] theorem limitView_rocofFunction (v : PresentValue) (s : State) :
    limitView (rocofFunction v s) = limitView s := by
  have shed (r t : Int) (s : State) : limitView (rocofShed v r t s) = limitView s := by simp [rocofShed]
  have acts (r dP : Int) (s : State) : limitView (rocofAct v r dP s) = limitView s := by
    unfold rocofAct holdoffStarts
    dsimp only
    repeat' split
    all_goals simp [shed]
  unfold rocofFunction
  dsimp only
  repeat' split
  all_goals simp [acts]

@[simp] theorem limitView_shdValue (v : PresentValue) (s : State) : limitView (shdValue v s) = limitView s := by
  unfold shdValue
  dsimp only
  split <;> simp

theorem limitView_shdOnBus (n : BusNotice) (s : State) : limitView (shdOnBus n s) = limitView s := by
  unfold shdOnBus
  dsimp only
  cases n.value <;> simp [shdBreak, shdDead]

theorem limitView_supplement (f : Fin 16) (a : Int) (s : State) : limitView (supplement f a s) = limitView s := by
  simp [supplement]

theorem limitView_shdOnFeeder (f : Fin 16) (after : FeederState) (cause : FeederCause) (s : State) :
    limitView (shdOnFeeder f after cause s) = limitView s := by
  unfold shdOnFeeder
  dsimp only
  repeat' split
  all_goals simp [limitView_supplement]

theorem limitView_manualShed (l : Link) (fs : List (Fin 16)) (s : State) :
    limitView (manualShed l fs s).1 = limitView s := by
  simp [manualShed]

/-! ### The sequencer's own records (chapter 9) -/

@[simp] theorem limitView_withdrawGrant (s : State) : limitView (withdrawGrant s) = limitView s := rfl
@[simp] theorem limitView_giveGrant (g : Fin 4) (s : State) : limitView (giveGrant g s) = limitView s := rfl
@[simp] theorem limitView_latchLead (g p : Fin 4) (s : State) : limitView (latchLead g p s) = limitView s := rfl

@[simp] theorem limitView_clearBus (s : State) : limitView (clearBus s) = limitView s :=
  limitView_foldl (fun s f => limitView_operate f false .blackstart s) _ s

@[simp] theorem limitView_nextStep (s : State) : limitView (nextStep s) = limitView s := by simp [nextStep]

@[simp] theorem limitView_stepDone (st : PlanStep) (s : State) : limitView (stepDone st s) = limitView s := by
  simp [stepDone]

theorem limitView_stableOnBus (st : PlanStep) (n : BusNotice) (s : State) :
    limitView (stableOnBus st n s) = limitView s := by
  unfold stableOnBus
  split <;> simp

theorem limitView_clearingOnFeeder (f : Fin 16) (s : State) : limitView (clearingOnFeeder f s) = limitView s := by
  simp [clearingOnFeeder]

theorem limitView_of_startByPlan {g : Fin 4} {b : Bool} (e : startByPlan g s = (t, b)) : limitView t = limitView s := by
  have k := limitView_startSet g .blackstart s
  unfold startByPlan at e
  dsimp only at e
  split at e
  · cases e
    exact k
  · rwa [e] at k

/-! ### The measurements and the links (chapters 3 and 10) -/

/-- Of LNK the mode alone is seen. -/
theorem limitView_of_mode {ps : List Part} (k : SameBut ps s t) (hp : ps.all (· ∈ Part.lnk :: offCur) = true)
    (hm : t.lnk.mode = s.lnk.mode) : limitView t = limitView s := by
  have h : SameBut (Part.lnk :: offCur) s t := k.widen _ hp
  simp only [limitView, bearing, hm, h.settings (by decide), h.meas (by decide), h.cur (by decide), h.fmon (by decide),
    h.notices (by decide)]

@[simp] theorem limitView_modLink (l : Link) (m : LinkCtl → LinkCtl) (s : State) :
    limitView (modLink l m s) = limitView s :=
  limitView_of_mode (modLink_frame l m s) rfl (by unfold modLink; split <;> rfl)

@[simp] theorem limitView_setLinkError (e : LinkError) (l : Link) (s : State) :
    limitView (setLinkError e l s) = limitView s := by
  simp [setLinkError]

theorem limitView_discardFrame (e : LinkError) (l : Link) (s : State) :
    limitView (discardFrame e l s) = limitView s := by
  simp [discardFrame]

theorem limitView_replyDone (l : Link) (s : State) : limitView (replyDone l s) = limitView s := by
  have flagged (t : State) : limitView (modLnk (fun n => { n with reset := .draining }) t) = limitView t := rfl
  unfold replyDone takeLines
  dsimp only
  split
  · rw [limitView_ite, flagged, ite_self]
    split <;> simp
  · rfl

theorem limitView_storeEnds (readBack : List Byte) (s : State) : limitView (storeEnds readBack s) = limitView s := by
  unfold storeEnds
  split
  · rfl
  · dsimp only
    rw [limitView_modLink, limitView_journal]
    rfl

theorem limitView_takeByte (l : Link) (s : State) : limitView (takeByte l s) = limitView s := by
  have queued (t : State) (p : List Instr) : limitView { t with pending := p } = limitView t := rfl
  unfold takeByte receiveNext
  dsimp only
  repeat' split
  · exact limitView_modLink _ _ _
  · rfl
  · exact (queued _ _).trans (limitView_modLink _ _ _)
  · exact limitView_modLink _ _ _

theorem limitView_locationChange (level : Bool) (s : State) : limitView (locationChange level s) = limitView s :=
  limitView_of_mode (locationChange_frame level s) rfl (by simp [locationChange])

/-- Ages and stale flags are not seen (R45, R46). -/
theorem limitView_of_points {m : MeasTable} (h : ∀ j : Fin 6, m.channels[j].value = s.meas.channels[j].value) :
    limitView { s with meas := m } = limitView s := by
  simp only [limitView, h]
  rfl

theorem limitView_agePoints (s : State) : limitView (agePoints s) = limitView s :=
  limitView_of_points fun j => by simp [agePoint]

theorem limitView_pointsGoStale (s : State) : limitView (pointsGoStale s) = limitView s := by
  unfold pointsGoStale
  dsimp only
  split
  · rfl
  · rw [limitView_emit fun _ => ⟨rfl, rfl⟩, limitView_setAdv]
    refine limitView_of_points fun j => ?_
    simp only [Fin.getElem_fin, Vector.getElem_map, stalePoint]
    split <;> rfl

theorem limitView_staleTick (s : State) : limitView (staleTick s) = limitView s := by
  unfold staleTick
  split
  · rfl
  · exact (limitView_pointsGoStale _).trans (limitView_agePoints s)

@[simp] theorem limitView_reclampSet (g : Fin 4) (s : State) : limitView (reclampSet g s) = limitView s := by
  have clamped (v : Vector Point 4) : limitView { s with meas := { s.meas with sets := v } } = limitView s := rfl
  unfold reclampSet
  dsimp only
  repeat' split
  · exact clamped _
  · exact (limitView_emitUpdate _ _).trans (clamped _)
  · rfl

/-! ### The generators (R154) -/

/-- Of a channel its generator is not seen. -/
theorem limitView_pwm {j : Fin 6} {h : ChannelCtl → Pwm} (s : State) :
    limitView (modChannel j (fun c => { c with pwm := h c }) s) = limitView s := by
  have channels : (limitView (modChannel j (fun c => { c with pwm := h c }) s)).channels = (limitView s).channels := by
    funext k
    by_cases e : k = j
    · subst e
      simp [limitView]
    · simp only [limitView]
      rw [modChannel_other _ _ e]
  simp only [limitView] at channels ⊢
  rw [channels]
  rfl

theorem limitView_pwmStart (j : Fin 6) (s : State) : limitView (pwmStart j s) = limitView s := limitView_pwm s

theorem limitView_pwmActiveEnds (j : Fin 6) (s : State) : limitView (pwmActiveEnds j s) = limitView s := by
  unfold pwmActiveEnds
  split
  · exact limitView_pwm s
  · rfl

end Unseen
end Sys2Proof.Machine

/-! ## The laws of the output limits: what the curtailment unit keeps -/

namespace Sys2Proof.Machine

/-! ### What an operation keeps -/

/-- What holds of the limits at `s` holds of them at `t`, and CUR has as much still to take. -/
structure Keeps (s t : State) : Prop where
  fits : Fits (limitView s) → Fits (limitView t)
  rests : ∀ w, Fits (limitView s) → Rests w (limitView s) → Rests w (limitView t)
  waits : curWaits t.notices = curWaits s.notices

/-- The constraints of every channel are in order. -/
def ChannelsOk (s : State) : Prop :=
  ∀ j : Fin 6, ChannelOk s.settings.channels[j] s.meas.channels[j] s.cur.channels[j]

/-- Between `s` and `t` constraints may have changed, and be in order still; limits, remainders, mode and bus stand, and
no target has been recomputed yet. -/
structure Prepared (s t : State) : Prop where
  ok : ChannelsOk s → ChannelsOk t
  limit : ∀ j : Fin 6, t.cur.channels[j].limit = s.cur.channels[j].limit
  remainder : ∀ j : Fin 6, t.cur.channels[j].remainder = s.cur.channels[j].remainder
  mode : t.lnk.mode = s.lnk.mode
  bus : t.fmon.bus = s.fmon.bus
  waits : curWaits t.notices = curWaits s.notices

section Keeps

variable {s t u : State}

theorem Keeps.of_view (k : limitView t = limitView s) : Keeps s t :=
  ⟨fun h => k ▸ h, fun _ _ h => k ▸ h, congrArg LimitView.waits k⟩

theorem Keeps.refl (s : State) : Keeps s s := .of_view rfl

theorem Keeps.trans (h : Keeps s t) (k : Keeps t u) : Keeps s u :=
  ⟨fun hs => k.fits (h.fits hs), fun w hs hr => k.rests w (h.fits hs) (h.rests w hs hr), k.waits.trans h.waits⟩

/-- What the laws do not see adds nothing. -/
theorem Keeps.after (h : Keeps s t) (k : limitView u = limitView t) : Keeps s u := h.trans (.of_view k)

theorem Keeps.ite {c : Prop} [Decidable c] (ht : Keeps s t) (hu : Keeps s u) : Keeps s (if c then t else u) := by
  split
  · exact ht
  · exact hu

theorem Keeps.foldl {α : Type} {act : State → α → State} (k : ∀ t x, Keeps t (act t x)) :
    ∀ (l : List α) {t : State}, Keeps s t → Keeps s (l.foldl act t)
  | [], _, h => h
  | x :: l, _, h => Keeps.foldl k l (h.trans (k _ x))

/-! ### The laws on the records of the model -/

theorem fits_iff (s : State) :
    Fits (limitView s) ↔
      ∀ j : Fin 6, ChannelFits (bearing s) s.settings.channels[j] s.meas.channels[j] s.cur.channels[j] :=
  forall_congr' fun _ =>
    ⟨fun ⟨⟨host, fallback, point, reference, droop, share, limit⟩, le⟩ =>
      ⟨⟨host, fallback, point, reference, droop, share, limit⟩, le⟩,
    fun ⟨⟨host, fallback, point, reference, droop, share, limit⟩, le⟩ =>
      ⟨⟨host, fallback, point, reference, droop, share, limit⟩, le⟩⟩

theorem Fits.ok (h : Fits (limitView s)) : ChannelsOk s := fun j => ((fits_iff s).mp h j).1

/-- A channel rests whatever its generator does. -/
theorem rests_of_channels {w : CurWaits} (hold : w.buses = [] → s.fmon.bus = .dead → s.cur.zeroHold = true)
    (last : ∀ b ∈ w.buses.getLast?, b = s.fmon.bus)
    (rests : w.turning = false →
      ∀ j : Fin 6, ChannelRests (w.buses = []) (bearing s) s.settings.channels[j] s.cur.channels[j]) :
    Rests w (limitView s) :=
  ⟨hold, last, fun ht j => ⟨(rests ht j).held, (rests ht j).remainder, (rests ht j).monitor⟩⟩

theorem Rests.channel {w : CurWaits} (h : Rests w (limitView s)) (ht : w.turning = false) (j : Fin 6) :
    ChannelRests (w.buses = []) (bearing s) s.settings.channels[j] s.cur.channels[j] :=
  ⟨(h.rests ht j).held, (h.rests ht j).remainder, (h.rests ht j).monitor⟩

/-! ### Changed constraints, and the targets that follow them (R142, R149, R150) -/

theorem Prepared.refl (s : State) : Prepared s s := ⟨id, fun _ => rfl, fun _ => rfl, rfl, rfl, rfl⟩

theorem Prepared.trans (h : Prepared s t) (k : Prepared t u) : Prepared s u :=
  ⟨fun hs => k.ok (h.ok hs), fun j => (k.limit j).trans (h.limit j), fun j => (k.remainder j).trans (h.remainder j),
    k.mode.trans h.mode, k.bus.trans h.bus, k.waits.trans h.waits⟩

theorem Prepared.ite {c : Prop} [Decidable c] (ht : Prepared s t) (hu : Prepared s u) :
    Prepared s (if c then t else u) := by
  split
  · exact ht
  · exact hu

/-- A record of EVR or an update of CUR outside the channels prepares nothing. -/
theorem Prepared.of_channels (hs : t.settings = s.settings) (hm : t.meas = s.meas)
    (hc : t.cur.channels = s.cur.channels) (hl : t.lnk = s.lnk) (hf : t.fmon = s.fmon) (hn : t.notices = s.notices) :
    Prepared s t := by
  refine ⟨fun h j => ?_, fun j => by rw [hc], fun j => by rw [hc], by rw [hl], by rw [hf], by rw [hn]⟩
  rw [hs, hm, hc]
  exact h j

/-- CUR outside its channels has no bearing on what is prepared. -/
theorem Prepared.of_cur (h : Cur → Cur) (e : ∀ c, (h c).channels = c.channels) (s : State) : Prepared s (modCur h s) :=
  .of_channels rfl rfl (e s.cur) rfl rfl rfl

/-- Records of the channels that are written with their constraints in order. -/
theorem Prepared.of_map {h : Fin 6 → ChannelCtl → ChannelCtl}
    (ok : ∀ j, ChannelOk s.settings.channels[j] s.meas.channels[j] s.cur.channels[j] →
      ChannelOk s.settings.channels[j] s.meas.channels[j] (h j s.cur.channels[j]))
    (limit : ∀ j c, (h j c).limit = c.limit) (remainder : ∀ j c, (h j c).remainder = c.remainder) :
    Prepared s (mapChannels h s) := by
  refine ⟨fun hs j => ?_, fun j => ?_, fun j => ?_, rfl, rfl, rfl⟩
  · rw [mapChannels_channel]
    exact ok j (hs j)
  · rw [mapChannels_channel, limit]
  · rw [mapChannels_channel, remainder]

/-- A channel whose constraints stand has the ceiling that it had (R142). -/
theorem ceiling_of_constraints {j : Fin 6} (h : constraintsOf t j = constraintsOf s j) :
    ceilingOf t.cur.seqActive t.settings.channels[j] t.cur.channels[j]
      = ceilingOf s.cur.seqActive s.settings.channels[j] s.cur.channels[j] := effectiveCeiling_of_constraints h

section Taken

variable {P : Fin 6 → Prop} [DecidablePred P]

/-- The channels outside `P` have taken their targets. -/
def takenBut (P : Fin 6 → Prop) [DecidablePred P] (t : State) : State :=
  mapChannels (fun j c => if P j then c else takenOf (bearing t) t.settings.channels[j] c) t

/-- Recomputed targets keep the law of R150, where the constraints of the others have not changed. -/
theorem Prepared.taken_fits (h : Prepared s t) (hP : ∀ j, P j → constraintsOf t j = constraintsOf s j)
    (k : Fits (limitView s)) : Fits (limitView (takenBut P t)) := by
  rw [fits_iff] at k ⊢
  intro j
  have ok := h.ok (fun j => (k j).1) j
  simp only [takenBut, mapChannels_channel, bearing_mapChannels, mapChannels_settings, mapChannels_meas]
  split
  next p =>
    refine ⟨ok, ?_⟩
    obtain ⟨-, le⟩ := k j
    rw [h.limit j]
    exact le.trans_eq (ceiling_of_constraints (hP j p)).symm
  next => exact takenOf_fits ok _

/-- Recomputed targets keep the second law too, under a zero hold that stands. -/
theorem Prepared.taken (h : Prepared s t) (hz : t.cur.zeroHold = s.cur.zeroHold)
    (hP : ∀ j, P j → constraintsOf t j = constraintsOf s j) : Keeps s (takenBut P t) := by
  refine ⟨h.taken_fits hP, fun w k r => ?_, h.waits⟩
  have bus : (limitView t).bearing.bus = (limitView s).bearing.bus := h.bus
  refine rests_of_channels (fun hw hd => hz.trans (r.hold hw (bus ▸ hd))) (fun b hb => (r.last b hb).trans bus.symm)
    fun ht j => ?_
  simp only [takenBut, mapChannels_channel, bearing_mapChannels, mapChannels_settings]
  split
  next p =>
    exact (r.channel ht j).congr h.mode hz h.bus (h.limit j) (h.remainder j) (ceiling_of_constraints (hP j p))
  next => exact takenOf_rests (h.ok k.ok j) _ _

end Taken

theorem retarget_takenBut (old s : State) :
    retarget old s = takenBut (fun j => constraintsOf s j = constraintsOf old j) s := retarget_eq old s

theorem applyTargets_takenBut (s : State) : applyTargets s = takenBut (fun _ => False) s := by
  rw [applyTargets_eq]
  exact mapChannels_congr fun j => (if_neg not_false).symm

theorem applyTarget_takenBut (j : Fin 6) (s : State) : applyTarget j s = takenBut (fun k => k ≠ j) s := by
  rw [applyTarget_eq, modChannel_eq_mapChannels]
  refine mapChannels_congr fun k => ?_
  by_cases e : k = j
  · subst e
    simp
  · simp [e]

theorem Prepared.retarget (h : Prepared s t) (hz : t.cur.zeroHold = s.cur.zeroHold) : Keeps s (retarget s t) := by
  rw [retarget_takenBut]
  exact h.taken hz fun _ => id

theorem Prepared.applyTargets (h : Prepared s t) (hz : t.cur.zeroHold = s.cur.zeroHold) : Keeps s (applyTargets t) := by
  rw [applyTargets_takenBut]
  exact h.taken hz nofun

theorem applyTarget_keeps (j : Fin 6) (s : State) : Keeps s (applyTarget j s) := by
  rw [applyTarget_takenBut]
  exact (Prepared.refl s).taken rfl fun _ _ => rfl

/-! ### Shares and ceilings (R142, R148, R149) -/

/-- A share is never negative (R148). -/
theorem shareFor_nonneg (s : State) (a : Int) (j : Fin 6) : ∀ x, shareFor s a j = some x → 0 ≤ x := by
  intro x hx
  unfold shareFor at hx
  split at hx
  · cases hx
  · cases hx
    have sum : ∀ l : List (Fin 6), 0 ≤ (l.map fun i => (s.settings.channels[i].ratedKw : Int)).sum := fun l =>
      List.sum_nonneg (by simp)
    exact Int.tdiv_nonneg (mul_nonneg (le_max_left 0 a) (by omega)) (sum _)

theorem newShares_prepared (s : State) : Prepared s (newShares s) := by
  rw [newShares_eq]
  refine .ite (.of_channels rfl rfl rfl rfl rfl rfl) ?_
  refine (Prepared.of_cur (fun c => { c with freeze := false, absorbable := some (absorbableAmount s) })
    (fun _ => rfl) s).trans (.of_map (h := fun j c => { c with share := shareFor s (absorbableAmount s) j })
      (fun j ok => ?_) (fun _ _ => rfl) fun _ _ => rfl)
  exact ⟨ok.host, ok.fallback, ok.point, ok.reference, ok.droop, shareFor_nonneg s _ j, ok.limit⟩

theorem newShares_zeroHold (s : State) : (newShares s).cur.zeroHold = s.cur.zeroHold := by
  rw [newShares_eq]
  split <;> rfl

theorem recomputeShares_keeps (s : State) : Keeps s (recomputeShares s) :=
  (newShares_prepared s).retarget (newShares_zeroHold s)

/-- An event that has changed ceilings is followed by the shares and the targets. -/
theorem Prepared.ceilingsChanged (h : Prepared s t) (hz : t.cur.zeroHold = s.cur.zeroHold) :
    Keeps s (ceilingsChanged s t) := by
  unfold Machine.ceilingsChanged
  split
  · exact h.retarget hz
  · exact (h.trans (newShares_prepared t)).retarget ((newShares_zeroHold t).trans hz)

theorem curOnSupervision_keeps (present : Bool) (s : State) : Keeps s (curOnSupervision present s) := by
  have told : Prepared s (modCur (fun c => { c with supervised := present }) s) :=
    .of_channels rfl rfl rfl rfl rfl rfl
  unfold curOnSupervision
  dsimp only
  rw [foldl_modChannel_const]
  split
  · exact .of_view rfl
  · refine Prepared.ceilingsChanged (told.trans (.of_map (h := fun _ c => { c with latch := true }) (fun j ok => ?_)
      (fun _ _ => rfl) fun _ _ => rfl)) rfl
    exact ⟨ok.host, ok.fallback, ok.point, ok.reference, ok.droop, ok.share, ok.limit⟩

/-- A release bears on the ceilings alone (R144). -/
theorem Prepared.released (h : Fin 6 → ChannelCtl → Nat) (s : State) :
    Prepared s (mapChannels (fun j c => { c with release := h j c }) s) :=
  .of_map (fun _ ok => ⟨ok.host, ok.fallback, ok.point, ok.reference, ok.droop, ok.share, ok.limit⟩) (fun _ _ => rfl)
    fun _ _ => rfl

theorem clearReleases_keeps (s : State) : Keeps s (clearReleases s) := by
  unfold clearReleases
  rw [foldl_modChannel_const]
  exact (Prepared.released (fun _ _ => 0) s).ceilingsChanged rfl

theorem setRelease_keeps (j : Fin 6) (percent : Nat) (s : State) : Keeps s (setRelease j percent s) := by
  have written : modChannel j (fun c => { c with release := percent }) s
      = mapChannels (fun k c => { c with release := if k = j then percent else c.release }) s := by
    rw [modChannel_eq_mapChannels]
    exact mapChannels_congr fun k => by split <;> rfl
  unfold setRelease
  rw [written]
  exact ((Prepared.released _ s).ceilingsChanged rfl).trans (applyTarget_keeps j _)

theorem curOnSequencer_keeps (before after : BlkState) (s : State) : Keeps s (curOnSequencer before after s) := by
  have told (b : Bool) (t : State) : Prepared t (modCur (fun c => { c with seqActive := b }) t) :=
    .of_channels rfl rfl rfl rfl rfl rfl
  unfold curOnSequencer
  split
  · dsimp only
    rw [foldl_modChannel_const]
    exact .ite (.refl s) (((Prepared.released (fun _ _ => 0) s).trans (told true _)).ceilingsChanged rfl)
  · exact .refl s
  · exact (told false s).ceilingsChanged rfl

theorem curOnSet_keeps (before after : SetState) (s : State) : Keeps s (curOnSet before after s) :=
  .ite (recomputeShares_keeps s) (.refl s)

theorem curOnUpdate_keeps (n : PointNames) (s : State) : Keeps s (curOnUpdate n s) :=
  .ite (.refl s) (recomputeShares_keeps s)

theorem curOnStale_keeps (n : PointNames) (s : State) : Keeps s (curOnStale n s) :=
  .ite (.of_view rfl) (.refl s)

/-! ### The ramp (R151) -/

theorem rampTickStep_keeps (s : State) : Keeps s (rampTickStep s) := by
  have told : Keeps s (modCur (fun c => { c with rampDue := false }) s) := .of_view rfl
  cases hm : s.lnk.mode with
  | monitor =>
    have e : rampTickStep s = modCur (fun c => { c with rampDue := false }) s := by
      unfold rampTickStep
      simp only [modCur_lnk, hm]
    rw [e]
    exact told
  | auto =>
    rw [rampTickStep_auto hm]
    refine told.trans ⟨fun k => ?_, fun w _ r => ?_, rfl⟩
    · rw [fits_iff] at k ⊢
      intro j
      rw [mapChannels_channel]
      exact risenOf_fits (k j)
    · refine rests_of_channels r.hold r.last fun ht j => ?_
      rw [mapChannels_channel]
      exact risenOf_rests (r.channel ht j) hm

/-! ### Droop and the zero hold (R145 to R147, R152) -/

/-- A droop limit is never negative (R146). -/
theorem droopLimitAt_nonneg (s : State) (f : Nat) {r : Int} (h : 0 ≤ r) : 0 ≤ droopLimitAt s f r := by
  unfold droopLimitAt clampInt
  refine Int.tdiv_nonneg (mul_nonneg h ?_) (by decide)
  omega

/-- Between `s` and `t` references and droop limits of the channels may have been written, in order still. -/
structure Drooped (s t : State) : Prop extends Prepared s t where
  zeroHold : t.cur.zeroHold = s.cur.zeroHold
  constraints : ∀ j, constraintsOf t j = constraintsOf s j

theorem Drooped.refl (s : State) : Drooped s s := ⟨.refl s, rfl, fun _ => rfl⟩

theorem Drooped.trans (h : Drooped s t) (k : Drooped t u) : Drooped s u :=
  ⟨h.toPrepared.trans k.toPrepared, k.zeroHold.trans h.zeroHold, fun j => (k.constraints j).trans (h.constraints j)⟩

theorem Drooped.of_map {reference droop : Fin 6 → ChannelCtl → Option Int}
    (hr : ∀ j, ChannelOk s.settings.channels[j] s.meas.channels[j] s.cur.channels[j] →
      ∀ r, reference j s.cur.channels[j] = some r → 0 ≤ r)
    (hd : ∀ j, ChannelOk s.settings.channels[j] s.meas.channels[j] s.cur.channels[j] →
      ∀ d, droop j s.cur.channels[j] = some d → 0 ≤ d) :
    Drooped s (mapChannels (fun j c => { c with reference := reference j c, droopLimit := droop j c }) s) := by
  refine ⟨.of_map (fun j ok => ?_) (fun _ _ => rfl) fun _ _ => rfl, rfl, fun j => ?_⟩
  · exact ⟨ok.host, ok.fallback, ok.point, hr j ok, hd j ok, ok.share, ok.limit⟩
  · simp only [constraintsOf, baseCeiling, releaseLimit, mapChannels_channel]
    rfl

theorem Drooped.of_evr (k : SameBut [.evr] s t) : Drooped s t := by
  have hs := k.settings (by decide)
  have hc := k.cur (by decide)
  refine ⟨.of_channels hs (k.meas (by decide)) (by rw [hc]) (k.lnk (by decide)) (k.fmon (by decide))
    (k.notices (by decide)), by rw [hc], fun j => ?_⟩
  simp only [constraintsOf, baseCeiling, releaseLimit, hs, hc]

/-- An episode begins or ends. -/
theorem Drooped.of_active (b : Bool) (s : State) : Drooped s (modCur (fun c => { c with droopActive := b }) s) :=
  ⟨.of_channels rfl rfl rfl rfl rfl rfl, rfl, fun _ => rfl⟩

theorem recomputeDroop_drooped (f : Nat) (s : State) : Drooped s (recomputeDroop f s) := by
  rw [recomputeDroop_eq]
  refine .of_map (reference := fun _ c => c.reference) (fun j ok => ok.reference) fun j ok d hd => ?_
  obtain ⟨r, hr, rfl⟩ := Option.map_eq_some_iff.mp hd
  exact droopLimitAt_nonneg s f (ok.reference r hr)

theorem channelOutput_nonneg {j : Fin 6}
    (h : ChannelOk s.settings.channels[j] s.meas.channels[j] s.cur.channels[j]) : 0 ≤ channelOutput s j := by
  unfold channelOutput
  split
  · exact h.limit
  · exact h.point

theorem droopOnset_drooped (f : Nat) (s : State) : Drooped s (droopOnset f s) := by
  rw [droopOnset_eq]
  refine Drooped.trans ?_ (recomputeDroop_drooped f _)
  refine ((Drooped.of_active true s).trans (.of_map
    (reference := fun j _ => if s.settings.channels[j].inService then some (channelOutput s j) else none)
    (droop := fun _ c => c.droopLimit) (fun j ok r hr => ?_) fun j ok => ok.droop)).trans (.of_evr (by simp))
  split at hr
  · cases hr
    exact channelOutput_nonneg (s := s) ok
  · cases hr

theorem droopEnd_drooped (v : Int) (s : State) : Drooped s (droopEnd v s) := by
  rw [droopEnd_eq]
  exact ((Drooped.of_active false s).trans (.of_map (reference := fun _ _ => none) (droop := fun _ _ => none)
    (fun _ _ => nofun) fun _ _ => nofun)).trans (.of_evr (by simp))

theorem Drooped.ite {c : Prop} [Decidable c] (ht : Drooped s t) (hu : Drooped s u) :
    Drooped s (if c then t else u) := by
  split
  · exact ht
  · exact hu

theorem droopAtValue_drooped (f : Nat) (s : State) : Drooped s (droopAtValue f s) :=
  .ite (.ite (droopEnd_drooped f s) (recomputeDroop_drooped f s)) (.ite (droopOnset_drooped f s) (.refl s))

/-- The zero hold after a notice: set by an entry into DEAD, cleared by one into LIVE (R152). -/
def holdAfter (n : BusNotice) (b : Bool) : Bool :=
  if n.bus = n.prev then b
  else
    match n.bus with
    | .dead => true
    | .live => false
    | .settling => b

/-- CUR before the recomputation of the targets that a bus notice brings. -/
def busTaken (n : BusNotice) (s : State) : State :=
  match n.value with
  | some v => droopAtValue v.f (curBusChange n s)
  | none => curBusChange n s

theorem curOnBus_eq (n : BusNotice) (s : State) :
    curOnBus n s =
      if holdOrDroopMoved s (busTaken n s) ∨ (n.bus ≠ n.prev ∧ s.lnk.mode = .monitor) then applyTargets (busTaken n s)
      else busTaken n s := rfl

/-- Up to the zero hold, what a change of the bus state does is droop. -/
theorem curBusChange_drooped (n : BusNotice) (s : State) :
    Drooped (modCur (fun c => { c with zeroHold := holdAfter n c.zeroHold }) s) (curBusChange n s) := by
  unfold curBusChange holdAfter
  split
  · exact .refl s
  · cases n.bus with
    | dead => exact .ite (droopEnd_drooped 0 _) (.refl _)
    | settling => exact .refl s
    | live => exact .refl _

theorem busTaken_drooped (n : BusNotice) (s : State) :
    Drooped (modCur (fun c => { c with zeroHold := holdAfter n c.zeroHold }) s) (busTaken n s) := by
  unfold busTaken
  split
  · exact (curBusChange_drooped n s).trans (droopAtValue_drooped _ _)
  · exact curBusChange_drooped n s

theorem busTaken_prepared (n : BusNotice) (s : State) : Prepared s (busTaken n s) :=
  (Prepared.of_cur (fun c => { c with zeroHold := holdAfter n c.zeroHold }) (fun _ => rfl) s).trans
    (busTaken_drooped n s).toPrepared

theorem busTaken_zeroHold (n : BusNotice) (s : State) : (busTaken n s).cur.zeroHold = holdAfter n s.cur.zeroHold :=
  (busTaken_drooped n s).zeroHold

theorem busTaken_constraints (n : BusNotice) (s : State) (j : Fin 6) :
    constraintsOf (busTaken n s) j = constraintsOf s j := (busTaken_drooped n s).constraints j

end Keeps
end Sys2Proof.Machine

/-! ## The laws of the output limits: the answers to notices -/

namespace Sys2Proof.Machine

section Answers

variable {s s₀ t : State}

/-! ### CUR takes a bus notice (R145 to R147, R152) -/

theorem takenBut_true (s : State) : takenBut (fun _ => True) s = s := mapChannels_id fun _ => rfl

theorem modes_auto_of_not {m : Mode} (h : m ≠ .monitor) : m = .auto := by
  cases m with
  | monitor => exact absurd rfl h
  | auto => rfl

/-- Either every target is recomputed after a bus notice, or the zero hold stands, and at a change of the bus state the
mode is AUTO. -/
theorem curOnBus_cases (n : BusNotice) (s : State) :
    curOnBus n s = takenBut (fun _ => False) (busTaken n s)
      ∨ curOnBus n s = takenBut (fun _ => True) (busTaken n s) ∧ (busTaken n s).cur.zeroHold = s.cur.zeroHold
          ∧ (n.bus ≠ n.prev → s.lnk.mode = .auto) := by
  rw [curOnBus_eq]
  split
  · exact .inl (applyTargets_takenBut _)
  next stands =>
    obtain ⟨still, unturned⟩ := not_or.mp stands
    refine .inr ⟨(takenBut_true _).symm, ?_, fun changed => modes_auto_of_not fun m => unturned ⟨changed, m⟩⟩
    have moved : holdOrDroopMoved s (busTaken n s) = false := by simpa using still
    simp only [holdOrDroopMoved, Bool.or_eq_false_iff] at moved
    obtain ⟨⟨hold, -⟩, -⟩ := moved
    simpa using hold

theorem curOnBus_fits (n : BusNotice) (h : Fits (limitView s)) : Fits (limitView (curOnBus n s)) := by
  have prepared := busTaken_prepared n s
  have constraints := busTaken_constraints n s
  rcases curOnBus_cases n s with e | ⟨e, -, -⟩ <;> rw [e]
  · exact prepared.taken_fits nofun h
  · exact prepared.taken_fits (fun j _ => constraints j) h

theorem curOnBus_waits (n : BusNotice) (s : State) : curWaits (curOnBus n s).notices = curWaits s.notices := by
  rw [(curOnBus_frame n s).notices (by decide)]

/-- A notice without a change of the bus state leaves the zero hold. -/
theorem curOnBus_keeps {n : BusNotice} (h : n.bus = n.prev) (s : State) : Keeps s (curOnBus n s) := by
  have prepared := busTaken_prepared n s
  have constraints := busTaken_constraints n s
  have hold : (busTaken n s).cur.zeroHold = s.cur.zeroHold := (busTaken_zeroHold n s).trans (if_pos h)
  rcases curOnBus_cases n s with e | ⟨e, -, -⟩ <;> rw [e]
  · exact prepared.taken hold nofun
  · exact prepared.taken hold fun j _ => constraints j

/-- CUR takes a change of the bus state. -/
theorem curOnBus_rests {n : BusNotice} (hn : n.bus ≠ n.prev) {w : CurWaits} (hs : Fits (limitView s))
    (h : Rests ⟨n.bus :: w.buses, w.turning⟩ (limitView s)) : Rests w (limitView (curOnBus n s)) := by
  have prepared := busTaken_prepared n s
  have bus : (curOnBus n s).fmon.bus = s.fmon.bus := by rw [(curOnBus_frame n s).fmon (by decide)]
  have held : (curOnBus n s).cur.zeroHold = holdAfter n s.cur.zeroHold := by
    rw [← busTaken_zeroHold]
    rcases curOnBus_cases n s with e | ⟨e, -, -⟩ <;> rw [e] <;> rfl
  obtain ⟨-, last, rests⟩ := id h
  refine rests_of_channels (fun hw dead => ?_) (fun b hb => ?_) fun ht j => ?_
  · have entered : n.bus = .dead := by
      have e : n.bus = s.fmon.bus := last n.bus (by simp [hw])
      exact e.trans (bus.symm.trans dead)
    rw [held, holdAfter, if_neg hn, entered]
  · rw [bus]
    exact last b (by
      rw [List.getLast?_cons, show w.buses.getLast? = some b from hb]
      rfl)
  · rcases curOnBus_cases n s with e | ⟨e, hold, auto⟩ <;> rw [e]
    · simp only [takenBut, mapChannels_channel, bearing_mapChannels, mapChannels_settings]
      rw [if_neg not_false]
      exact takenOf_rests (prepared.ok hs.ok j) _ _
    · rw [takenBut_true]
      have mode : (busTaken n s).lnk.mode = .auto := prepared.mode.trans (auto hn)
      refine ⟨fun _ hz => ?_, fun hm => ?_, fun _ hm => ?_⟩
      · rw [prepared.limit]
        exact (h.channel ht j).held (auto hn) (hold.symm.trans hz)
      all_goals exact nomatch mode.symm.trans hm

/-! ### The sequencer (chapter 9) -/

theorem curOnSequencer_after (h : Keeps s₀ s) (a b : BlkState) : Keeps s₀ (curOnSequencer a b s) :=
  h.trans (curOnSequencer_keeps a b s)

theorem blkEnter_keeps (h : Keeps s₀ s) (new : BlkState) : Keeps s₀ (blkEnter new s) := by
  unfold blkEnter
  dsimp only
  refine .ite h (curOnSequencer_after ?_ _ _)
  exact h.after (by rw [limitView_genOnSequencer, limitView_setProt]; rfl)

theorem blkToIdle_keeps (h : Keeps s₀ s) : Keeps s₀ (blkToIdle s) :=
  blkEnter_keeps (s := { s with blk := { s.blk with confirm := .idle, run := {} } }) (h.after rfl) _

theorem failRun_keeps (h : Keeps s₀ s) (code : Nat) : Keeps s₀ (failRun code s) := by
  unfold failRun
  dsimp only
  exact blkEnter_keeps (h.after (by simp)) _

theorem endRun_keeps (h : Keeps s₀ s) : Keeps s₀ (endRun s) := by
  unfold endRun
  dsimp only
  exact blkToIdle_keeps (h.after (by simp))

theorem beginRun_keeps (h : Keeps s₀ s) (how : RunStart) : Keeps s₀ (beginRun how s) := by
  have cleared :
      Keeps s₀ (clearBus { s with blk := { s.blk with confirm := .idle, run := { begunBy := some how } } }) :=
    h.after ((limitView_clearBus _).trans rfl)
  unfold beginRun
  dsimp only
  generalize clearBus _ = u at cleared ⊢
  split
  · exact failRun_keeps cleared 1
  · split
    · exact failRun_keeps cleared 1
    next g _ _ p _ =>
      have latched : Keeps s₀ (latchLead g p (pushHeader u)) := cleared.after (by simp)
      exact (blkEnter_keeps latched .running).after (by simp)

theorem retryRun_keeps (h : Keeps s₀ s) : Keeps s₀ (retryRun s) := by
  have cleared : Keeps s₀ (clearReleases (clearBus s)) :=
    (h.after (limitView_clearBus s)).trans (clearReleases_keeps _)
  unfold retryRun
  dsimp only
  generalize clearReleases (clearBus s) = u at cleared ⊢
  split
  · exact failRun_keeps cleared 1
  · split
    · exact failRun_keeps cleared 1
    next g _ _ p _ =>
      have latched : Keeps s₀ (modRun (fun r => { r with holdStack := false })
          (journal .blkRetry g p.val (latchLead g p u))) := cleared.after (by simp)
      exact .ite (.ite latched ((blkEnter_keeps latched _).after (limitView_journal _ _ _ _)))
        ((blkEnter_keeps latched _).after (limitView_queueStep _))

theorem limitView_attemptNoted (code : Nat) (s : State) : limitView (attemptNoted code s) = limitView s := by
  have stopped (l : List (Fin 4)) (t : State) :
      limitView (l.foldl (fun s g => stopSet false g .blackstart s) t) = limitView t :=
    limitView_foldl (fun s g => limitView_stopSet false g .blackstart s) l t
  unfold attemptNoted
  dsimp only
  rw [limitView_ite, stopped, ite_self]
  simp

theorem attemptFail_keeps (h : Keeps s₀ s) (code : Nat) : Keeps s₀ (attemptFail code s) := by
  have noted := h.after (limitView_attemptNoted code s)
  rw [attemptFail_eq]
  exact .ite (retryRun_keeps noted) (failRun_keeps noted code)

theorem stepFails_keeps (h : Keeps s₀ s) (st : PlanStep) (expired : Bool) : Keeps s₀ (stepFails st expired s) :=
  .ite (h.after (by simp)) (attemptFail_keeps h _)

theorem stepAction_keeps (h : Keeps s₀ s) (st : PlanStep) : Keeps s₀ (stepAction st s) := by
  have fails := stepFails_keeps h st false
  unfold stepAction
  cases st.kind with
  | startLead =>
    dsimp only
    split
    · exact fails
    · split
      · exact h.after (limitView_stepDone _ _)
      · split
        next e => exact h.after (limitView_of_startByPlan e)
        next e => exact stepFails_keeps (h.after (limitView_of_startByPlan e)) st false
  | closeFeeder =>
    dsimp only
    split
    · split
      next e => exact h.after (limitView_of_operate e)
      next e => exact h.after ((limitView_stepDone _ _).trans (limitView_of_operate e))
      next e => exact stepFails_keeps (h.after (limitView_of_operate e)) st false
    · exact fails
  | wait => exact .ite (h.after (limitView_stepDone _ _)) (h.after (limitView_modRun _ _))
  | waitStable => exact h
  | startNext =>
    dsimp only
    split
    · exact fails
    · split
      next e => exact h.after ((limitView_modRun _ _).trans (limitView_of_startByPlan e))
      next e => exact stepFails_keeps (h.after (limitView_of_startByPlan e)) st false
  | releasePv =>
    dsimp only
    split
    · exact .ite ((h.trans (setRelease_keeps _ _ s)).after (limitView_stepDone _ _)) fails
    · exact fails
  | stop => exact endRun_keeps (h.after (limitView_journal _ _ _ _))

theorem beginStep_keeps (h : Keeps s₀ s) : Keeps s₀ (beginStep s) := by
  unfold beginStep
  split
  · split
    · exact endRun_keeps h
    · exact stepAction_keeps (h.after (limitView_modRun _ _)) _
  · exact h

theorem examineStep_keeps (h : Keeps s₀ s) (st : PlanStep) : Keeps s₀ (examineStep st s) := by
  unfold examineStep
  split
  · exact h
  · exact h.after (limitView_stepDone _ _)
  · exact h.after (limitView_giveGrant _ _)
  · exact stepFails_keeps h st false

theorem enterHeld_keeps (h : Keeps s₀ s) (cause : Nat) : Keeps s₀ (enterHeld cause s) :=
  (blkEnter_keeps (h.after (limitView_modRun _ _)) _).after (limitView_journal _ _ _ _)

theorem resumeRun_keeps (h : Keeps s₀ s) : Keeps s₀ (resumeRun s) := by
  have resumed : Keeps s₀ (journal .blkResumed 0 0 (blkEnter .running s)) :=
    (blkEnter_keeps h .running).after (limitView_journal _ _ _ _)
  unfold resumeRun
  dsimp only
  generalize journal .blkResumed 0 0 (blkEnter .running s) = u at resumed ⊢
  split
  · have timed := resumed.after (limitView_modRun (fun r =>
      { r with stepTimer := r.stepTimer.resume, waitTimer := r.waitTimer.resume }) u)
    split
    · exact .ite timed (examineStep_keeps timed _)
    · exact timed
  · exact resumed.after (limitView_queueStep _)

theorem blkOnStack_keeps (h : Keeps s₀ s) : Keeps s₀ (blkOnStack s) := by
  have held (b : Bool) : Keeps s₀ (modRun (fun r => { r with holdStack := b }) s) := h.after (limitView_modRun _ _)
  unfold blkOnStack
  dsimp only
  split
  · exact .ite (.ite (enterHeld_keeps (held true) 1) (held true)) (.ite (resumeRun_keeps (held false)) (held false))
  · exact h

theorem enterConfirming_keeps (h : Keeps s₀ s) : Keeps s₀ (enterConfirming s) :=
  (blkEnter_keeps (s := { s with blk := { s.blk with confirm := .running s.settings.sys.deadConfirmMs, run := {} } })
    (h.after rfl) .confirming).after (limitView_journal _ _ _ _)

theorem confirmed_keeps (h : Keeps s₀ s) : Keeps s₀ (confirmed s) := by
  unfold confirmed
  split
  · exact beginRun_keeps h .timer
  · exact (blkEnter_keeps (s := { s with blk := { s.blk with confirm := .idle } }) (h.after rfl) .waiting).after
      (limitView_journal _ _ _ _)

theorem confirmExpires_keeps (h : Keeps s₀ s) : Keeps s₀ (confirmExpires s) := by
  unfold confirmExpires
  split
  · exact .ite (confirmed_keeps h) (h.after rfl)
  · exact h

theorem stepTimerExpires_keeps (h : Keeps s₀ s) : Keeps s₀ (stepTimerExpires s) := by
  unfold stepTimerExpires
  split
  · exact .ite (stepFails_keeps h _ true) h
  · exact h

theorem waitTimerExpires_keeps (h : Keeps s₀ s) : Keeps s₀ (waitTimerExpires s) := by
  unfold waitTimerExpires
  split
  · exact .ite (h.after (limitView_stepDone _ _)) h
  · exact h

/-! ### Notices to BLK -/

theorem followOn_keeps : ∀ (k : Nat) (n : BusNotice) {s : State}, Keeps s₀ s → Keeps s₀ (followOn k n s)
  | 0, _, _, h => h
  | k + 1, n, s, h => by
    have begun := beginStep_keeps h
    unfold followOn
    dsimp only
    split
    · split
      · split
        · exact followOn_keeps k n (begun.after (limitView_stableOnBus _ n _))
        · exact begun
      · exact followOn_keeps k n begun
    · exact h

theorem runOnBus_keeps (h : Keeps s₀ s) (n : BusNotice) : Keeps s₀ (runOnBus n s) := by
  unfold runOnBus
  split
  next st _ =>
    have examined := examineStep_keeps h st
    have stable := h.after (limitView_stableOnBus st n s)
    split
    · exact .ite (followOn_keeps 13 n examined) examined
    · exact .ite (followOn_keeps 13 n stable) stable
    · exact h
  next => exact h

theorem blkOnBusEvent_keeps (h : Keeps s₀ s) (n : BusNotice) : Keeps s₀ (blkOnBusEvent n s) := by
  have begun : Keeps s₀ (if n.bus = .live ∧ n.prev ≠ .live then modRun (fun r => { r with clearing := [] }) s else s) :=
    .ite (h.after (limitView_modRun _ _)) h
  unfold blkOnBusEvent
  dsimp only
  generalize (if n.bus = .live ∧ n.prev ≠ .live then modRun (fun r => { r with clearing := [] }) s else s) = u
    at begun ⊢
  split
  · exact .ite (enterConfirming_keeps begun) begun
  · exact .ite (blkToIdle_keeps begun) (.ite (confirmed_keeps begun) begun)
  · exact .ite (blkToIdle_keeps begun) begun
  · exact .ite (attemptFail_keeps begun 4) (runOnBus_keeps begun n)
  · exact .ite (attemptFail_keeps begun 4) begun
  · exact begun

theorem blkOnReset_keeps (h : Keeps s₀ s) : Keeps s₀ (blkOnReset s) := by
  have confirming : Keeps s₀ { s with blk :=
      { s.blk with state := .confirming, confirm := .running s.settings.sys.deadConfirmMs } } := h.after rfl
  exact .ite (curOnSequencer_after (confirming.after (limitView_genOnSequencer _)) _ _) h

theorem blkOnBus_keeps (h : Keeps s₀ s) (n : BusNotice) : Keeps s₀ (blkOnBus n s) :=
  .ite (blkOnReset_keeps h) (blkOnBusEvent_keeps h n)

theorem blkOnSet_keeps (h : Keeps s₀ s) (g : Fin 4) (a b : SetState) : Keeps s₀ (blkOnSet g a b s) := by
  unfold blkOnSet
  split
  · exact .ite (enterConfirming_keeps h) h
  · exact .ite (blkToIdle_keeps h) h
  · exact .ite (blkToIdle_keeps h) h
  · split
    · exact .ite (examineStep_keeps h _) h
    · exact h
  · exact h

theorem blkOnFeeder_keeps (h : Keeps s₀ s) (f : Fin 16) : Keeps s₀ (blkOnFeeder f s) := by
  have cleared := h.after (limitView_clearingOnFeeder f s)
  unfold blkOnFeeder
  dsimp only
  split
  · exact .ite (examineStep_keeps cleared _) cleared
  · exact cleared

theorem blkOnMode_keeps (h : Keeps s₀ s) (m : Mode) : Keeps s₀ (blkOnMode m s) := by
  unfold blkOnMode
  split
  · exact attemptFail_keeps h 5
  · exact h

/-! ### One notice, and the delivery of all (section 2.5) -/

/-- A notice has been delivered: CUR has it no more to take. -/
structure Delivered (n : Notice) (s t : State) : Prop where
  fits : Fits (limitView s) → Fits (limitView t)
  rests : ∀ l, Fits (limitView s) → Rests (curWaits (n :: l)) (limitView s) → Rests (curWaits l) (limitView t)
  waits : curWaits t.notices = curWaits s.notices

theorem Keeps.delivered {n : Notice} (h : Keeps s t) (hn : n.offCur) : Delivered n s t :=
  ⟨h.fits, fun l hs hr => h.rests _ hs (by rwa [curWaits_cons hn] at hr), h.waits⟩

theorem deliver_curBus (n : BusNotice) (s : State) : Delivered (.bus .cur n) s (curOnBus n s) := by
  by_cases h : n.bus = n.prev
  · exact (curOnBus_keeps h s).delivered ⟨if_pos h, rfl⟩
  · refine ⟨curOnBus_fits n, fun l hs hr => curOnBus_rests h hs ?_, curOnBus_waits n s⟩
    have waits : curWaits (.bus .cur n :: l) = ⟨n.bus :: (curWaits l).buses, (curWaits l).turning⟩ := by
      have bus : (Notice.bus .cur n).curBus = some n.bus := if_neg h
      simp [curWaits, bus, Notice.curMode]
    rwa [waits] at hr

/-- CUR takes a change of mode (R153). -/
theorem deliver_curMode (m : Mode) (s : State) : Delivered (.mode .cur m) s (applyTargets s) := by
  have keeps : Keeps s (applyTargets s) := (Prepared.refl s).applyTargets rfl
  refine ⟨keeps.fits, fun l hs hr => ?_, keeps.waits⟩
  obtain ⟨hold, last, -⟩ := hr
  rw [applyTargets_eq]
  refine rests_of_channels hold last fun _ j => ?_
  rw [mapChannels_channel]
  exact takenOf_rests (hs.ok j) _ _

theorem deliver_delivered (n : Notice) (s : State) : Delivered n s (deliver n s) := by
  have h := Keeps.refl s
  have off {n : Notice} {t : State} (k : Keeps s t) (hb : n.curBus = none := by rfl)
      (hm : n.curMode = false := by rfl) : Delivered n s t := k.delivered ⟨hb, hm⟩
  unfold deliver
  split
  · exact off (h.after (limitView_shdOnBus _ s))
  · exact off (h.after (limitView_rstOnBus _ s))
  · exact deliver_curBus _ s
  · exact off (blkOnBus_keeps h _)
  · exact off (h.after (limitView_genOnBus _ s))
  · exact off (h.after (limitView_shdOnFeeder _ _ _ s))
  · exact off (h.after (limitView_rstOnFeeder _ _ s))
  · exact off (blkOnFeeder_keeps h _)
  · exact off h
  · exact off (blkOnSet_keeps h _ _ _)
  · exact off (curOnSet_keeps _ _ s)
  · exact off (h.after (limitView_evalDispatch s))
  · exact off h
  · exact off (blkOnStack_keeps h)
  · exact off (h.after (limitView_evalDispatch s))
  · exact off h
  · exact off (h.after (limitView_restorerTurn s))
  · exact off (.ite h (h.after (limitView_evalDispatch s)))
  · exact off (curOnUpdate_keeps _ s)
  · exact off h
  · exact off (h.after (limitView_restorerTurn s))
  · exact off (.ite h (h.after (limitView_evalDispatch s)))
  · exact off (curOnStale_keeps _ s)
  · exact off h
  · exact off (h.after (limitView_rstOnMode s))
  · exact off (h.after (limitView_genOnMode _ s))
  · exact deliver_curMode _ s
  · exact off (blkOnMode_keeps h _)
  · exact off h
  · exact off (beginStep_keeps h)

theorem deliverAll_fits (l : List Notice) (h : Fits (limitView s)) :
    Fits (limitView (l.foldl (fun s n => deliver n s) s)) := by
  induction l generalizing s with
  | nil => exact h
  | cons n l ih => exact ih ((deliver_delivered n s).fits h)

theorem deliverAll_rests (l : List Notice) (hs : Fits (limitView s)) (h : Rests (curWaits l) (limitView s)) :
    Rests (curWaits []) (limitView (l.foldl (fun s n => deliver n s) s)) := by
  induction l generalizing s with
  | nil => exact h
  | cons n l ih =>
    have delivered := deliver_delivered n s
    exact ih (delivered.fits hs) (delivered.rests l hs h)

/-- What the laws see of a state apart from what CUR has still to take does not depend on the notices. -/
theorem Fits.noticed {l : List Notice} (h : Fits (limitView s)) : Fits (limitView { s with notices := l }) := h

theorem Rests.noticed {w : CurWaits} {l : List Notice} (h : Rests w (limitView s)) :
    Rests w (limitView { s with notices := l }) := ⟨h.hold, h.last, h.rests⟩

theorem settle_fits : ∀ (fuel : Nat) {s : State}, Fits (limitView s) → Fits (limitView (settle fuel s))
  | 0, s, h => (deliverAll_fits s.notices h.noticed).noticed
  | fuel + 1, s, h => by
    unfold settle
    split
    · exact h
    · exact settle_fits fuel ((deliver_delivered _ _).fits h.noticed)

/-- Once every notice has been delivered CUR has nothing more to take. -/
theorem settle_rests : ∀ (fuel : Nat) {s : State}, Fits (limitView s) → Rests (curWaits s.notices) (limitView s) →
    Rests (curWaits []) (limitView (settle fuel s))
  | 0, s, hs, h => (deliverAll_rests s.notices hs.noticed h.noticed).noticed
  | fuel + 1, s, hs, h => by
    unfold settle
    split
    next e => rwa [e] at h
    next n rest e =>
      rw [e] at h
      have delivered := deliver_delivered n { s with notices := rest }
      refine settle_rests fuel (delivered.fits hs.noticed) ?_
      rw [delivered.waits]
      exact delivered.rests rest hs.noticed h.noticed

theorem limitView_driveSets (s : State) : limitView (driveSets s) = limitView s := (driveSets_frame s).limitView rfl

theorem limitView_driveAlerts (s : State) : limitView (driveAlerts s) = limitView s :=
  (driveAlerts_frame s).limitView rfl

theorem conclude_fits (h : Fits (limitView s)) : Fits (limitView (conclude s)) := by
  rw [conclude, limitView_driveAlerts, limitView_driveSets]
  exact settle_fits _ h

/-- The end of an event leaves CUR nothing to take. -/
theorem conclude_rests (hs : Fits (limitView s)) (h : Rests (curWaits s.notices) (limitView s)) :
    Rests ⟨[], false⟩ (limitView (conclude s)) := by
  rw [conclude, limitView_driveAlerts, limitView_driveSets]
  exact settle_rests _ hs h

end Answers
end Sys2Proof.Machine

/-! ## The laws of the output limits: what a block does on its own at an event -/

namespace Sys2Proof.Machine

/-- What a block does at the start of an event: the laws hold on, for what CUR has to take then. -/
structure Starts (s u : State) : Prop where
  fits : Fits (limitView s) → Fits (limitView u)
  rests : Fits (limitView s) → Rests (curWaits s.notices) (limitView s) → Rests (curWaits u.notices) (limitView u)

section Starts

variable {s t u : State}

theorem Keeps.starts (h : Keeps s t) : Starts s t := ⟨h.fits, fun hs hr => h.waits ▸ h.rests _ hs hr⟩

theorem Starts.refl (s : State) : Starts s s := (Keeps.refl s).starts

theorem Starts.of_view (k : limitView t = limitView s) : Starts s t := (Keeps.of_view k).starts

theorem Starts.trans (h : Starts s t) (k : Starts t u) : Starts s u :=
  ⟨fun hs => k.fits (h.fits hs), fun hs hr => k.rests (h.fits hs) (h.rests hs hr)⟩

theorem Starts.after (h : Starts s t) (k : limitView u = limitView t) : Starts s u := h.trans (.of_view k)

theorem Starts.ite {c : Prop} [Decidable c] (ht : Starts s t) (hu : Starts s u) : Starts s (if c then t else u) := by
  split
  · exact ht
  · exact hu

theorem Starts.whenChanged {b : Bool} {act : State → State} (k : ∀ t, Starts t (act t)) (h : Starts s t) :
    Starts s (whenChanged b act t) := .ite (h.trans (k t)) h

/-! ### FMON (chapter 2) -/

/-- Of a bus notice to all its consumers CUR has one change to take, if it is one. -/
theorem curWaits_emitBus (n : BusNotice) (s : State) :
    curWaits (emitBus n s).notices =
      ⟨(curWaits s.notices).buses ++ (if n.bus = n.prev then [] else [n.bus]), (curWaits s.notices).turning⟩ := by
  have none_turn (l : List Consumer) : (l.map fun c => Notice.bus c n).any Notice.curMode = false := by
    simp [Notice.curMode]
  have changes (l : List Consumer) (h : l.count .cur = 1) :
      (l.map fun c => Notice.bus c n).filterMap Notice.curBus = if n.bus = n.prev then [] else [n.bus] := by
    have bus (c : Consumer) : Notice.curBus (.bus c n) =
        if c = .cur then (if n.bus = n.prev then none else some n.bus) else none := by cases c <;> rfl
    have filtered : (l.map fun c => Notice.bus c n).filterMap Notice.curBus
        = (l.filter (· == .cur)).filterMap fun _ => if n.bus = n.prev then none else some n.bus := by
      rw [List.filterMap_map, List.filterMap_filter]
      exact List.filterMap_congr fun c _ => by simp [bus]
    rw [filtered, List.filter_beq, h]
    split <;> rfl
  have perm (l : List Consumer) (h : l.count .cur = 1) : (permute (nextOrder s) l).count .cur = 1 :=
    ((permute_perm _ l).count_eq _).trans h
  unfold emitBus
  rw [emit_notices]
  simp only [curWaits, List.filterMap_append, List.any_append, none_turn, Bool.or_false]
  rw [changes _ (perm _ (by split <;> rfl))]

/-- The laws where the bus state has become `b` and CUR has that change to take. -/
theorem Rests.turned {w : CurWaits} {v : LimitView} (h : Rests w v) (b : BusState) :
    Rests ⟨w.buses ++ (if b = v.bearing.bus then [] else [b]), w.turning⟩
      { v with bearing := { v.bearing with bus := b } } := by
  by_cases e : b = v.bearing.bus
  · subst e
    rw [if_pos rfl, List.append_nil]
    exact h
  · rw [if_neg e]
    have waits : w.buses ++ [b] ≠ [] := by simp
    exact ⟨fun none => absurd none waits, fun x hx => by simpa using hx.symm,
      fun ht j => ⟨(h.rests ht j).held, (h.rests ht j).remainder, fun none => absurd none waits⟩⟩

/-- FMON changes the bus state and says so. -/
theorem starts_emitBus {n : BusNotice} (hp : n.prev = s.fmon.bus)
    (hv : limitView t = { limitView s with bearing := { bearing s with bus := n.bus } }) : Starts s (emitBus n t) := by
  have waits : curWaits t.notices = curWaits s.notices := congrArg LimitView.waits hv
  have view : limitView (emitBus n t) = { limitView t with waits := curWaits (emitBus n t).notices } := rfl
  rw [hv] at view
  refine ⟨fun h => ?_, fun _ h => ?_⟩
  · rw [view]
    exact h
  · have turned := h.turned n.bus
    rw [view, curWaits_emitBus, waits, hp]
    exact ⟨turned.hold, turned.last, turned.rests⟩

/-- FMON reports without a change of the bus state. -/
theorem starts_of_still {b : BusState} {n : BusNotice} (hb : n.bus = b) (hp : n.prev = b) (hs : s.fmon.bus = b)
    (hv : limitView t = limitView s) : Starts s (emitBus n t) := by
  refine starts_emitBus (hp.trans hs.symm) (hv.trans ?_)
  rw [hb, ← hs]
  rfl

theorem breakRun_starts (p : Nat) (s : State) : Starts s (breakRun p s) := by
  unfold breakRun
  dsimp only
  split
  next live => exact starts_emitBus live.symm (by rw [limitView_journal]; rfl)
  next => exact starts_of_still rfl rfl rfl rfl

theorem enterDead_starts (s : State) : Starts s (enterDead s) := by
  unfold enterDead
  exact starts_emitBus rfl (by rw [limitView_journal, limitView_setProt]; rfl)

theorem formValue_starts (pRing : List Nat) (s : State) : Starts s (formValue pRing s) := by
  unfold formValue
  dsimp only
  split
  next live =>
    refine starts_emitBus live.symm ?_
    rfl
  next => exact starts_emitBus rfl (by rw [limitView_journal, limitView_setProt]; rfl)

theorem acceptValid_starts (p : Nat) (s : State) : Starts s (acceptValid p s) :=
  .ite (formValue_starts _ s) (.of_view rfl)

theorem crossingArrives_starts (s : State) : Starts s (crossingArrives s) := by
  have accepted : Starts s (modFmon (fun m => { m with reference := some s.time.capture }) s) := .of_view rfl
  unfold crossingArrives
  dsimp only
  split
  · exact starts_emitBus rfl (by rw [limitView_journal]; rfl)
  · split
    · exact .of_view rfl
    · exact accepted.trans (breakRun_starts _ _)
    · exact accepted.trans (acceptValid_starts _ _)

theorem deadBusExpires_starts (s : State) : Starts s (deadBusExpires s) := .ite (.refl s) (enterDead_starts s)

theorem nominalTaken_starts (s : State) : Starts s (nominalTaken s) := by
  have taken : Starts s { s with settings := { s.settings with
      stages := { s.settings.stages with
        threshold := s.settings.stages.threshold.map (clampThreshold s.settings.sys.fNom) } } } := .of_view rfl
  have broken := taken.trans (breakRun_starts 0 _)
  exact .ite (broken.trans (enterDead_starts _)) broken

/-! ### The mode (R153) -/

/-- A change of mode waits for CUR. -/
theorem curWaits_modeChange (m : Mode) (l : Link) (s : State) :
    curWaits (modeChange m l s).notices = ⟨(curWaits s.notices).buses, true⟩ := by
  have perm := permute_perm (nextOrder (journal .modeChanged l.code m.code (modLnk (fun n => { n with mode := m }) s)))
    [Consumer.shd, .rst, .gen, .cur, .blk]
  have none_bus (k : List Consumer) : (k.map fun c => Notice.mode c m).filterMap Notice.curBus = [] := by
    simp [List.filterMap_map, Function.comp_def, Notice.curBus]
  simp only [modeChange, emit_notices, journal_notices, modLnk_notices, curWaits, List.filterMap_append,
    List.any_append, List.any_map, none_bus, List.append_nil]
  rw [perm.any_eq]
  simp [Notice.curMode]

theorem modeChange_starts (m : Mode) (l : Link) (s : State) : Starts s (modeChange m l s) := by
  have view : limitView (modeChange m l s) =
      { limitView s with
        bearing := { bearing s with mode := m }, waits := ⟨(curWaits s.notices).buses, true⟩ } := by
    have fr : SameBut [.lnk, .evr, .notices, .draws] s (modeChange m l s) := by simp [modeChange]
    have mode : (modeChange m l s).lnk.mode = m := by simp [modeChange]
    simp only [limitView, bearing, fr.settings (by decide), fr.meas (by decide), fr.cur (by decide),
      fr.fmon (by decide), mode, curWaits_modeChange]
  refine ⟨fun h => ?_, fun _ h => ?_⟩
  · rw [view]
    exact h
  · rw [view, curWaits_modeChange]
    exact ⟨h.hold, h.last, nofun⟩

end Starts
end Sys2Proof.Machine

/-! ## The laws of the output limits: points and settings -/

namespace Sys2Proof.Machine

section Written

variable {s t : State}

/-! ### Points (R42, R44) -/

/-- The laws see nothing of the points but that they are not negative. -/
theorem keeps_of_points (k : SameBut [.meas, .notices, .draws] s t) (hw : curWaits t.notices = curWaits s.notices)
    (hp : ∀ j : Fin 6, 0 ≤ s.meas.channels[j].value → 0 ≤ t.meas.channels[j].value) : Keeps s t := by
  have view : limitView t = { limitView s with values := fun j => t.meas.channels[j].value } := by
    simp only [limitView, bearing, k.settings (by decide), k.cur (by decide), k.lnk (by decide), k.fmon (by decide), hw]
  refine ⟨fun h j => ?_, fun w _ h => ?_, hw⟩
  · obtain ⟨ok, le⟩ := h j
    rw [view]
    exact ⟨⟨ok.host, ok.fallback, hp j ok.point, ok.reference, ok.droop, ok.share, ok.limit⟩, le⟩
  · rw [view]
    exact ⟨h.hold, h.last, h.rests⟩

theorem writePoint_keeps (p : PointRef) (v : Int) (s : State) : Keeps s (writePoint p v s) := by
  have fr : SameBut [.meas] s (writePoint p v s) := writePoint_frame p v s
  refine keeps_of_points (fr.widen _ rfl) (by rw [fr.notices (by decide)]) fun j h => ?_
  unfold writePoint
  cases p with
  | feeder f => exact h
  | set g => exact h
  | channel k =>
    simp only [Fin.getElem_fin, Vector.getElem_set]
    split
    · exact le_max_left 0 _
    · exact h

theorem applyMeasure_keeps (l : List (PointRef × Int)) (s : State) : Keeps s (applyMeasure l s) :=
  (Keeps.foldl (fun t (x : PointRef × Int) => writePoint_keeps x.1 x.2 t) l (.refl s)).after (limitView_emitUpdate _ _)

theorem reclampChannel_points (j : Fin 6) (s : State) {k : Fin 6} (h : 0 ≤ s.meas.channels[k].value) :
    0 ≤ (reclampChannel j s).meas.channels[k].value := by
  have clamped (v : Int) (hv : 0 ≤ v) :
      0 ≤ (s.meas.channels.set j { s.meas.channels[j] with value := v })[k].value := by
    simp only [Fin.getElem_fin, Vector.getElem_set]
    split
    · exact hv
    · exact h
  unfold reclampChannel
  dsimp only
  repeat' split
  · exact clamped _ (by omega)
  · exact clamped _ (by omega)
  · exact h

theorem reclampChannel_waits (j : Fin 6) (s : State) : curWaits (reclampChannel j s).notices = curWaits s.notices := by
  unfold reclampChannel
  dsimp only
  repeat' split
  · rfl
  · exact congrArg LimitView.waits (limitView_emitUpdate (namesOf [.channel j]) _)
  · rfl

/-! ### Settings that the laws do not see -/

/-- Of the settings those of the channels alone are seen. -/
theorem limitView_of_settings {ps : List Part} (k : SameBut ps s t) (hp : ps.all (· ∈ Part.settings :: offCur) = true)
    (hc : t.settings.channels = s.settings.channels) : limitView t = limitView s := by
  have h : SameBut (Part.settings :: offCur) s t := k.widen _ hp
  simp only [limitView, bearing, hc, h.meas (by decide), h.cur (by decide), h.lnk (by decide), h.fmon (by decide),
    h.notices (by decide)]

variable (fr : Frame)

theorem limitView_configureFeeder (s : State) : limitView (configureFeeder fr s).state = limitView s := by
  unfold configureFeeder
  split
  · rfl
  next f _ =>
    have lined (t : FeederSettings) : limitView (feederLined f t s) = limitView s :=
      ((feederLined_frame f t s).limitView rfl).trans rfl
    have written (t : FeederSettings) : limitView (feederWritten f t s) = limitView s := by
      rw [feederWritten_eq]
      split
      · exact lined t
      · exact (limitView_feederServiceChange f _).trans (lined t)
    exact written _

theorem limitView_configureStages (s : State) : limitView (configureStages fr s).state = limitView s := by
  refine limitView_of_settings (configureStages_frame fr s) rfl ?_
  unfold configureStages
  split <;> rfl

theorem limitView_configureInput (s : State) : limitView (configureInput fr s).state = limitView s := by
  refine limitView_of_settings (configureInput_frame fr s) rfl ?_
  unfold configureInput
  split <;> rfl

theorem limitView_configurePlan (s : State) : limitView (configurePlan fr s).state = limitView s := by
  refine limitView_of_settings (configurePlan_frame fr s) rfl ?_
  unfold configurePlan
  repeat' split
  all_goals rfl

theorem limitView_configureDirectory (s : State) : limitView (configureDirectory fr s).state = limitView s := by
  refine limitView_of_settings (configureDirectory_frame fr s) rfl ?_
  unfold configureDirectory
  split <;> rfl

/-! ### CONFIGURE_SYSTEM and CONFIGURE_GENSET -/

theorem limitView_supervised (h : Lnk → Lnk) (e : ∀ n, (h n).mode = n.mode) (s : State) :
    limitView (modLnk h s) = limitView s := limitView_of_mode (modLnk_frame h s) rfl (e s.lnk)

theorem restoreSupervision_keeps (s : State) : Keeps s (restoreSupervision s) := by
  unfold restoreSupervision
  refine .ite (.refl s) (Keeps.trans (.of_view ?_) (curOnSupervision_keeps true _))
  rw [limitView_journal, limitView_setAdv]
  exact limitView_supervised (fun l => { l with supervised := true }) (fun _ => rfl) s

theorem supervisionStarted_keeps (s : State) :
    Keeps s (modLnk (fun n => { n with supTimer := supervisionStart s }) s) :=
  .of_view (limitView_supervised (fun n => { n with supTimer := supervisionStart s }) (fun _ => rfl) s)

theorem supervisionChanged_keeps (s : State) : Keeps s (supervisionChanged s) := by
  have started := supervisionStarted_keeps s
  exact .ite (started.trans (restoreSupervision_keeps _)) started

theorem superviseFrame_keeps (l : Link) (s : State) : Keeps s (superviseFrame l s) := by
  have started := supervisionStarted_keeps s
  cases l with
  | a => exact started.trans (restoreSupervision_keeps _)
  | b => exact .refl s

theorem supervisionExpires_keeps (s : State) : Keeps s (supervisionExpires s) := by
  unfold supervisionExpires
  split
  · refine Keeps.trans (.of_view ?_) (curOnSupervision_keeps false _)
    rw [limitView_journal, limitView_setAdv]
    exact limitView_supervised (fun l => { l with supervised := false, supTimer := .idle }) (fun _ => rfl) s
  · exact .refl s

theorem systemChanged_starts (old : Settings) (s : State) : Starts s (systemChanged old s) := by
  unfold systemChanged
  dsimp only
  have nominal := Starts.whenChanged (b := decide (old.sys.fNom ≠ s.settings.sys.fNom)) nominalTaken_starts (.refl s)
  generalize Machine.whenChanged (decide (old.sys.fNom ≠ s.settings.sys.fNom)) nominalTaken s = u at nominal ⊢
  have restyled : Starts s (linesRestyled old u) := nominal.after ((linesRestyled_frame old u).limitView rfl)
  exact .whenChanged (fun t => (supervisionChanged_keeps t).starts)
    (.whenChanged (fun t => (recomputeShares_keeps t).starts)
      (.whenChanged (fun t => .of_view (limitView_evalDispatch t))
        (.whenChanged (fun t => .of_view (limitView_pointsGoStale t)) restyled)))

theorem configureSystem_starts (s : State) : Starts s (configureSystem fr s).state := by
  unfold configureSystem
  split
  · exact .refl s
  · split
    · exact .refl s
    next t _ _ =>
      have taken : Starts s { s with settings := { s.settings with sys := t } } := .of_view rfl
      exact taken.trans (systemChanged_starts _ _)

theorem limitView_setRated (g : Fin 4) (x : SetSettings) (s : State) : limitView (setRated g x s) = limitView s := by
  unfold setRated
  rw [limitView_reclampSet, limitView_ite, limitView_modSet, ite_self]
  rfl

theorem setWritten_starts (g : Fin 4) (x : SetSettings) (s : State) : Starts s (setWritten g x s) := by
  have rated : Starts s (setRated g x s) := .of_view (limitView_setRated g x s)
  exact .whenChanged (fun t => (recomputeShares_keeps t).starts)
    (.whenChanged (fun t => .of_view (limitView_evalDispatch t))
      (.whenChanged (fun t => .of_view (limitView_setServiceChange g t)) rated))

theorem configureGenset_starts (s : State) : Starts s (configureGenset fr s).state := by
  unfold configureGenset
  repeat' split
  · exact .refl s
  · exact .refl s
  · exact setWritten_starts _ _ s
  · exact .refl s

/-! ### The settings of a channel (R140, R143, R155) -/

theorem ChannelsOk.congr (h : ChannelsOk s) (hs : t.settings = s.settings) (hm : t.meas = s.meas)
    (hc : t.cur.channels = s.cur.channels) : ChannelsOk t := fun j => by
  rw [hs, hm, hc]
  exact h j

theorem ChannelsOk.modChannel {j : Fin 6} {g : ChannelCtl → ChannelCtl} (h : ChannelsOk s)
    (hg : ChannelOk s.settings.channels[j] s.meas.channels[j] s.cur.channels[j] →
      ChannelOk s.settings.channels[j] s.meas.channels[j] (g s.cur.channels[j])) : ChannelsOk (modChannel j g s) := by
  intro k
  by_cases e : k = j
  · subst e
    rw [modChannel_self]
    exact hg (h k)
  · rw [modChannel_other g s e]
    exact h k

/-- Ceilings within the rating are written. -/
theorem ChannelsOk.writeChannel {j : Fin 6} {x : PvSettings} (h : ChannelsOk s) (hh : x.hostCeiling ≤ x.ratedKw)
    (hf : x.fallbackCeiling ≤ x.ratedKw) : ChannelsOk (writeChannel j x s) := by
  intro k
  obtain ⟨host, fallback, point, reference, droop, share, limit⟩ := h k
  refine ⟨?_, ?_, point, reference, droop, share, limit⟩
  all_goals
    simp only [Machine.writeChannel, Fin.getElem_fin, Vector.getElem_set]
    split
    · assumption
    · assumption

theorem PvSettings.clamped_ceilings (x : PvSettings) :
    x.clamped.hostCeiling ≤ x.clamped.ratedKw ∧ x.clamped.fallbackCeiling ≤ x.clamped.ratedKw :=
  ⟨min_le_left _ _, min_le_left _ _⟩

theorem writeChannel_self (j : Fin 6) (x : PvSettings) (s : State) :
    (writeChannel j x s).settings.channels[j] = x := by simp [writeChannel]

theorem ceilingWritten_keeps (j : Fin 6) (kw : Nat) (s : State) : Keeps s (ceilingWritten j kw s) := by
  have written : Prepared s (writeChannel j
      { s.settings.channels[j] with hostCeiling := min s.settings.channels[j].ratedKw kw } s) :=
    ⟨fun h => h.writeChannel (min_le_left _ _) (h j).fallback, fun _ => rfl, fun _ => rfl, rfl, rfl, rfl⟩
  have unlatched (t : State) : Prepared t (modChannel j (fun c => { c with latch := false }) t) := by
    have e : modChannel j (fun c => { c with latch := false }) t
        = mapChannels (fun k c => { c with latch := if k = j then false else c.latch }) t := by
      rw [modChannel_eq_mapChannels]
      exact mapChannels_congr fun k => by split <;> rfl
    rw [e]
    exact .of_map (fun _ ok => ⟨ok.host, ok.fallback, ok.point, ok.reference, ok.droop, ok.share, ok.limit⟩)
      (fun _ _ => rfl) fun _ _ => rfl
  unfold ceilingWritten
  dsimp only
  refine Prepared.ceilingsChanged (.ite (written.trans (unlatched _)) written) ?_
  split <;> rfl

theorem setPvCeiling_keeps (s : State) : Keeps s (setPvCeiling fr s).state := by
  unfold setPvCeiling
  split
  · exact .refl s
  · exact ceilingWritten_keeps _ _ s

theorem pvRated_ok {j : Fin 6} (h : ChannelsOk s) : ChannelsOk (pvRated j s) :=
  h.modChannel fun ok => by
    refine ⟨ok.host, ok.fallback, ok.point, fun r hr => ?_, ok.droop, ok.share, ok.limit⟩
    obtain ⟨r', hr', rfl⟩ := Option.map_eq_some_iff.mp hr
    have := ok.reference r' hr'
    omega

theorem pvServiced_ok {j : Fin 6} (was is : Bool) (h : ChannelsOk s) : ChannelsOk (pvServiced j was is s) := by
  unfold pvServiced
  split
  · refine (h.modChannel (j := j) (g := fun c => { c with reference := none, droopLimit := none, share := none })
      fun ok => ?_).modChannel fun ok => ?_
    · exact ⟨ok.host, ok.fallback, ok.point, nofun, nofun, nofun, ok.limit⟩
    · exact ⟨ok.host, ok.fallback, ok.point, ok.reference, ok.droop, ok.share, le_refl 0⟩
  · split
    · refine h.modChannel fun ok => ?_
      refine ⟨ok.host, ok.fallback, ok.point, fun r hr => ?_, ok.droop, ok.share, ok.limit⟩
      cases hr
      exact channelOutput_nonneg ok
    · exact h

theorem pvServiced_zeroHold (j : Fin 6) (was is : Bool) (s : State) :
    (pvServiced j was is s).cur.zeroHold = s.cur.zeroHold := by
  unfold pvServiced
  repeat' split
  all_goals rfl

/-- Every target has been recomputed, the constraints being in order: all channels are at rest. -/
theorem applyTargets_keeps_of_ok (ok : ChannelsOk s → ChannelsOk t) (bus : t.fmon.bus = s.fmon.bus)
    (hold : t.cur.zeroHold = s.cur.zeroHold) (waits : curWaits t.notices = curWaits s.notices) :
    Keeps s (applyTargets t) := by
  rw [applyTargets_eq]
  refine ⟨fun h => ?_, fun w h r => ?_, waits⟩
  · rw [fits_iff]
    intro j
    rw [mapChannels_channel]
    exact takenOf_fits (ok h.ok j) _
  · refine rests_of_channels (fun hw hd => hold.trans (r.hold hw (bus.symm.trans hd)))
      (fun b hb => (r.last b hb).trans bus.symm) fun _ j => ?_
    rw [mapChannels_channel]
    exact takenOf_rests (ok h.ok j) _ _

/-- CONFIGURE_PV up to the recomputation of the targets. -/
def pvComposed (j : Fin 6) (before s : State) : State :=
  newShares (pvServiced j before.settings.channels[j].inService s.settings.channels[j].inService (pvRated j s))

theorem pvComposed_ok {j : Fin 6} {before : State} (h : ChannelsOk s) : ChannelsOk (pvComposed j before s) :=
  (newShares_prepared _).ok (pvServiced_ok _ _ (pvRated_ok h))

theorem pvComposed_zeroHold (j : Fin 6) (before s : State) : (pvComposed j before s).cur.zeroHold = s.cur.zeroHold :=
  (newShares_zeroHold _).trans (pvServiced_zeroHold j _ _ (pvRated j s))

/-- The settings of a channel are written, and its point with them. -/
def pvWritten (j : Fin 6) (x : PvSettings) (s : State) : State := reclampChannel j (writeChannel j x s)

theorem pvWritten_ok {j : Fin 6} {x : PvSettings} (hh : x.hostCeiling ≤ x.ratedKw) (hf : x.fallbackCeiling ≤ x.ratedKw)
    (h : ChannelsOk s) : ChannelsOk (pvWritten j x s) := by
  have fr := reclampChannel_frame j (writeChannel j x s)
  intro k
  obtain ⟨host, fallback, point, reference, droop, share, limit⟩ := h.writeChannel (j := j) hh hf k
  unfold pvWritten
  rw [fr.settings (by decide), fr.cur (by decide)]
  exact ⟨host, fallback, reclampChannel_points j _ point, reference, droop, share, limit⟩

theorem pvWritten_frame (j : Fin 6) (x : PvSettings) (s : State) :
    SameBut [.settings, .meas, .notices, .draws] s (pvWritten j x s) :=
  ((writeChannel_frame j x s).widen _ rfl).trans ((reclampChannel_frame j _).widen _ rfl)

theorem pvWritten_settings (j : Fin 6) (x : PvSettings) (s : State) : (pvWritten j x s).settings.channels[j] = x := by
  rw [pvWritten, (reclampChannel_frame j _).settings (by decide), writeChannel_self]

/-- A channel that stays in service, or out of it, keeps limit and remainder up to the recomputation. -/
theorem pvComposed_prepared {j : Fin 6} {x : PvSettings} (hh : x.hostCeiling ≤ x.ratedKw)
    (hf : x.fallbackCeiling ≤ x.ratedKw) (same : x.inService = s.settings.channels[j].inService) :
    Prepared s (pvComposed j s (pvWritten j x s)) := by
  have fr := pvWritten_frame j x s
  have composed := pvServiced_frame j s.settings.channels[j].inService x.inService (pvWritten j x s)
  have shares := newShares_prepared
    (pvServiced j s.settings.channels[j].inService x.inService (pvRated j (pvWritten j x s)))
  have stays (k : Fin 6) : k ≠ j ∨ x.inService = true ∨ s.settings.channels[j].inService = false := by
    rw [← same]
    cases x.inService <;> simp
  have cur : (pvWritten j x s).cur = s.cur := fr.cur (by decide)
  have ok := pvComposed_ok (s := pvWritten j x s) (j := j) (before := s)
  unfold pvComposed at ok ⊢
  rw [pvWritten_settings] at ok ⊢
  refine ⟨fun h => ok (pvWritten_ok hh hf h), fun k => ?_, fun k => ?_, ?_, ?_, ?_⟩
  · obtain ⟨limit, -⟩ := pvServiced_limit (s := pvWritten j x s) (stays k)
    rw [shares.limit, limit, cur]
  · obtain ⟨-, remainder⟩ := pvServiced_limit (s := pvWritten j x s) (stays k)
    rw [shares.remainder, remainder, cur]
  · rw [composed.lnk (by decide), fr.lnk (by decide)]
  · rw [composed.fmon (by decide), fr.fmon (by decide)]
  · rw [composed.notices (by decide)]
    exact reclampChannel_waits j _

theorem pvConfigured_keeps {j : Fin 6} {x : PvSettings} (hh : x.hostCeiling ≤ x.ratedKw)
    (hf : x.fallbackCeiling ≤ x.ratedKw) : Keeps s (pvConfigured j s (pvWritten j x s)) := by
  have e : pvConfigured j s (pvWritten j x s) =
      if ceilingSettingsMoved s.settings.channels[j] x then applyTargets (pvComposed j s (pvWritten j x s))
      else retarget s (pvComposed j s (pvWritten j x s)) := by
    unfold pvComposed
    rw [pvConfigured_eq, pvWritten_settings]
  have fr := pvWritten_frame j x s
  have composed : SameBut [.cur] (pvWritten j x s) (pvComposed j s (pvWritten j x s)) := pvServiced_frame j _ _ _
  have hold : (pvComposed j s (pvWritten j x s)).cur.zeroHold = s.cur.zeroHold := by
    rw [pvComposed_zeroHold, fr.cur (by decide)]
  rw [e]
  split
  next =>
    refine applyTargets_keeps_of_ok (fun h => pvComposed_ok (pvWritten_ok hh hf h)) ?_ hold ?_
    · rw [composed.fmon (by decide), fr.fmon (by decide)]
    · rw [composed.notices (by decide)]
      exact reclampChannel_waits j _
  next still =>
    have same : x.inService = s.settings.channels[j].inService := by
      by_contra moved
      exact still ((ceilingSettingsMoved_iff _ _).mpr (.inl (Ne.symm moved)))
    exact (pvComposed_prepared hh hf same).retarget hold

theorem configurePv_keeps (s : State) : Keeps s (configurePv fr s).state := by
  unfold configurePv
  split
  · exact .refl s
  · obtain ⟨host, fallback⟩ := (PvSettings.ofBytes (fr.payload.drop 1)).clamped_ceilings
    exact pvConfigured_keeps host fallback

end Written
end Sys2Proof.Machine

/-! ## The laws of the output limits: commands and steps -/

namespace Sys2Proof.Machine

/-- What holds of the laws of the output limits at `s` holds of them at `t`. -/
structure KeepsLimitLaws (s t : State) : Prop where
  fits : Fits (limitView s) → Fits (limitView t)
  rests : Fits (limitView s) → s.notices = [] → Rests ⟨[], false⟩ (limitView s) →
    t.notices = [] ∧ Rests ⟨[], false⟩ (limitView t)

section Commands

variable {s t u : State}

theorem KeepsLimitLaws.refl (s : State) : KeepsLimitLaws s s := ⟨id, fun _ hn h => ⟨hn, h⟩⟩

theorem KeepsLimitLaws.ite {c : Prop} [Decidable c] (ht : KeepsLimitLaws s t) (hu : KeepsLimitLaws s u) :
    KeepsLimitLaws s (if c then t else u) := by
  split
  · exact ht
  · exact hu

/-- What follows unseen, with the notices as they are, keeps the laws too. -/
theorem KeepsLimitLaws.after (h : KeepsLimitLaws s t) (k : limitView u = limitView t) (hn : u.notices = t.notices) :
    KeepsLimitLaws s u := by
  obtain ⟨fits, rests⟩ := h
  rw [← k] at fits rests
  rw [← hn] at rests
  exact ⟨fits, rests⟩

/-- The end of an event keeps the laws when its own block does. -/
theorem Starts.concluded (h : Starts s u) : KeepsLimitLaws s (conclude u) := by
  refine ⟨fun hs => conclude_fits (h.fits hs), fun hs hn hr => ⟨conclude_notices u, ?_⟩⟩
  refine conclude_rests (h.fits hs) (h.rests hs ?_)
  rw [hn]
  exact hr

theorem event_keepsLimit {act : State → State} (h : Starts s (act s)) : KeepsLimitLaws s (event act s) := by
  unfold event
  split
  · exact .refl s
  · exact h.concluded

theorem event_unseenLimit {act : State → State} (k : limitView (act s) = limitView s) :
    KeepsLimitLaws s (event act s) :=
  event_keepsLimit (.of_view k)

/-! ### Frames and requests (R179 to R183) -/

theorem answer_limit (kind : Byte) (f : Frame) (a : Answer) :
    limitView (answer kind f a) = limitView (conclude a.state)
      ∧ (answer kind f a).notices = (conclude a.state).notices := by
  unfold answer
  dsimp only
  split
  · exact ⟨rfl, rfl⟩
  · exact ⟨limitView_modLink _ _ _, modLink_notices _ _ _⟩

/-- A frame keeps the laws when the block that performs its request does. -/
theorem takeFrame_keepsLimit {kind : Byte} {f : Frame} {check : State → Option Status} {perform : State → Answer}
    (k : ∀ t, Starts t (perform t).state) : KeepsLimitLaws s (takeFrame kind f check perform s) := by
  have noted : Starts s (superviseFrame f.link s) := (superviseFrame_keeps f.link s).starts
  have answered {a : Answer} (h : Starts s a.state) : KeepsLimitLaws s (answer kind f a) := by
    obtain ⟨view, notices⟩ := answer_limit kind f a
    exact h.concluded.after view notices
  unfold takeFrame
  dsimp only
  repeat' split
  · exact .refl s
  · exact noted.concluded
  · exact (noted.after (limitView_setLinkError _ _ _)).concluded
  · exact answered noted
  · exact answered (noted.trans (k _))
  · exact .refl s

theorem takeFrame_unseenLimit {kind : Byte} {f : Frame} {check : State → Option Status} {perform : State → Answer}
    (k : ∀ t, limitView (perform t).state = limitView t) : KeepsLimitLaws s (takeFrame kind f check perform s) :=
  takeFrame_keepsLimit fun t => .of_view (k t)

theorem takeFrame_offLimit {kind : Byte} {f : Frame} {check : State → Option Status} {perform : State → Answer}
    {ps : List Part} (k : ∀ t, SameBut ps t (perform t).state) (hp : ps.all (· ∈ offCur) = true) :
    KeepsLimitLaws s (takeFrame kind f check perform s) :=
  takeFrame_unseenLimit fun t => (k t).limitView hp

/-- A BLACKSTART request keeps the laws when the rule of its code does (Table 10-5). -/
theorem blackstart_keepsLimit (fr : Frame) (s : State) (code : Nat) {act : State → Answer}
    (k : ∀ t, Keeps t (act t).state) : KeepsLimitLaws s (blackstart code fr act s) := by
  unfold blackstart request
  refine takeFrame_keepsLimit fun t => ?_
  split
  · exact (k t).starts
  · exact .refl t

variable (fr : Frame)

theorem blkBegin_keeps (s : State) : Keeps s (blkBegin s).state := by
  unfold blkBegin
  split
  · exact beginRun_keeps (.refl s) .begin
  · exact .refl s

theorem blkHold_keeps (s : State) : Keeps s (blkHold s).state := by
  have manual : Keeps s (modRun (fun r => { r with holdManual := true }) s) := .of_view rfl
  unfold blkHold
  split
  · exact enterHeld_keeps manual 2
  · exact manual
  · exact .refl s

theorem blkResume_keeps (s : State) : Keeps s (blkResume s).state := by
  have cleared : Keeps s (modRun (fun r => { r with holdManual := false }) s) := .of_view rfl
  unfold blkResume
  split
  · exact .ite cleared (resumeRun_keeps cleared)
  · exact .refl s

theorem blkAbort_keeps (s : State) : Keeps s (blkAbort s).state := by
  unfold blkAbort
  split
  · exact attemptFail_keeps (.refl s) 5
  · exact .refl s

theorem blkAck_keeps (s : State) : Keeps s (blkAck s).state := by
  unfold blkAck
  split
  · exact (blkToIdle_keeps (.refl s)).after (limitView_journal _ _ _ _)
  · exact .refl s

theorem limitView_startGenset (s : State) : limitView (startGenset fr s).state = limitView s := by
  unfold startGenset
  split
  · rfl
  next g _ =>
    have started := limitView_startSet g .host s
    split
    next e =>
      rw [e] at started
      exact started
    next => rfl

theorem limitView_stopGenset (s : State) : limitView (stopGenset fr s).state = limitView s := by
  unfold stopGenset
  split
  · rfl
  · split
    · exact limitView_stopSet _ _ _ s
    · rfl

theorem limitView_resetLockoutRequest (s : State) : limitView (resetLockoutRequest fr s).state = limitView s := by
  unfold resetLockoutRequest
  split
  · rfl
  · split
    · exact limitView_resetLockout _ s
    · rfl

theorem setMode_starts (s : State) : Starts s (setMode fr s).state := by
  unfold setMode
  split
  · exact .refl s
  · exact .ite (.refl s) (modeChange_starts _ _ s)

theorem limitView_operateFeeder (s : State) : limitView (operateFeeder fr s).state = limitView s := by
  unfold operateFeeder
  split
  · split
    · rfl
    · split
      next => rfl
      next e => exact limitView_of_operate e
  · rfl

theorem limitView_shed (s : State) : limitView (shed fr s).state = limitView s := by
  unfold shed
  split
  · rfl
  · dsimp only
    split
    · rfl
    · exact limitView_manualShed _ _ _

theorem limitView_onEntry {act : Nat → Entry → Answer} (k : ∀ pos e, limitView (act pos e).state = limitView s) :
    limitView (onEntry fr s act).state = limitView s := by
  unfold onEntry
  dsimp only
  split
  · rfl
  · rfl
  · rfl
  · split
    · rfl
    · exact k _ _

theorem limitView_restoreEntry (s : State) : limitView (restoreEntry fr s).state = limitView s := by
  refine limitView_onEntry fr fun pos e => ?_
  repeat' split
  · rfl
  · rfl
  · rfl
  · simp [reply]

theorem limitView_holdEntry (s : State) : limitView (holdEntry fr s).state = limitView s := by
  refine limitView_onEntry fr fun pos e => ?_
  split
  · rfl
  · simp [reply, heldAt]

theorem limitView_releaseEntry (s : State) : limitView (releaseEntry fr s).state = limitView s := by
  refine limitView_onEntry fr fun pos e => ?_
  split
  · simp [reply]
  · rfl

theorem limitView_discardEntry (s : State) : limitView (discardEntry fr s).state = limitView s :=
  limitView_onEntry fr fun pos e => by simp [reply, removeEntry]

theorem measure_keeps (s : State) : Keeps s (measure fr s).state := by
  unfold measure
  split
  · exact .refl s
  · exact applyMeasure_keeps _ s

theorem limitView_clearLinkErrors (s : State) : limitView (clearLinkErrors fr s).state = limitView s := by
  unfold clearLinkErrors
  dsimp only
  split
  · rfl
  · simp [reply]

theorem limitView_storeSettings (s : State) : limitView (storeSettings fr s).state = limitView s :=
  (limitView_modLink _ _ _).trans rfl

/-! ### Debounced changes (R31, R34) -/

theorem limitView_deliverInput (i : Fin 32) (level : Bool) (s : State) :
    limitView (deliverInput i level s) = limitView s := by
  unfold deliverInput
  dsimp only
  repeat' split
  · exact limitView_feederStatusChange _ level s
  · exact limitView_readyChange _ _ s
  · exact limitView_runningChange _ _ s
  · exact limitView_breakerChange _ _ s
  · exact limitView_locationChange level s
  · rfl

theorem limitView_debouncedTo (i : Fin 32) (level : Bool) (s : State) :
    limitView (debouncedTo i level s) = limitView s := by
  unfold debouncedTo
  split
  · rfl
  · exact (limitView_deliverInput i level _).trans rfl

/-! ### Resets (R155, R198, R200) -/

/-- The ceilings of the settings are within the ratings. -/
def CeilingsOk (x : Settings) : Prop :=
  ∀ j : Fin 6, x.channels[j].hostCeiling ≤ x.channels[j].ratedKw ∧ x.channels[j].fallbackCeiling ≤ x.channels[j].ratedKw

/-- With the bus DEAD, the zero hold standing, and points and limits at 0, the laws stand. -/
theorem keepsLimit_of_fresh (s : State) (hs : Fits (limitView s) → CeilingsOk t.settings)
    (hc : ∀ j : Fin 6, ∃ p, t.cur.channels[j] = { pwm := p }) (hm : ∀ j : Fin 6, t.meas.channels[j].value = 0)
    (hz : t.cur.zeroHold = true) (hb : t.fmon.bus = .dead) (hn : t.notices = []) : KeepsLimitLaws s t := by
  refine ⟨fun h => (fits_iff t).mpr fun j => ?_, fun _ _ _ =>
    ⟨hn, rests_of_channels (fun _ _ => hz) nofun fun _ j => ?_⟩⟩
  · obtain ⟨p, e⟩ := hc j
    obtain ⟨host, fallback⟩ := hs h j
    rw [e]
    exact ⟨⟨host, fallback, (hm j).ge, nofun, nofun, nofun, le_refl 0⟩, ceilingOf_nonneg _ _ _⟩
  · obtain ⟨p, e⟩ := hc j
    rw [e]
    exact ⟨fun _ _ => rfl, fun _ => rfl, fun _ _ => (if_pos hb).symm⟩

/-- The blocks have initialised, and EVR has reported since. -/
theorem keepsLimit_of_initialise (s : State) {kind : ResetKind} {mode : Mode} {z t : State}
    (hs : Fits (limitView s) → CeilingsOk z.settings) (k : SameBut [.evr] (initialise kind mode z) t) :
    KeepsLimitLaws s t := by
  have fr := initialise_frame kind mode z
  obtain ⟨-, -, notices⟩ := initialise_empty z kind mode
  have settings : t.settings = z.settings := (k.settings (by decide)).trans (fr.settings (by decide))
  have cur : t.cur = (blocksReset kind mode z).cur := (k.cur (by decide)).trans (fr.cur (by decide))
  have meas : t.meas = {} := (k.meas (by decide)).trans (fr.meas (by decide))
  have fmon : t.fmon = {} := (k.fmon (by decide)).trans (initialise_fmon kind mode z)
  refine keepsLimit_of_fresh s (fun h => settings ▸ hs h) (fun j => ?_) (fun j => ?_) (by rw [cur]; rfl) (by rw [fmon])
    (by rw [k.notices (by decide), notices])
  · rw [cur, blocksReset_channel]
    exact ⟨_, rfl⟩
  · rw [meas]
    exact congrArg Point.value (Vector.getElem_replicate _)

theorem powerOn_keepsLimit (s : State) : KeepsLimitLaws s (powerOn s) := by
  refine keepsLimit_of_fresh s (fun _ j => ?_) (fun j => ?_) (fun j => ?_) rfl rfl rfl
  · have e : (powerOn s).settings.channels[j] = {} := Vector.getElem_replicate _
    rw [e]
    decide
  · exact ⟨_, Vector.getElem_replicate _⟩
  · exact congrArg Point.value (Vector.getElem_replicate _)

theorem Fits.ceilings (h : Fits (limitView s)) : CeilingsOk s.settings := fun j => ⟨(h.ok j).host, (h.ok j).fallback⟩

theorem softReset_keepsLimit (s : State) : KeepsLimitLaws s (softReset s) :=
  keepsLimit_of_initialise s Fits.ceilings (driveAlerts_frame _)

/-! ### An accepted image holds clamped settings (R197, R198) -/

theorem takeObjects_all {α : Type} {P : α → Prop} {group : Byte} {size : Nat} {read : List Byte → Option α}
    (hr : ∀ b x, read b = some x → P x) :
    ∀ (n k : Nat) (bs : List Byte) {l : List α} {rest : List Byte},
      takeObjects group size read n k bs = some (l, rest) → ∀ x ∈ l, P x
  | 0, _, _, _, _, h => by
    cases h
    simp
  | n + 1, k, bs, l, rest, h => by
    unfold takeObjects at h
    split at h
    · split at h
      · split at h
        next x l' rest' hx hl =>
          cases h
          exact List.forall_mem_cons.mpr ⟨hr _ x hx, takeObjects_all hr n (k + 1) _ hl⟩
        next => cases h
      · cases h
    · cases h

theorem vectorOf_all {α : Type} {P : α → Prop} {n : Nat} {l : List α} {v : Vector α n} (h : vectorOf n l = some v)
    (hl : ∀ x ∈ l, P x) (i : Fin n) : P v[i] := by
  unfold vectorOf at h
  split at h
  · cases h
    exact hl _ (by simp)
  · cases h

theorem settingsOfRecords_ceilings {bs : List Byte} {x : Settings} (h : settingsOfRecords bs = some x) :
    CeilingsOk x := by
  unfold settingsOfRecords at h
  iterate 5 obtain ⟨_, -, h⟩ := Option.bind_eq_some_iff.mp h
  obtain ⟨_, taken, h⟩ := Option.bind_eq_some_iff.mp h
  iterate 6 obtain ⟨_, -, h⟩ := Option.bind_eq_some_iff.mp h
  obtain ⟨v, hv, h⟩ := Option.bind_eq_some_iff.mp h
  iterate 2 obtain ⟨_, -, h⟩ := Option.bind_eq_some_iff.mp h
  have all := takeObjects_all (P := fun x : PvSettings => x.hostCeiling ≤ x.ratedKw ∧ x.fallbackCeiling ≤ x.ratedKw)
    (fun b x e => by
      cases e
      exact (PvSettings.ofBytes b).clamped_ceilings) 6 0 _ taken
  split at h
  · cases h
    exact vectorOf_all hv all
  · cases h

theorem loadImage_ceilings {image : List Byte} {x : Settings} (h : loadImage image = .inl x) : CeilingsOk x := by
  unfold loadImage at h
  split at h
  · cases h
  · dsimp only at h
    split at h
    · cases h
    · split at h
      · cases h
      · split at h
        next e =>
          cases h
          exact settingsOfRecords_ceilings e
        next => cases h

theorem loadEnds_keepsLimit (s : State) (image : List Byte) : KeepsLimitLaws s (loadEnds image s) := by
  cases h : loadImage image with
  | inl x =>
    rw [loadEnds_accepted h]
    exact keepsLimit_of_initialise s (fun _ => loadImage_ceilings h) (driveAlerts_frame _)
  | inr reason =>
    rw [loadEnds_rejected h]
    refine keepsLimit_of_initialise s (fun _ j => ?_) ((reportDefaulted_frame _ _).trans (driveAlerts_frame _))
    have e : ({} : Settings).channels[j] = {} := Vector.getElem_replicate _
    unfold loadTaken
    rw [e]
    decide

end Commands

/-! ### A step -/

section Step

variable {s : State}

/-- The events of the blocks, and frames of unknown kinds. -/
theorem exec_event_keepsLimit {c : Instr} (hc : requestOf c = none) (hp : c ≠ .powerOnReset) (hs : c ≠ .softReset)
    (hl : ∀ image, c = .settingsLoadEnd image → s.phase = .running) :
    ∃ t, exec c s = .next t ∧ KeepsLimitLaws s t := by
  have r : Keeps s s := .refl s
  cases c with
  | powerOnReset => exact absurd rfl hp
  | softReset => exact absurd rfl hs
  | settingsLoadEnd image => exact ⟨s, next_congr (by simp only [hl image rfl]), .refl s⟩
  | debouncedChange i level => exact ⟨_, rfl, event_unseenLimit (limitView_debouncedTo i level s)⟩
  | crankOnTimeExpiry g => exact ⟨_, rfl, event_unseenLimit (limitView_crankOnTimeExpires g s)⟩
  | crankRestExpiry g => exact ⟨_, rfl, event_unseenLimit (limitView_crankRestExpires g s)⟩
  | runUpExpiry g => exact ⟨_, rfl, event_unseenLimit (limitView_runUpExpires g s)⟩
  | syncTimeout g => exact ⟨_, rfl, event_unseenLimit (limitView_syncTimesOut g s)⟩
  | unloadTimeout g => exact ⟨_, rfl, event_unseenLimit (limitView_unloadTimesOut g s)⟩
  | cooldownExpiry g => exact ⟨_, rfl, event_unseenLimit (limitView_cooldownExpires g s)⟩
  | lowReserveTimerExpiry => exact ⟨_, rfl, event_unseenLimit (limitView_lowReserveExpires s)⟩
  | stopTimerExpiry => exact ⟨_, rfl, event_unseenLimit (limitView_stopTimerExpires s)⟩
  | startDelayTimerExpiry => exact ⟨_, rfl, event_unseenLimit (limitView_startDelayExpires s)⟩
  | confirmationTimerExpiry => exact ⟨_, rfl, event_keepsLimit (confirmExpires_keeps r).starts⟩
  | stepTimerExpiry => exact ⟨_, rfl, event_keepsLimit (stepTimerExpires_keeps r).starts⟩
  | waitTimerExpiry => exact ⟨_, rfl, event_keepsLimit (waitTimerExpires_keeps r).starts⟩
  | operateTimerExpiry f => exact ⟨_, rfl, event_unseenLimit (limitView_operateTimerExpires f s)⟩
  | restoreDelayExpiry => exact ⟨_, rfl, event_unseenLimit (limitView_restoreDelayExpires s)⟩
  | intervalTimerExpiry => exact ⟨_, rfl, event_unseenLimit (limitView_intervalExpires s)⟩
  | crossing => exact ⟨_, rfl, event_keepsLimit (crossingArrives_starts s)⟩
  | deadBusTimerExpiry => exact ⟨_, rfl, event_keepsLimit (deadBusExpires_starts s)⟩
  | pointsBecomeStale => exact ⟨_, rfl, event_unseenLimit (limitView_staleTick s)⟩
  | runtimeTenthHour g =>
    exact ⟨_, rfl, event_unseenLimit (limitView_modSet g (fun c => { c with partHour := 0 }) s)⟩
  | replyTransmitted l => exact ⟨_, rfl, event_unseenLimit (limitView_replyDone l s)⟩
  | supervisionTimerExpiry => exact ⟨_, rfl, event_keepsLimit (supervisionExpires_keeps s).starts⟩
  | lengthError l => exact ⟨_, rfl, event_unseenLimit (limitView_discardFrame .length l s)⟩
  | checkError l => exact ⟨_, rfl, event_unseenLimit (limitView_discardFrame .check l s)⟩
  | gapError l => exact ⟨_, rfl, event_unseenLimit (limitView_discardFrame .gap l s)⟩
  | storeWriteEnd readBack => exact ⟨_, rfl, event_unseenLimit (limitView_storeEnds readBack s)⟩
  | pulseEnd f => exact ⟨_, rfl, event_unseenLimit ((pulseEnds_frame f s).limitView rfl)⟩
  | holdoffTimerExpiry => exact ⟨_, rfl, event_unseenLimit ((holdoffExpires_frame s).limitView rfl)⟩
  | creditItemExpiry f => exact ⟨_, rfl, event_unseenLimit ((creditExpires_frame f s).limitView rfl)⟩
  | rampTick => exact ⟨_, rfl, event_keepsLimit (rampTickStep_keeps s).starts⟩
  | pwmPeriodStart j => exact ⟨_, rfl, event_unseenLimit (limitView_pwmStart j s)⟩
  | pwmActiveLevelEnd j => exact ⟨_, rfl, event_unseenLimit (limitView_pwmActiveEnds j s)⟩
  | unknownKind kind f => exact ⟨_, rfl, takeFrame_unseenLimit fun _ => rfl⟩
  | _ => exact absurd hc (by simp [requestOf])

/-- The commands that concern a reset. -/
theorem exec_reset_keepsLimit {c : Instr}
    (hc : c = .powerOnReset ∨ c = .softReset ∨ ∃ image, c = .settingsLoadEnd image ∧ s.phase = .loading) :
    ∃ t, exec c s = .next t ∧ KeepsLimitLaws s t := by
  rcases hc with rfl | rfl | ⟨image, rfl, loading⟩
  · exact ⟨_, rfl, powerOn_keepsLimit s⟩
  · refine ⟨_, rfl, ?_⟩
    split
    · exact .refl s
    · exact .ite (softReset_keepsLimit s) (.refl s)
  · exact ⟨_, exec_settingsLoadEnd _ loading, loadEnds_keepsLimit s image⟩

/-- The queries, those with side effects, and MEASURE. -/
theorem exec_query_keepsLimit {c : Instr} {kind : Byte} {f : Frame} {ok : Bool}
    (hc : requestOf c = some (kind, .either, f, ok)) : ∃ t, exec c s = .next t ∧ KeepsLimitLaws s t := by
  have plain {kind : Byte} {f : Frame} {body : State → List Byte} : KeepsLimitLaws s (plainQuery kind f body s) :=
    takeFrame_unseenLimit fun _ => rfl
  cases c with
  | identify f => exact ⟨_, rfl, plain⟩
  | getStatus f => exact ⟨_, rfl, plain⟩
  | readFrequency f => exact ⟨_, rfl, plain⟩
  | readPv f => exact ⟨_, rfl, plain⟩
  | readStack f => exact ⟨_, rfl, plain⟩
  | readEvents f => exact ⟨_, rfl, plain⟩
  | peekInputs f => exact ⟨_, rfl, plain⟩
  | readFeeders f => exact ⟨_, rfl, takeFrame_unseenLimit fun t => by rw [readFeeders_state]⟩
  | readGensets f => exact ⟨_, rfl, takeFrame_unseenLimit fun t => by rw [readGensets_state]⟩
  | readConfig f => exact ⟨_, rfl, takeFrame_unseenLimit fun t => by rw [readConfig_state]⟩
  | readJournal f => exact ⟨_, rfl, takeFrame_offLimit (readJournal_frame f) rfl⟩
  | readInputs f => exact ⟨_, rfl, takeFrame_offLimit inputsRead_frame rfl⟩
  | collectMarks f => exact ⟨_, rfl, takeFrame_unseenLimit fun _ => rfl⟩
  | measure f => exact ⟨_, rfl, takeFrame_keepsLimit fun t => (measure_keeps f t).starts⟩
  | _ => exact absurd hc (by simp [requestOf])

/-- The operating requests. -/
theorem exec_operate_keepsLimit {c : Instr} {kind : Byte} {f : Frame} {ok : Bool}
    (hc : requestOf c = some (kind, .operate, f, ok)) : ∃ t, exec c s = .next t ∧ KeepsLimitLaws s t := by
  cases c with
  | startGenset f => exact ⟨_, rfl, takeFrame_unseenLimit (limitView_startGenset f)⟩
  | stopGenset f => exact ⟨_, rfl, takeFrame_unseenLimit (limitView_stopGenset f)⟩
  | resetLockout f => exact ⟨_, rfl, takeFrame_unseenLimit (limitView_resetLockoutRequest f)⟩
  | setMode f => exact ⟨_, rfl, takeFrame_keepsLimit (setMode_starts f)⟩
  | blackstartBegin f => exact ⟨_, rfl, blackstart_keepsLimit f s 0 blkBegin_keeps⟩
  | blackstartHold f => exact ⟨_, rfl, blackstart_keepsLimit f s 1 blkHold_keeps⟩
  | blackstartResume f => exact ⟨_, rfl, blackstart_keepsLimit f s 2 blkResume_keeps⟩
  | blackstartAbort f => exact ⟨_, rfl, blackstart_keepsLimit f s 3 blkAbort_keeps⟩
  | blackstartAck f => exact ⟨_, rfl, blackstart_keepsLimit f s 4 blkAck_keeps⟩
  | operateFeeder f => exact ⟨_, rfl, takeFrame_unseenLimit (limitView_operateFeeder f)⟩
  | shed f => exact ⟨_, rfl, takeFrame_unseenLimit (limitView_shed f)⟩
  | restoreEntry f => exact ⟨_, rfl, takeFrame_unseenLimit (limitView_restoreEntry f)⟩
  | holdEntry f => exact ⟨_, rfl, takeFrame_unseenLimit (limitView_holdEntry f)⟩
  | releaseEntry f => exact ⟨_, rfl, takeFrame_unseenLimit (limitView_releaseEntry f)⟩
  | discardEntry f => exact ⟨_, rfl, takeFrame_unseenLimit (limitView_discardEntry f)⟩
  | setPvCeiling f => exact ⟨_, rfl, takeFrame_keepsLimit fun t => (setPvCeiling_keeps f t).starts⟩
  | clearEvents f => exact ⟨_, rfl, takeFrame_offLimit (clearEvents_frame f) rfl⟩
  | setEventMask f => exact ⟨_, rfl, takeFrame_offLimit (setEventMask_frame f) rfl⟩
  | clearLinkErrors f => exact ⟨_, rfl, takeFrame_unseenLimit (limitView_clearLinkErrors f)⟩
  | reset f => exact ⟨_, rfl, takeFrame_unseenLimit fun _ => rfl⟩
  | _ => exact absurd hc (by simp [requestOf])

/-- The configuring requests. -/
theorem exec_configure_keepsLimit {c : Instr} {kind : Byte} {f : Frame} {ok : Bool}
    (hc : requestOf c = some (kind, .configure, f, ok)) : ∃ t, exec c s = .next t ∧ KeepsLimitLaws s t := by
  cases c with
  | configureGenset f => exact ⟨_, rfl, takeFrame_keepsLimit (configureGenset_starts f)⟩
  | configureFeeder f => exact ⟨_, rfl, takeFrame_unseenLimit (limitView_configureFeeder f)⟩
  | configureSystem f => exact ⟨_, rfl, takeFrame_keepsLimit (configureSystem_starts f)⟩
  | configurePv f => exact ⟨_, rfl, takeFrame_keepsLimit fun t => (configurePv_keeps f t).starts⟩
  | configureStages f => exact ⟨_, rfl, takeFrame_unseenLimit (limitView_configureStages f)⟩
  | configureInput f => exact ⟨_, rfl, takeFrame_unseenLimit (limitView_configureInput f)⟩
  | configurePlan f => exact ⟨_, rfl, takeFrame_unseenLimit (limitView_configurePlan f)⟩
  | configureDirectory f => exact ⟨_, rfl, takeFrame_unseenLimit (limitView_configureDirectory f)⟩
  | storeSettings f => exact ⟨_, rfl, takeFrame_unseenLimit (limitView_storeSettings f)⟩
  | _ => exact absurd hc (by simp [requestOf])

theorem exec_keepsLimit (c : Instr) (s : State) : ∃ t, exec c s = .next t ∧ KeepsLimitLaws s t := by
  cases hc : requestOf c with
  | none =>
    by_cases hr : c = .powerOnReset ∨ c = .softReset ∨ ∃ image, c = .settingsLoadEnd image ∧ s.phase = .loading
    · exact exec_reset_keepsLimit hr
    · obtain ⟨hp, hs, hl⟩ : c ≠ .powerOnReset ∧ c ≠ .softReset
          ∧ ∀ image, c = .settingsLoadEnd image → s.phase ≠ .loading := by
        simpa [not_or] using hr
      exact exec_event_keepsLimit hc hp hs fun image h => by
        cases hph : s.phase with
        | loading => exact absurd hph (hl image h)
        | running => rfl
  | some r =>
    obtain ⟨kind, group, f, ok⟩ := r
    cases group with
    | either => exact exec_query_keepsLimit hc
    | operate => exact exec_operate_keepsLimit hc
    | configure => exact exec_configure_keepsLimit hc

theorem limitView_countsTick (s : State) : limitView (countsTick s) = limitView s := by
  have view : limitView (countsTick s) = { limitView s with channels := (limitView (countsTick s)).channels } := rfl
  have channels : (limitView (countsTick s)).channels = (limitView s).channels := funext fun j => by
    simp only [limitView, countsTick_channel]
    split <;> rfl
  rw [view, channels]

theorem limitView_tableTick (s : State) : limitView (tableTick s) = limitView s := by
  unfold tableTick
  split
  · exact limitView_agePoints s
  · rfl

theorem limitView_blocksTick (s : State) : limitView (blocksTick s) = limitView s := by
  have view : limitView (blocksTick s) = { limitView s with values := (limitView (tableTick s)).values } := by
    rw [blocksTick_eq]
    rfl
  rw [view, limitView_tableTick]

/-- A tick of the reference moves the generators' periods, the ages of the points and the timers alone. -/
theorem limitView_referenceTick (s : State) :
    limitView (referenceTick s) = limitView s ∧ (referenceTick s).notices = s.notices := by
  have begun : limitView (millisecondBegun s) = limitView s := limitView_countsTick s
  rcases referenceTick_cases s with e | e | e <;> rw [e]
  · exact ⟨limitView_countsTick s, rfl⟩
  · exact ⟨begun, rfl⟩
  · refine ⟨(limitView_blocksTick _).trans begun, ?_⟩
    rw [blocksTick_eq]
    rfl

theorem idle_keepsLimit (s : State) : KeepsLimitLaws s (idle s) := by
  have r := KeepsLimitLaws.refl s
  unfold idle
  dsimp only
  split
  · obtain ⟨view, notices⟩ := limitView_referenceTick s
    exact r.after view notices
  · exact r.after rfl rfl
  · exact r.after rfl rfl
  next l _ =>
    exact r.after ((limitView_drawn _).trans (limitView_takeByte l s)) ((takeByte_frame l s).notices (by decide))

theorem step_keepsLimit {t : State} (h : step s = .next t) : KeepsLimitLaws s t := by
  unfold step at h
  split at h
  next c rest _ =>
    obtain ⟨u, hu, fits, rests⟩ := exec_keepsLimit c { s with pending := rest }
    rw [hu] at h
    cases h
    exact ⟨fits, rests⟩
  next =>
    cases h
    exact idle_keepsLimit s

end Step

/-- Settles O15: the laws are kept by every operation of CUR as targets are recomputed where their constraints change;
what FMON and LNK report of bus and mode waits as a notice to CUR, with whose delivery the channels come to rest. -/
theorem everyStepKeepsTheLimitLaw : Obligations.EveryStepKeepsTheLimitLaw := by
  refine ⟨fun s t h hstep => ?_, fun s t h hd hstep => ?_⟩
  · rw [limitLaw_iff_fits] at h ⊢
    exact (step_keepsLimit hstep).fits h
  · rw [limitLaw_iff_fits] at h
    obtain ⟨hn, rests⟩ := (deadLimitLaw_iff_rests s).mp hd
    exact (deadLimitLaw_iff_rests t).mpr ((step_keepsLimit hstep).rests h hn rests)

end Sys2Proof.Machine

/-! ## The ramp and the generators (R151, R154) -/

namespace Sys2Proof.Machine

section Ramp

variable {s : State} {j : Fin 6} {b : Bearing} {t : PvSettings} {c : ChannelCtl}

theorem rampTickStep_monitor (h : s.lnk.mode = .monitor) :
    rampTickStep s = modCur (fun c => { c with rampDue := false }) s := by
  unfold rampTickStep
  simp only [modCur_lnk, h]

theorem risenOf_stands (h : t.inService = false ∨ targetOf b t c ≤ c.limit) : risenOf b t c = c := by
  refine if_neg fun rises => ?_
  obtain ⟨inService, below⟩ := Bool.and_eq_true_iff.mp rises
  have below := of_decide_eq_true below
  rcases h with h | h
  · exact nomatch h.symm.trans inService
  · omega

theorem risenOf_rises (hs : t.inService = true) (h : c.limit < targetOf b t c) :
    risenOf b t c =
      if targetOf b t c < c.limit + ((c.remainder + t.rampUp) / 10 : Nat) then limited t (targetOf b t c) 0 c
      else limited t (c.limit + ((c.remainder + t.rampUp) / 10 : Nat)) ((c.remainder + t.rampUp) % 10) c :=
  if_pos (Bool.and_eq_true_iff.mpr ⟨hs, decide_eq_true h⟩)

theorem rampTickStep_channel (h : s.lnk.mode = .auto) (j : Fin 6) :
    (rampTickStep s).cur.channels[j] = risenOf (bearing s) s.settings.channels[j] s.cur.channels[j] := by
  rw [rampTickStep_auto h, mapChannels_channel]
  rfl

end Ramp

/-- Settles O46, channel by channel: in AUTO a ramp tick raises each on its own, in MONITOR none. -/
theorem rampTickRaisesTheLimits : Obligations.RampTickRaisesTheLimits := by
  intro s running
  refine ⟨rampTickStep s, next_congr (event_running running),
    fun j => ⟨fun stands => ?_, fun auto inService below => ?_⟩, rampTickStep_frame s⟩
  · cases hm : s.lnk.mode with
    | monitor => rw [rampTickStep_monitor hm, modCur_cur]
    | auto =>
      rw [rampTickStep_channel hm]
      exact risenOf_stands (stands.resolve_left (by simp [hm]))
  · rw [pvTarget_eq] at below ⊢
    rw [rampTickStep_channel auto, risenOf_rises inService below]
    refine ⟨fun beyond => ?_, fun within => ?_, ?_⟩
    · rw [if_pos beyond]
      exact ⟨rfl, rfl⟩
    · rw [if_neg (Int.not_lt.mpr within)]
      exact ⟨rfl, rfl⟩
    · split <;> rfl

/-! ### The generators (R154) -/

section Generators

variable {s : State} {j : Fin 6}

theorem activeLevelEnd_mem (s : State) (j : Fin 6) :
    Instr.pwmActiveLevelEnd j ∈ dueOfChannel s j ↔
      s.cur.channels[j].pwm.active = true ∧ s.cur.channels[j].pwm.present < 1000
        ∧ s.cur.channels[j].pwm.present * s.cur.channels[j].pwm.periodMs * 10 ≤ s.cur.channels[j].pwm.pos := by
  simp only [dueOfChannel, List.mem_append, mem_dueWhen, Bool.and_eq_true, decide_eq_true_eq, reduceCtorEq, and_false,
    false_or, and_true, and_assoc]
  exact Iff.rfl

theorem periodStart_mem (s : State) (j : Fin 6) :
    Instr.pwmPeriodStart j ∈ dueOfChannel s j ↔
      s.cur.channels[j].pwm.periodMs * 10000 ≤ s.cur.channels[j].pwm.pos := by
  simp only [dueOfChannel, List.mem_append, mem_dueWhen, decide_eq_true_eq, reduceCtorEq, and_false, or_false, and_true]
  exact Iff.rfl

theorem pwmActiveEnds_below (h : s.cur.channels[j].pwm.present < 1000) :
    pwmActiveEnds j s = modChannel j (fun c => { c with pwm := { c.pwm with active := false } }) s := if_pos h

theorem pwmActiveEnds_full (h : 1000 ≤ s.cur.channels[j].pwm.present) : pwmActiveEnds j s = s :=
  if_neg (Nat.not_lt.mpr h)

theorem pwmActiveEnds_other {k : Fin 6} (h : k ≠ j) : (pwmActiveEnds j s).cur.channels[k] = s.cur.channels[k] := by
  unfold pwmActiveEnds
  split
  · exact modChannel_other _ s h
  · rfl

/-- The duty of a limit within the rating needs no clamp (R154). -/
theorem dutyOf_within {limit rated : Nat} (h : limit ≤ rated) :
    dutyOf limit rated = limit * 1000 / rated ∧ limit * 1000 / rated ≤ 1000 := by
  have le : limit * 1000 / rated ≤ 1000 := Nat.div_le_of_le_mul (Nat.mul_le_mul_right 1000 h)
  have cast : ((limit : Int) * 1000 / rated) = ((limit * 1000 / rated : Nat) : Int) := by push_cast; rfl
  refine ⟨?_, le⟩
  unfold dutyOf clampToNat clampInt
  rw [cast, min_eq_right (Int.ofNat_le.mpr le), Nat.cast_zero,
    max_eq_right (Int.natCast_nonneg _), Int.toNat_natCast]

end Generators

/-- Settles O47: a period start and an active level's end act on their own channel, and each is due by its count. -/
theorem pwmPeriodsFollowTheDuty : Obligations.PwmPeriodsFollowTheDuty := by
  refine ⟨fun j s running => ⟨?_, ?_⟩, fun j s => ⟨activeLevelEnd_mem s j, periodStart_mem s j⟩,
    fun limit rated _ h => ?_⟩
  · exact ⟨pwmStart j s, next_congr (event_running running), modChannel_self j _ s,
      fun k h => modChannel_other _ s h, pwmStart_frame j s⟩
  · refine ⟨pwmActiveEnds j s, next_congr (event_running running), fun below => ?_, pwmActiveEnds_full,
      fun k h => pwmActiveEnds_other h, pwmActiveEnds_frame j s⟩
    rw [pwmActiveEnds_below below, modChannel_self]
  · obtain ⟨duty, le⟩ := dutyOf_within h
    exact ⟨duty, duty ▸ le⟩

end Sys2Proof.Machine

/-! ## SET_PV_CEILING (R143) -/

namespace Sys2Proof.Machine

section Ceiling

variable {s t : State} {j k : Fin 6}

theorem retarget_latch (old s : State) (k : Fin 6) :
    (retarget old s).cur.channels[k].latch = s.cur.channels[k].latch := by
  rw [retarget_eq, mapChannels_channel]
  split <;> rfl

theorem newShares_latch (s : State) (k : Fin 6) : (newShares s).cur.channels[k].latch = s.cur.channels[k].latch := by
  obtain ⟨x, e⟩ := newShares_channel s k
  rw [e]

/-- What follows changed ceilings leaves the latches. -/
theorem ceilingsChanged_latch (old s : State) (k : Fin 6) :
    (ceilingsChanged old s).cur.channels[k].latch = s.cur.channels[k].latch := by
  unfold ceilingsChanged
  split
  · exact retarget_latch old s k
  · rw [retarget_latch, newShares_latch]

/-- The state of a channel's constraints that SET_PV_CEILING writes. -/
theorem ceilingWritten_eq (j : Fin 6) (kw : Nat) (s : State) :
    ceilingWritten j kw s =
      ceilingsChanged s (if s.lnk.supervised
        then modChannel j (fun c => { c with latch := false })
          (writeChannel j { s.settings.channels[j] with hostCeiling := min s.settings.channels[j].ratedKw kw } s)
        else
          writeChannel j { s.settings.channels[j] with hostCeiling := min s.settings.channels[j].ratedKw kw } s) := rfl

theorem ceilingWritten_latch_other (h : k ≠ j) (kw : Nat) (s : State) :
    (ceilingWritten j kw s).cur.channels[k].latch = s.cur.channels[k].latch := by
  rw [ceilingWritten_eq, ceilingsChanged_latch]
  split
  · rw [modChannel_other _ _ h]
    rfl
  · rfl

theorem ceilingWritten_latch_self (j : Fin 6) (kw : Nat) (s : State) :
    (ceilingWritten j kw s).cur.channels[j].latch = true ↔
      s.cur.channels[j].latch = true ∧ s.lnk.supervised = false := by
  rw [ceilingWritten_eq, ceilingsChanged_latch]
  cases s.lnk.supervised with
  | false => exact (and_iff_left rfl).symm
  | true =>
    rw [if_pos rfl, modChannel_self]
    simp

theorem ceilingWritten_settings (j : Fin 6) (kw : Nat) (s : State) :
    (ceilingWritten j kw s).settings =
      { s.settings with
        channels := s.settings.channels.set j
          { s.settings.channels[j] with hostCeiling := min s.settings.channels[j].ratedKw kw } } := by
  rw [ceilingWritten_eq, (ceilingsChanged_frame s _).settings (by decide)]
  split <;> rfl

theorem ceilingWritten_frame (j : Fin 6) (kw : Nat) (s : State) :
    SameBut [.settings, .cur] s (ceilingWritten j kw s) := by
  simp [ceilingWritten, writeChannel]

end Ceiling

/-- Settles O49: the request by its object, the latch by the supervision at the request. -/
theorem setPvCeilingWritesTheHostCeiling : Obligations.SetPvCeilingWritesTheHostCeiling := by
  intro fr s accepts
  refine ⟨fun above => next_congr ?_, fun j hj => ?_⟩
  · rw [request_accepted accepts, ← answer_refuse, setPvCeiling, objectOf_of_le above]
  · refine ⟨ceilingWritten j (fr.field 1 2) (superviseFrame fr.link s), next_congr ?_, ?_, ?_, fun k h => ?_,
      ceilingWritten_frame j _ _⟩
    · rw [request_accepted accepts, setPvCeiling, hj, objectOf_val]
      dsimp only
      rw [answer_reply, superviseFrame_settings, okStatus]
      simp only [decide_eq_true_eq]
    · rw [ceilingWritten_settings, superviseFrame_settings]
    · rw [ceilingWritten_latch_self, superviseFrame_channels]
    · rw [ceilingWritten_latch_other h, superviseFrame_channels]

end Sys2Proof.Machine

/-! ## The events of a link (R176 to R180, R183, R185) -/

namespace Sys2Proof.Machine

section LinkEvents

variable {s : State} {l k : Link}

/-! ### An error of R177 -/

theorem discardFrame_disabled {e : LinkError} (h : (s.link l).enabled = false) : discardFrame e l s = s := by
  unfold discardFrame
  rw [h]
  rfl

theorem discardFrame_enabled (e : LinkError) (h : (s.link l).enabled = true) :
    discardFrame e l s = setLinkError e l (modLink l LinkCtl.hunt s) := if_pos h

theorem setLinkError_link (e : LinkError) (l k : Link) (s : State) :
    (setLinkError e l s).link k = (modLink l (LinkCtl.withError e) s).link k := by
  unfold setLinkError
  dsimp only
  split <;> rfl

/-- LINK_ERROR is set where link errors are reported (R178). -/
theorem setLinkError_evr (e : LinkError) (l : Link) (s : State) :
    (setLinkError e l s).evr = if s.settings.sys.linkErrorReport then (setAdv .linkError s).evr else s.evr := by
  have flagged : (setAdv .linkError (modLink l (LinkCtl.withError e) s)).evr = (setAdv .linkError s).evr := by
    cases l <;> rfl
  unfold setLinkError
  dsimp only
  rw [modLink_settings]
  split
  · exact flagged
  · exact modLink_evr l _ s

/-- An error on an enabled link (R177). -/
theorem discardFrame_acts (e : LinkError) (h : (s.link l).enabled = true) :
    (discardFrame e l s).link l = ({ s.link l with receiver := .hunting, gap := .idle }).withError e
      ∧ (discardFrame e l s).evr = (if s.settings.sys.linkErrorReport then (setAdv .linkError s).evr else s.evr)
      ∧ ∀ k : Link, k ≠ l → (discardFrame e l s).link k = s.link k := by
  have flagged : (setAdv .linkError (modLink l LinkCtl.hunt s)).evr = (setAdv .linkError s).evr := by
    cases l <;> rfl
  rw [discardFrame_enabled e h]
  refine ⟨?_, ?_, fun k hk => ?_⟩
  · rw [setLinkError_link, modLink_link, modLink_link]
    rfl
  · rw [setLinkError_evr, modLink_settings, modLink_evr, flagged]
  · rw [setLinkError_link, modLink_link_ne hk, modLink_link_ne hk]

theorem discardFrame_event {c : Instr} {e : LinkError} (running : s.phase = .running)
    (hc : (c, e) ∈ [(Instr.lengthError l, LinkError.length), (.checkError l, .check), (.gapError l, .gap)]) :
    exec c s = .next (conclude (discardFrame e l s)) := by
  simp only [List.mem_cons, Prod.mk.injEq, List.not_mem_nil, or_false] at hc
  rcases hc with ⟨rfl, rfl⟩ | ⟨rfl, rfl⟩ | ⟨rfl, rfl⟩
  all_goals exact next_congr (event_running running)

/-! ### A reply has gone (R176, R179, R185) -/

/-- The reply list of a link without its first reply (R179). -/
theorem LinkCtl.sent_eq (c : LinkCtl) :
    c.sent =
      { c with
        current := (match c.waiting with | [] => .none | next :: _ => .sending next)
        waiting := c.waiting.tail } := by
  obtain ⟨⟩ := c
  unfold LinkCtl.sent
  dsimp only
  split <;> simp_all

/-- A link with the line settings that have taken effect (R176). -/
theorem LinkCtl.takeLine_eq (rate : LineRate) (enabled : Bool) (c : LinkCtl) :
    c.takeLine rate enabled =
      (let c := if rate = c.rate ∧ enabled = c.enabled then c else { c with receiver := .hunting, gap := .idle }
       if enabled then { c with rate := rate, enabled := true }
       else { c with rate := rate, enabled := false, current := .none, waiting := [] }) := by
  unfold LinkCtl.takeLine LinkCtl.hunt
  cases enabled <;> rfl

/-- The part once a reply has gone, up to what RESET still asks for. -/
def replySent (l : Link) (r : Reply) (s : State) : State :=
  match r.lines with
  | some p => takeLines p (modLink l LinkCtl.sent s)
  | none => modLink l LinkCtl.sent s

theorem replyDone_sending {r : Reply} (h : (s.link l).current = .sending r) :
    replyDone l s =
      if r.isReset then modLnk (fun n => { n with reset := .draining }) (replySent l r s) else replySent l r s := by
  unfold replyDone
  rw [h]
  rfl

theorem replyDone_link {r : Reply} (h : (s.link l).current = .sending r) (k : Link) :
    (replyDone l s).link k = (replySent l r s).link k := by
  rw [replyDone_sending h]
  split
  · cases k <;> rfl
  · rfl

theorem modLink_lnk (l : Link) (h : LinkCtl → LinkCtl) (s : State) :
    (modLink l h s).lnk =
      { s.lnk with linkA := (modLink l h s).lnk.linkA, linkB := (modLink l h s).lnk.linkB } := by
  cases l <;> rfl

theorem replySent_lnk (l : Link) (r : Reply) (s : State) :
    (replySent l r s).lnk =
      { s.lnk with linkA := (replySent l r s).lnk.linkA, linkB := (replySent l r s).lnk.linkB } := by
  unfold replySent takeLines
  split
  · rw [modLink_lnk, modLink_lnk, modLink_lnk]
  · exact modLink_lnk l _ s

theorem replyDone_lnk {r : Reply} (h : (s.link l).current = .sending r) :
    (replyDone l s).lnk =
      { s.lnk with
        linkA := (replyDone l s).lnk.linkA, linkB := (replyDone l s).lnk.linkB
        reset := if r.isReset then .draining else s.lnk.reset } := by
  rw [replyDone_sending h]
  split
  · exact congrArg (fun n : Lnk => { n with reset := .draining }) (replySent_lnk l r s)
  · exact replySent_lnk l r s

/-- A reply without line settings concerns its own link alone. -/
theorem replySent_plain {r : Reply} (h : r.lines = none) : replySent l r s = modLink l LinkCtl.sent s := by
  unfold replySent
  rw [h]

theorem replySent_lines {r : Reply} {p : LineChange} (h : r.lines = some p) :
    replySent l r s = takeLines p (modLink l LinkCtl.sent s) := by
  unfold replySent
  rw [h]

theorem takeLines_linkA (p : LineChange) (s : State) :
    (takeLines p s).link .a = (s.link .a).takeLine (p.rateA.getD (s.link .a).rate) (s.link .a).enabled := rfl

theorem takeLines_linkB (p : LineChange) (s : State) :
    (takeLines p s).link .b =
      (s.link .b).takeLine (p.rateB.getD (s.link .b).rate) (p.linkB.getD (s.link .b).enabled) := rfl

theorem modLink_sent_link (l k : Link) (s : State) :
    (modLink l LinkCtl.sent s).link k =
      if k = l then
        { s.link k with
          current := (match (s.link k).waiting with | [] => .none | next :: _ => .sending next)
          waiting := (s.link k).waiting.tail }
      else s.link k := by
  split
  next e =>
    subst e
    rw [modLink_link, LinkCtl.sent_eq]
  next e => exact modLink_link_ne e _ s

/-! ### Supervision (R183) -/

theorem supervisionExpires_running (h : s.lnk.supTimer.isRunning = true) :
    supervisionExpires s =
      curOnSupervision false (journal .supervisionLost 0 s.settings.sys.supervision (setAdv .supervision
        (modLnk (fun l => { l with supervised := false, supTimer := .idle }) s))) := if_pos h

theorem retarget_supervised (old s : State) : (retarget old s).cur.supervised = s.cur.supervised := by
  rw [retarget_eq]
  rfl

theorem newShares_supervised (s : State) : (newShares s).cur.supervised = s.cur.supervised := by
  rw [newShares_eq]
  split <;> rfl

theorem ceilingsChanged_supervised (old s : State) : (ceilingsChanged old s).cur.supervised = s.cur.supervised := by
  unfold ceilingsChanged
  split
  · exact retarget_supervised old s
  · rw [retarget_supervised, newShares_supervised]

/-- Lost supervision sets every fallback latch (R143). -/
theorem curOnSupervision_lost (s : State) :
    (curOnSupervision false s).cur.supervised = false
      ∧ ∀ j : Fin 6, (curOnSupervision false s).cur.channels[j].latch = true := by
  have e : curOnSupervision false s =
      ceilingsChanged s (mapChannels (fun _ c => { c with latch := true })
        (modCur (fun c => { c with supervised := false }) s)) := by
    rw [← foldl_modChannel_const]
    rfl
  rw [e]
  refine ⟨ceilingsChanged_supervised _ _, fun j => ?_⟩
  rw [ceilingsChanged_latch, mapChannels_channel]

end LinkEvents

/-- Settles O54: each event of a link by its case. -/
theorem linkEventsAct : Obligations.LinkEventsAct := by
  refine ⟨fun l c e s running hc => ?_, fun l s r running sending => ?_, fun s running timing => ?_⟩
  · refine ⟨discardFrame e l s, discardFrame_event running hc, discardFrame_disabled, fun enabled => ?_⟩
    obtain ⟨own, evr, others⟩ := discardFrame_acts e enabled
    exact ⟨own, evr, others, discardFrame_frame e l s⟩
  · refine ⟨replyDone l s, next_congr (event_running running), fun plain => ?_, fun p lines => ?_,
      replyDone_lnk sending, replyDone_frame l s⟩
    · rw [replyDone_link sending, replySent_plain plain, modLink_sent_link]
      refine ⟨if_pos rfl, fun k hk => ?_⟩
      rw [replyDone_link sending, replySent_plain plain, modLink_link_ne hk]
    · rw [replyDone_link sending, replyDone_link sending, replySent_lines lines, takeLines_linkA, takeLines_linkB,
        modLink_sent_link, modLink_sent_link]
      exact ⟨LinkCtl.takeLine_eq _ _ _, LinkCtl.takeLine_eq _ _ _⟩
  · obtain ⟨supervised, latches⟩ := curOnSupervision_lost
      (journal .supervisionLost 0 s.settings.sys.supervision (setAdv .supervision
        (modLnk (fun l => { l with supervised := false, supTimer := .idle }) s)))
    refine ⟨supervisionExpires s, next_congr (event_running running), ?_, ?_, ?_, ?_,
      (supervisionExpires_frame s).widen _ rfl⟩
    all_goals rw [supervisionExpires_running timing]
    · rw [(curOnSupervision_frame _ _).lnk (by decide), journal_lnk]
      rfl
    · rw [(curOnSupervision_frame _ _).evr (by decide)]
      exact journal_evr_congr _ _ _ rfl rfl
    · exact supervised
    · exact latches

end Sys2Proof.Machine

/-! ## Targets, limits, droop and shares (R142 to R153) -/

namespace Sys2Proof.Machine

/-! ### Targets and limits (R142, R150, R153) -/

section Targets

variable {s old : State} {j : Fin 6} {b : Bearing} {t : PvSettings} {c : ChannelCtl}

theorem pvTarget_out (h : s.settings.channels[j].inService = false) : pvTarget s j = 0 := by
  unfold pvTarget
  rw [h]
  rfl

theorem pvTarget_monitor (h : s.settings.channels[j].inService = true) (hm : s.lnk.mode = .monitor) :
    pvTarget s j = effectiveCeiling s j := by
  simp only [pvTarget, h, hm, if_true]

theorem pvTarget_held (h : s.settings.channels[j].inService = true) (hm : s.lnk.mode = .auto)
    (hz : s.cur.zeroHold = true) : pvTarget s j = 0 := by
  simp only [pvTarget, h, hm, hz, if_true]

/-- The smallest of a limit and one that may be present, any figure at or above the limit standing for an absent one. -/
theorem minPresent_eq {x y : Int} (h : x ≤ y) (o : Option Int) : minPresent x o = min x (o.getD y) := by
  cases o with
  | none => exact (min_eq_left h).symm
  | some z => rfl

theorem pvTarget_free (h : s.settings.channels[j].inService = true) (hm : s.lnk.mode = .auto)
    (hz : s.cur.zeroHold = false) :
    pvTarget s j =
      min (min (effectiveCeiling s j) (s.cur.channels[j].droopLimit.getD (effectiveCeiling s j)))
        (s.cur.channels[j].share.getD (effectiveCeiling s j)) := by
  have free : pvTarget s j =
      minPresent (minPresent (effectiveCeiling s j) s.cur.channels[j].droopLimit) s.cur.channels[j].share := by
    simp only [pvTarget, h, hm, hz, if_true, Bool.false_eq_true, if_false]
  rw [free, minPresent_eq (minPresent_le _ _), minPresent_eq (le_refl _)]

theorem applyTargets_taken (s : State) (j : Fin 6) :
    (applyTargets s).cur.channels[j] = takenOf (bearing s) s.settings.channels[j] s.cur.channels[j] := by
  rw [applyTargets_eq, mapChannels_channel]

theorem limitsOf_auto (h : b.mode = .auto) :
    limitsOf b t c = if targetOf b t c ≤ c.limit then (targetOf b t c, 0) else (c.limit, c.remainder) := by
  simp only [limitsOf, h]

theorem limitsOf_monitor (h : b.mode = .monitor) :
    limitsOf b t c = (if b.bus = .dead then 0 else ceilingOf b.seqActive t c, 0) := by simp only [limitsOf, h]

theorem takenOf_reached (h : b.mode = .auto) (hl : targetOf b t c ≤ c.limit) :
    (takenOf b t c).limit = targetOf b t c ∧ (takenOf b t c).remainder = 0 := by
  unfold takenOf
  rw [limitsOf_auto h, if_pos hl]
  exact ⟨rfl, rfl⟩

theorem takenOf_below (h : b.mode = .auto) (hl : c.limit < targetOf b t c) :
    (takenOf b t c).limit = c.limit ∧ (takenOf b t c).remainder = c.remainder := by
  unfold takenOf
  rw [limitsOf_auto h, if_neg (Int.not_le.mpr hl)]
  exact ⟨rfl, rfl⟩

theorem takenOf_monitor (h : b.mode = .monitor) :
    (takenOf b t c).limit = (if b.bus = .dead then 0 else ceilingOf b.seqActive t c)
      ∧ (takenOf b t c).remainder = 0 := by
  unfold takenOf
  rw [limitsOf_monitor h]
  exact ⟨rfl, rfl⟩

/-- The inputs of a channel's ceiling and share have not changed (log 41). -/
theorem constraintsOf_eq_iff (s old : State) (j : Fin 6) :
    constraintsOf s j = constraintsOf old j ↔
      s.settings.channels[j].inService = old.settings.channels[j].inService ∧ baseCeiling s j = baseCeiling old j
        ∧ s.cur.seqActive = old.cur.seqActive ∧ (s.cur.seqActive = true → releaseLimit s j = releaseLimit old j)
        ∧ s.cur.channels[j].share = old.cur.channels[j].share := by
  have release : ((if s.cur.seqActive then some (releaseLimit s j) else none)
        = if old.cur.seqActive then some (releaseLimit old j) else none) ↔
      s.cur.seqActive = old.cur.seqActive ∧ (s.cur.seqActive = true → releaseLimit s j = releaseLimit old j) := by
    cases s.cur.seqActive <;> cases old.cur.seqActive <;> simp
  simp only [constraintsOf, Constraints.mk.injEq, release, and_assoc]

end Targets

/-! ### The figures of the constraints (R146, R148) -/

section Figures

variable {s t : State}

/-- The thousandths of its reference that a channel has to remove (R146). -/
def droopRemoved (s : State) (f : Nat) : Int :=
  clampInt 0 1000 (((f - fNom s - s.settings.sys.droopOffset : Int) * 1000).tdiv s.settings.sys.droopBand)

theorem droopLimitAt_eq (s : State) (f : Nat) (r : Int) :
    droopLimitAt s f r = (r * (1000 - droopRemoved s f)).tdiv 1000 := rfl

theorem droopRemoved_bounds (s : State) (f : Nat) : 0 ≤ droopRemoved s f ∧ droopRemoved s f ≤ 1000 := by
  unfold droopRemoved clampInt
  omega

theorem droopRemoved_onset {f : Nat} (h : f ≤ fNom s + s.settings.sys.droopOffset) : droopRemoved s f = 0 := by
  have below : 0 ≤ (-((f - fNom s - s.settings.sys.droopOffset : Int) * 1000)).tdiv s.settings.sys.droopBand :=
    Int.tdiv_nonneg (by omega) (Int.natCast_nonneg _)
  rw [Int.neg_tdiv] at below
  unfold droopRemoved clampInt
  omega

theorem droopRemoved_band {f : Nat} (hb : 0 < s.settings.sys.droopBand)
    (h : fNom s + s.settings.sys.droopOffset + s.settings.sys.droopBand ≤ f) : droopRemoved s f = 1000 := by
  have beyond : 1000 ≤ ((f - fNom s - s.settings.sys.droopOffset : Int) * 1000).tdiv s.settings.sys.droopBand := by
    rw [Int.tdiv_eq_ediv_of_nonneg (by omega)]
    exact (Int.le_ediv_iff_mul_le (by omega)).mpr (by omega)
  unfold droopRemoved clampInt
  omega

theorem droopLimitAt_le (s : State) (f : Nat) {r : Int} (h : 0 ≤ r) : droopLimitAt s f r ≤ r := by
  obtain ⟨low, high⟩ := droopRemoved_bounds s f
  rw [droopLimitAt_eq, Int.tdiv_eq_ediv_of_nonneg (mul_nonneg h (by omega))]
  exact Int.ediv_le_of_le_mul (by decide) (mul_le_mul_of_nonneg_left (by omega) h)

theorem droopLimitAt_onset {f : Nat} (h : f ≤ fNom s + s.settings.sys.droopOffset) (r : Int) :
    droopLimitAt s f r = r := by
  rw [droopLimitAt_eq, droopRemoved_onset h]
  exact Int.mul_tdiv_cancel r (by decide)

theorem droopLimitAt_band {f : Nat} (hb : 0 < s.settings.sys.droopBand)
    (h : fNom s + s.settings.sys.droopOffset + s.settings.sys.droopBand ≤ f) (r : Int) : droopLimitAt s f r = 0 := by
  rw [droopLimitAt_eq, droopRemoved_band hb h]
  simp

theorem droopLimitAt_congr (h : t.settings = s.settings) (f : Nat) : droopLimitAt t f = droopLimitAt s f := by
  funext r
  simp only [droopLimitAt, fNom, h]

theorem shareFor_none_online (h : noneOnline s = true) (a : Int) (j : Fin 6) : shareFor s a j = none := by
  simp [shareFor, h]

/-- Parts of `m` in proportion to weights, each truncated, sum up to at most `m`. -/
theorem sum_tdiv_le {ι : Type} {m : Int} (hm : 0 ≤ m) (w : ι → Int) (hw : ∀ i, 0 ≤ w i) (l : List ι) :
    (l.map fun i => (m * w i).tdiv (l.map w).sum).sum ≤ m := by
  have total : 0 ≤ (l.map w).sum := List.sum_nonneg (by simpa using fun i _ => hw i)
  generalize hr : (l.map w).sum = r at total ⊢
  rcases total.eq_or_lt with rfl | pos
  · simpa using hm
  · refine le_of_mul_le_mul_right ?_ pos
    calc (l.map fun i => (m * w i).tdiv r).sum * r
        = (l.map fun i => (m * w i).tdiv r * r).sum := (List.sum_map_mul_right ..).symm
      _ ≤ (l.map fun i => m * w i).sum := List.sum_le_sum fun i _ => by
          rw [Int.tdiv_eq_ediv_of_nonneg (mul_nonneg hm (hw i))]
          exact Int.ediv_mul_le _ pos.ne'
      _ = m * r := by rw [List.sum_map_mul_left, hr]

/-- The shares of all channels never exceed what can be absorbed (R148). -/
theorem shareFor_sum_le (s : State) (a : Int) :
    ((List.finRange 6).map fun j => (shareFor s a j).getD 0).sum ≤ max 0 a := by
  by_cases none : (noneOnline s || decide (((pvInService s).map (effectiveCeiling s)).sum ≤ a)) = true
  · have zero (j : Fin 6) : shareFor s a j = Option.none := if_pos (by
      rw [Bool.or_assoc, none, Bool.or_true])
    simp [zero]
  · have part (j : Fin 6) : (shareFor s a j).getD 0 =
        if s.settings.channels[j].inService then
          (max 0 a * s.settings.channels[j].ratedKw).tdiv
            ((pvInService s).map fun i => (s.settings.channels[i].ratedKw : Int)).sum
        else 0 := by
      unfold shareFor
      rw [Bool.or_assoc, (Bool.not_eq_true _).mp none]
      cases s.settings.channels[j].inService <;> rfl
    simp only [part]
    rw [List.sum_map_ite]
    simp only [List.map_const', List.sum_replicate, smul_zero, add_zero, Bool.decide_eq_true]
    exact sum_tdiv_le (le_max_left 0 a) (fun i : Fin 6 => (s.settings.channels[i].ratedKw : Int)) (fun i => by omega)
      (pvInService s)

end Figures
end Sys2Proof.Machine

/-! ## CUR's answers to notices (R145 to R149, R152) -/

namespace Sys2Proof.Machine

section Droop

variable {s t : State} {j : Fin 6} {n : BusNotice} {f : Nat}

/-! ### Droop limits, and the beginning and end of an episode -/

theorem recomputeDroop_channel (f : Nat) (s : State) (j : Fin 6) :
    (recomputeDroop f s).cur.channels[j] =
      { s.cur.channels[j] with droopLimit := s.cur.channels[j].reference.map (droopLimitAt s f) } := by
  rw [recomputeDroop_eq, mapChannels_channel]

theorem recomputeDroop_active (f : Nat) (s : State) : (recomputeDroop f s).cur.droopActive = s.cur.droopActive := by
  rw [recomputeDroop_eq]
  rfl

theorem recomputeDroop_evr (f : Nat) (s : State) : (recomputeDroop f s).evr = s.evr := by
  rw [recomputeDroop_eq]
  rfl

theorem droopOnset_channel (f : Nat) (s : State) (j : Fin 6) :
    (droopOnset f s).cur.channels[j].reference =
        (if s.settings.channels[j].inService then some (channelOutput s j) else none)
      ∧ (droopOnset f s).cur.channels[j].droopLimit =
          (droopOnset f s).cur.channels[j].reference.map (droopLimitAt s f) := by
  rw [droopOnset_eq, recomputeDroop_channel, droopLimitAt_congr (s := s) (by simp), journal_cur, setAdv_cur,
    mapChannels_channel]
  exact ⟨rfl, rfl⟩

theorem droopOnset_active (f : Nat) (s : State) : (droopOnset f s).cur.droopActive = true := by
  rw [droopOnset_eq, recomputeDroop_active, journal_cur]
  rfl

theorem droopOnset_evr (f : Nat) (s : State) :
    (droopOnset f s).evr = (journal .droopBegins 0 f (setAdv .droop s)).evr := by
  rw [droopOnset_eq, recomputeDroop_evr]
  exact journal_evr_congr _ _ _ rfl rfl

theorem droopEnd_channel (v : Int) (s : State) (j : Fin 6) :
    (droopEnd v s).cur.channels[j] = { s.cur.channels[j] with reference := none, droopLimit := none } := by
  rw [droopEnd_eq, journal_cur, setAdv_cur, mapChannels_channel]
  rfl

theorem droopEnd_active (v : Int) (s : State) : (droopEnd v s).cur.droopActive = false := by
  rw [droopEnd_eq, journal_cur]
  rfl

theorem droopEnd_evr (v : Int) (s : State) (ht : t.evr = s.evr) (hs : t.time = s.time) :
    (droopEnd v t).evr = (journal .droopEnds 0 v (setAdv .droop s)).evr := by
  rw [droopEnd_eq]
  refine journal_evr_congr _ _ _ ?_ hs
  simp [ht]

/-! ### A frequency value (R145 to R147) -/

theorem droopAtValue_quiet (ha : s.cur.droopActive = false) (h : f ≤ fNom s + s.settings.sys.droopOffset) :
    droopAtValue f s = s := by
  unfold droopAtValue
  dsimp only
  rw [ha, if_neg (Nat.not_lt.mpr h)]
  rfl

theorem droopAtValue_begins (ha : s.cur.droopActive = false) (h : fNom s + s.settings.sys.droopOffset < f) :
    droopAtValue f s = droopOnset f s := by
  unfold droopAtValue
  dsimp only
  rw [ha, if_pos h]
  rfl

theorem droopAtValue_ends (ha : s.cur.droopActive = true) (h : f + 50 ≤ fNom s + s.settings.sys.droopOffset) :
    droopAtValue f s = droopEnd f s := by
  unfold droopAtValue
  dsimp only
  rw [ha, if_pos rfl, if_pos h]

theorem droopAtValue_goes_on (ha : s.cur.droopActive = true) (h : fNom s + s.settings.sys.droopOffset < f + 50) :
    droopAtValue f s = recomputeDroop f s := by
  unfold droopAtValue
  dsimp only
  rw [ha, if_pos rfl, if_neg (Nat.not_le.mpr h)]

/-! ### What a recomputation of the targets leaves -/

section Taken

variable {P : Fin 6 → Prop} [DecidablePred P]

theorem takenBut_constraints (P : Fin 6 → Prop) [DecidablePred P] (t : State) (j : Fin 6) :
    (takenBut P t).cur.channels[j].reference = t.cur.channels[j].reference
      ∧ (takenBut P t).cur.channels[j].droopLimit = t.cur.channels[j].droopLimit
      ∧ (takenBut P t).cur.channels[j].share = t.cur.channels[j].share := by
  simp only [takenBut, mapChannels_channel]
  split <;> exact ⟨rfl, rfl, rfl⟩

end Taken

/-- The droop and the hold after a bus notice are those before the targets are recomputed. -/
theorem curOnBus_taken (n : BusNotice) (s : State) :
    (curOnBus n s).cur.droopActive = (busTaken n s).cur.droopActive
      ∧ (curOnBus n s).cur.zeroHold = (busTaken n s).cur.zeroHold ∧ (curOnBus n s).evr = (busTaken n s).evr
      ∧ ∀ j : Fin 6, (curOnBus n s).cur.channels[j].reference = (busTaken n s).cur.channels[j].reference
          ∧ (curOnBus n s).cur.channels[j].droopLimit = (busTaken n s).cur.channels[j].droopLimit
          ∧ (curOnBus n s).cur.channels[j].share = (busTaken n s).cur.channels[j].share := by
  rcases curOnBus_cases n s with e | ⟨e, -, -⟩ <;> rw [e] <;> exact ⟨rfl, rfl, rfl, takenBut_constraints _ _⟩

theorem curOnBus_zeroHold (n : BusNotice) (s : State) : (curOnBus n s).cur.zeroHold = holdAfter n s.cur.zeroHold := by
  obtain ⟨-, hold, -, -⟩ := curOnBus_taken n s
  rw [hold, busTaken_zeroHold]

theorem curOnBus_share (n : BusNotice) (s : State) (j : Fin 6) :
    (curOnBus n s).cur.channels[j].share = s.cur.channels[j].share := by
  obtain ⟨-, -, -, records⟩ := curOnBus_taken n s
  obtain ⟨-, -, share⟩ := records j
  exact share.trans (congrArg Constraints.share (busTaken_constraints n s j))

/-- The targets are recomputed where the hold, the episode or a droop limit has moved (R146, R147, R152). -/
theorem holdOrDroopMoved_iff (old s : State) :
    holdOrDroopMoved old s = true ↔
      s.cur.zeroHold ≠ old.cur.zeroHold ∨ s.cur.droopActive ≠ old.cur.droopActive
        ∨ ∃ j : Fin 6, s.cur.channels[j].droopLimit ≠ old.cur.channels[j].droopLimit := by
  simp only [holdOrDroopMoved, Bool.or_eq_true, decide_eq_true_eq, List.any_eq_true, List.mem_finRange, true_and,
    or_assoc]

theorem curOnBus_moved (h : holdOrDroopMoved s (busTaken n s) = true) : curOnBus n s = applyTargets (busTaken n s) := by
  rw [curOnBus_eq]
  exact if_pos (.inl h)

theorem curOnBus_unmoved (hb : n.bus = n.prev) (h : ¬ holdOrDroopMoved s (busTaken n s) = true) :
    curOnBus n s = busTaken n s := by
  rw [curOnBus_eq]
  exact if_neg (not_or.mpr ⟨h, fun ⟨changed, _⟩ => changed hb⟩)

/-- Whether the targets are recomputed can be told from the outcome, where the bus state has not changed. -/
theorem curOnBus_moved_iff (hb : n.bus = n.prev) (s : State) :
    holdOrDroopMoved s (busTaken n s) = true ↔
      (curOnBus n s).cur.droopActive ≠ s.cur.droopActive
        ∨ ∃ j : Fin 6, (curOnBus n s).cur.channels[j].droopLimit ≠ s.cur.channels[j].droopLimit := by
  obtain ⟨active, -, -, records⟩ := curOnBus_taken n s
  have hold : (busTaken n s).cur.zeroHold = s.cur.zeroHold := (busTaken_zeroHold n s).trans (if_pos hb)
  have droop (j : Fin 6) : (curOnBus n s).cur.channels[j].droopLimit = (busTaken n s).cur.channels[j].droopLimit := by
    obtain ⟨-, droop, -⟩ := records j
    exact droop
  simp only [holdOrDroopMoved_iff, hold, active, droop, ne_eq, not_true_eq_false, false_or]

/-- A value on a bus whose state has not changed. -/
theorem busTaken_value {v : PresentValue} (hv : n.value = some v) (hb : n.bus = n.prev) (s : State) :
    busTaken n s = droopAtValue v.f s := by
  have change : curBusChange n s = s := if_pos hb
  unfold busTaken
  rw [hv, change]

theorem curOnBus_stands (hb : n.bus = n.prev) (h : ¬ holdOrDroopMoved s (busTaken n s) = true) :
    (curOnBus n s).cur.channels.map (fun c => (c.limit, c.remainder)) =
      s.cur.channels.map fun c => (c.limit, c.remainder) := by
  have prepared := busTaken_prepared n s
  rw [curOnBus_unmoved hb h]
  refine Vector.ext fun i hi => ?_
  simp only [Vector.getElem_map]
  exact Prod.ext (prepared.limit ⟨i, hi⟩) (prepared.remainder ⟨i, hi⟩)

/-- Where the targets are recomputed in AUTO a lower target applies at once, and a higher one is left to the ramp. -/
theorem curOnBus_retargets (h : holdOrDroopMoved s (busTaken n s) = true) (hm : s.lnk.mode = .auto) (j : Fin 6) :
    (pvTarget (curOnBus n s) j ≤ s.cur.channels[j].limit →
        (curOnBus n s).cur.channels[j].limit = pvTarget (curOnBus n s) j ∧ (curOnBus n s).cur.channels[j].remainder = 0)
      ∧ (s.cur.channels[j].limit < pvTarget (curOnBus n s) j →
        (curOnBus n s).cur.channels[j].limit = s.cur.channels[j].limit
          ∧ (curOnBus n s).cur.channels[j].remainder = s.cur.channels[j].remainder) := by
  have prepared := busTaken_prepared n s
  have auto := applyTargets_auto (prepared.mode.trans hm) j
  rw [prepared.limit, prepared.remainder] at auto
  rw [curOnBus_moved h]
  exact auto

/-- Below the onset, with no episode, a value changes nothing (R145). -/
theorem curOnBus_quiet {v : PresentValue} (hv : n.value = some v) (hb : n.bus = n.prev)
    (ha : s.cur.droopActive = false) (h : v.f ≤ fNom s + s.settings.sys.droopOffset) : curOnBus n s = s := by
  have same : busTaken n s = s := (busTaken_value hv hb s).trans (droopAtValue_quiet ha h)
  rw [curOnBus_unmoved hb (by rw [holdOrDroopMoved_iff, same]; simp), same]

/-- Above the onset a value begins an episode, the references frozen (R145, R146). -/
theorem curOnBus_begins {v : PresentValue} (hv : n.value = some v) (hb : n.bus = n.prev)
    (ha : s.cur.droopActive = false) (h : fNom s + s.settings.sys.droopOffset < v.f) :
    (curOnBus n s).cur.droopActive = true
      ∧ (curOnBus n s).evr = (journal .droopBegins 0 v.f (setAdv .droop s)).evr
      ∧ ∀ j : Fin 6,
          (curOnBus n s).cur.channels[j].reference =
              (if s.settings.channels[j].inService then some (channelOutput s j) else none)
            ∧ (curOnBus n s).cur.channels[j].droopLimit =
                (curOnBus n s).cur.channels[j].reference.map (droopLimitAt s v.f) := by
  obtain ⟨active, -, evr, records⟩ := curOnBus_taken n s
  rw [busTaken_value hv hb, droopAtValue_begins ha h] at active evr records
  refine ⟨active.trans (droopOnset_active _ _), evr.trans (droopOnset_evr _ _), fun j => ?_⟩
  obtain ⟨reference, droop, -⟩ := records j
  obtain ⟨frozen, limited⟩ := droopOnset_channel v.f s j
  rw [droop, reference]
  exact ⟨frozen, limited⟩

/-- 50 mHz below the onset a value ends the episode (R147). -/
theorem curOnBus_ends {v : PresentValue} (hv : n.value = some v) (hb : n.bus = n.prev)
    (ha : s.cur.droopActive = true) (h : v.f + 50 ≤ fNom s + s.settings.sys.droopOffset) :
    (curOnBus n s).cur.droopActive = false
      ∧ (curOnBus n s).evr = (journal .droopEnds 0 v.f (setAdv .droop s)).evr
      ∧ ∀ j : Fin 6, (curOnBus n s).cur.channels[j].reference = none
          ∧ (curOnBus n s).cur.channels[j].droopLimit = none := by
  obtain ⟨active, -, evr, records⟩ := curOnBus_taken n s
  rw [busTaken_value hv hb, droopAtValue_ends ha h] at active evr records
  refine ⟨active.trans (droopEnd_active _ _), evr.trans (droopEnd_evr _ s rfl rfl), fun j => ?_⟩
  obtain ⟨reference, droop, -⟩ := records j
  rw [droopEnd_channel] at reference droop
  exact ⟨reference, droop⟩

/-- Any other value of an episode moves the droop limits alone (R146). -/
theorem curOnBus_goes_on {v : PresentValue} (hv : n.value = some v) (hb : n.bus = n.prev)
    (ha : s.cur.droopActive = true) (h : fNom s + s.settings.sys.droopOffset < v.f + 50) :
    (curOnBus n s).cur.droopActive = true ∧ (curOnBus n s).evr = s.evr
      ∧ ∀ j : Fin 6, (curOnBus n s).cur.channels[j].reference = s.cur.channels[j].reference
          ∧ (curOnBus n s).cur.channels[j].droopLimit = s.cur.channels[j].reference.map (droopLimitAt s v.f) := by
  obtain ⟨active, -, evr, records⟩ := curOnBus_taken n s
  rw [busTaken_value hv hb, droopAtValue_goes_on ha h] at active evr records
  refine ⟨active.trans ((recomputeDroop_active _ _).trans ha), evr.trans (recomputeDroop_evr _ _), fun j => ?_⟩
  obtain ⟨reference, droop, -⟩ := records j
  rw [recomputeDroop_channel] at reference droop
  exact ⟨reference, droop⟩

/-! ### An entry into DEAD (R147, R152) -/

theorem curBusChange_dead (hb : n.bus = .dead) (hp : n.prev ≠ .dead) (s : State) :
    curBusChange n s =
      if s.cur.droopActive then droopEnd 0 (modCur (fun c => { c with zeroHold := true }) s)
      else modCur (fun c => { c with zeroHold := true }) s := by
  unfold curBusChange
  rw [if_neg (by rw [hb]; exact hp.symm), hb]
  rfl

theorem busTaken_dead (hv : n.value = none) (s : State) : busTaken n s = curBusChange n s := by
  unfold busTaken
  rw [hv]

theorem busTaken_dead_ends (hv : n.value = none) (hb : n.bus = .dead) (hp : n.prev ≠ .dead)
    (ha : s.cur.droopActive = true) :
    busTaken n s = droopEnd 0 (modCur (fun c => { c with zeroHold := true }) s) := by
  rw [busTaken_dead hv, curBusChange_dead hb hp, if_pos ha]

theorem busTaken_dead_holds (hv : n.value = none) (hb : n.bus = .dead) (hp : n.prev ≠ .dead)
    (ha : s.cur.droopActive = false) : busTaken n s = modCur (fun c => { c with zeroHold := true }) s := by
  rw [busTaken_dead hv, curBusChange_dead hb hp, if_neg (by rw [ha]; decide)]

theorem busTaken_dead_active (hv : n.value = none) (hb : n.bus = .dead) (hp : n.prev ≠ .dead) :
    (busTaken n s).cur.droopActive = false := by
  cases ha : s.cur.droopActive with
  | true => rw [busTaken_dead_ends hv hb hp ha, droopEnd_active]
  | false =>
    rw [busTaken_dead_holds hv hb hp ha]
    exact ha

/-- An entry into DEAD ends an episode (R147). -/
theorem curOnBus_dead_ends (hv : n.value = none) (hb : n.bus = .dead) (hp : n.prev ≠ .dead)
    (ha : s.cur.droopActive = true) :
    (curOnBus n s).evr = (journal .droopEnds 0 0 (setAdv .droop s)).evr
      ∧ ∀ j : Fin 6, (curOnBus n s).cur.channels[j].reference = none
          ∧ (curOnBus n s).cur.channels[j].droopLimit = none := by
  obtain ⟨-, -, evr, records⟩ := curOnBus_taken n s
  rw [busTaken_dead_ends hv hb hp ha] at evr records
  refine ⟨evr.trans (droopEnd_evr 0 s rfl rfl), fun j => ?_⟩
  obtain ⟨reference, droop, -⟩ := records j
  rw [droopEnd_channel] at reference droop
  exact ⟨reference, droop⟩

theorem curOnBus_dead_holds (hv : n.value = none) (hb : n.bus = .dead) (hp : n.prev ≠ .dead)
    (ha : s.cur.droopActive = false) :
    (curOnBus n s).evr = s.evr
      ∧ ∀ j : Fin 6, (curOnBus n s).cur.channels[j].reference = s.cur.channels[j].reference
          ∧ (curOnBus n s).cur.channels[j].droopLimit = s.cur.channels[j].droopLimit := by
  obtain ⟨-, -, evr, records⟩ := curOnBus_taken n s
  rw [busTaken_dead_holds hv hb hp ha] at evr records
  refine ⟨evr, fun j => ?_⟩
  obtain ⟨reference, droop, -⟩ := records j
  exact ⟨reference, droop⟩

/-- Under a zero hold that has just been set, or at the end of an episode by it, every limit is 0 in AUTO. -/
theorem curOnBus_dead_limit (hv : n.value = none) (hb : n.bus = .dead) (hp : n.prev ≠ .dead) (hm : s.lnk.mode = .auto)
    (moves : s.cur.zeroHold = false ∨ s.cur.droopActive = true) (hl : 0 ≤ s.cur.channels[j].limit) :
    (curOnBus n s).cur.channels[j].limit = 0 ∧ (curOnBus n s).cur.channels[j].remainder = 0 := by
  have prepared := busTaken_prepared n s
  have changed : n.bus ≠ n.prev := by
    rw [hb]
    exact hp.symm
  have hold : (busTaken n s).cur.zeroHold = true := by
    rw [busTaken_zeroHold, holdAfter, if_neg changed, hb]
  have moved : holdOrDroopMoved s (busTaken n s) = true := by
    rw [holdOrDroopMoved_iff, hold]
    rcases moves with h | h
    · exact .inl (by rw [h]; decide)
    · refine .inr (.inl ?_)
      rw [busTaken_dead_active hv hb hp, h]
      decide
  have auto : (bearing (busTaken n s)).mode = .auto := prepared.mode.trans hm
  have target : targetOf (bearing (busTaken n s)) (busTaken n s).settings.channels[j]
      (busTaken n s).cur.channels[j] = 0 := targetOf_held auto hold
  have reached := takenOf_reached (t := (busTaken n s).settings.channels[j]) (c := (busTaken n s).cur.channels[j]) auto
    (by rw [target, prepared.limit]; exact hl)
  rw [curOnBus_moved moved, applyTargets_taken]
  rwa [target] at reached

end Droop

/-! ### Shares (R148, R149) -/

section Shares

variable {s : State} {n : PointNames}

theorem onlineStale_iff (s : State) :
    onlineStale s = true ↔ ∃ g : Fin 4, s.gen.sets[g].state = .online ∧ s.meas.sets[g].stale = true := by
  simp only [onlineStale, onlineSets, List.any_eq_true, List.mem_filter, List.mem_finRange, true_and, decide_eq_true_eq]
  exact Iff.rfl

theorem newShares_frozen (h : onlineStale s = true) :
    newShares s = { s with cur := { s.cur with freeze := true } } := by
  rw [newShares_eq, if_pos h]
  rfl

theorem newShares_computed (h : ¬ onlineStale s = true) :
    newShares s = mapChannels (fun j c => { c with share := shareFor s (absorbableAmount s) j })
      (modCur (fun c => { c with freeze := false, absorbable := some (absorbableAmount s) }) s) := by
  rw [newShares_eq, if_neg h]

theorem curOnSet_eq (before after : SetState) (s : State) :
    curOnSet before after s =
      if (before = .online ∧ after ≠ .online) ∨ (before ≠ .online ∧ after = .online) then retarget s (newShares s)
      else s := by
  refine if_congr ?_ rfl rfl
  by_cases hb : before = .online <;> by_cases ha : after = .online <;> simp [hb, ha]

theorem curOnUpdate_eq (n : PointNames) (s : State) :
    curOnUpdate n s = if n.sets = [] ∧ n.channels = [] then s else retarget s (newShares s) :=
  if_congr (by simp) rfl rfl

theorem curOnStale_eq (n : PointNames) (s : State) :
    curOnStale n s =
      if ∃ g ∈ n.sets, s.gen.sets[g].state = .online then { s with cur := { s.cur with freeze := true } } else s :=
  if_congr (by simp only [List.any_eq_true, decide_eq_true_eq]; exact Iff.rfl) rfl rfl

end Shares

/-- Settles O48, part by part: the targets and limits, the figures of the constraints, CUR's answers to a frequency
value, to an entry into DEAD and into LIVE, and the shares. -/
theorem constraintsGiveTheTargetsAndLimits : Obligations.ConstraintsGiveTheTargetsAndLimits := by
  refine ⟨fun old s j => ?_, ⟨fun s f r hr hb => ?_, fun s a => ?_⟩, fun n v s hv hb hp => ?_, fun n s hv hb hp => ?_,
    fun n s hb hp => ?_, fun s => ?_⟩
  · have same := constraintsOf_eq_iff s old j
    refine ⟨rfl, pvTarget_out, pvTarget_monitor, pvTarget_held, pvTarget_free, fun hm hl => ?_, fun hm hl => ?_,
      fun hm => ?_, ?_, applyTargets_frame s, ⟨fun h => ?_, fun h => ?_⟩, retarget_frame old s⟩
    · rw [applyTargets_taken]
      exact takenOf_reached hm hl
    · rw [applyTargets_taken]
      exact takenOf_below hm hl
    · rw [applyTargets_taken]
      exact takenOf_monitor hm
    · rw [applyTargets_taken]
      rfl
    · rw [retarget_channel]
      exact if_pos (same.mpr h)
    · rw [retarget_channel, applyTargets_channel]
      exact if_neg (mt same.mp h)
  · exact ⟨droopLimitAt_nonneg s f hr, droopLimitAt_le s f hr, fun h => droopLimitAt_onset h r,
      fun h => droopLimitAt_band hb h r⟩
  · exact ⟨shareFor_sum_le s a, fun h j => shareFor_none_online h a j⟩
  · have still : n.bus = n.prev := hb.trans hp.symm
    have moved := curOnBus_moved_iff still s
    exact ⟨curOnBus_quiet hv still, curOnBus_begins hv still, curOnBus_ends hv still, curOnBus_goes_on hv still,
      ⟨fun h => curOnBus_stands still (mt moved.mp h), fun h hm => curOnBus_retargets (moved.mpr h) hm⟩,
      curOnBus_share n s, (curOnBus_zeroHold n s).trans (if_pos still), curOnBus_frame n s⟩
  · obtain ⟨active, -, -, -⟩ := curOnBus_taken n s
    refine ⟨?_, active.trans (busTaken_dead_active hv hb hp), fun hm moves j => curOnBus_dead_limit hv hb hp hm moves,
      curOnBus_dead_ends hv hb hp, curOnBus_dead_holds hv hb hp, curOnBus_frame n s⟩
    exact (curOnBus_zeroHold n s).trans (by rw [holdAfter, if_neg (by rw [hb]; exact hp.symm), hb])
  · exact (curOnBus_zeroHold n s).trans (by rw [holdAfter, if_neg (by rw [hb]; exact hp.symm), hb])
  · refine ⟨fun h => newShares_frozen ((onlineStale_iff s).mpr h), fun h => ?_,
      fun _ before after _ _ => curOnSet_eq before after s,
      fun names => ⟨curOnUpdate_eq names s, curOnStale_eq names s⟩⟩
    rw [newShares_computed (mt (onlineStale_iff s).mp h)]
    exact ⟨rfl, rfl, fun j => mapChannels_channel _ _ j, rfl, (modCur_frame _ _).trans (mapChannels_frame _ _)⟩

end Sys2Proof.Machine
